-- ==== Sys2Proof/Word.lean ====
section
/-! DEFINITION. The byte, the unit of every message of the host line and the field links (spec 11). -/
namespace Sys2Proof

/-- One byte of a message or a telegram (R183, R184). -/
abbrev Byte := BitVec 8

/-- The register of the host frame's CRC (R183). -/
abbrev CrcWord := BitVec 16

end Sys2Proof
end

