-- ==== Sys2Proof/Syntax.lean ====
section
/-! DEFINITION. The commands the unit takes: one constructor per row of spec/opcode_table.json, in the table's order.
The table gives its rows no operand fields; the operands here are the model's reading of each row (log entry 1). -/
namespace Sys2Proof

/-- R19: what stands on a field line after a start bit, as the receiver samples it; `true` is a 1, which is mark. -/
inductive FieldChar where
  /-- One character: the eight data bits, the parity bit and the stop bit. -/
  | bits (data : Byte) (parity stop : Bool)
  /-- The line held at space for longer than one whole character. -/
  | lineBreak
  deriving DecidableEq, Repr

/-- R169: what stands on the host line after a start bit, as the receiver samples it; `true` is a 1, which is mark. -/
inductive HostChar where
  /-- One character: the eight data bits and the stop bit. -/
  | bits (data : Byte) (stop : Bool)
  /-- The line held at space for longer than one whole character. -/
  | lineBreak
  deriving DecidableEq, Repr

/-- The commands. A host request carries its tag and its data bytes as they stand after the tag (R170, R186);
the four rows of SERVICE and the two of LINK_MODE fix the action or the mode that the row names. -/
inductive Instr where
  /-- The two rate straps as they stand when the reset ends, `true` for High (R169). -/
  | powerOnReset (firstStrap secondStrap : Bool)
  | carrierReturn (link : Nat)
  | carrierLoss (link : Nat)
  | tentativeForward (link : Nat) (c : FieldChar)
  | fieldTelegramComplete (link : Nat) (c : FieldChar)
  | telegramLengthDamaged (link : Nat) (c : FieldChar)
  | leadByteFragment (link : Nat) (c : FieldChar)
  | fieldGapTimeout (link : Nat)
  | mirrorTakeEntry (link : Nat)
  | telegramSent (link : Nat)
  | answerTimeout (element : Nat)
  | execTimeout (element : Nat)
  | noPush (element : Nat)
  | elementSilent (element : Nat)
  | lineTimeCount
  | startWindowDeadline (slot : Nat)
  | prechargeTimerExpiry (sect : Nat)
  | voltageTimerExpiry (sect : Nat)
  | meterStale (substation : Nat)
  | permitWaitLong (train : Nat)
  | escalationDeadline (number : Nat)
  | hostFrameDiscard (c : HostChar)
  | hostGapTimeout
  | replySent
  | unknownKind (kind tag : Byte) (data : List Byte)
  | identify (tag : Byte) (data : List Byte)
  | ldBegin (tag : Byte) (data : List Byte)
  | ldStations (tag : Byte) (data : List Byte)
  | ldRuns (tag : Byte) (data : List Byte)
  | ldSections (tag : Byte) (data : List Byte)
  | ldSubstations (tag : Byte) (data : List Byte)
  | ldElements (tag : Byte) (data : List Byte)
  | ldLinks (tag : Byte) (data : List Byte)
  | ldZones (tag : Byte) (data : List Byte)
  | ldParams (tag : Byte) (data : List Byte)
  | ldCommit (tag : Byte) (data : List Byte)
  | setLineTime (tag : Byte) (data : List Byte)
  | serviceStart (tag : Byte)
  | serviceSuspend (tag : Byte)
  | serviceResume (tag : Byte)
  | serviceEnd (tag : Byte)
  | warmRestart (tag : Byte) (data : List Byte)
  | ttAppend (tag : Byte) (data : List Byte)
  | ttAmend (tag : Byte) (data : List Byte)
  | ttCancel (tag : Byte) (data : List Byte)
  | ttQuery (tag : Byte) (data : List Byte)
  | trainAdd (tag : Byte) (data : List Byte)
  | trainAssign (tag : Byte) (data : List Byte)
  | trainRemove (tag : Byte) (data : List Byte)
  | trainHold (tag : Byte) (data : List Byte)
  | trainUnhold (tag : Byte) (data : List Byte)
  | trainQuery (tag : Byte) (data : List Byte)
  | regSet (tag : Byte) (data : List Byte)
  | secEnergize (tag : Byte) (data : List Byte)
  | secIsolate (tag : Byte) (data : List Byte)
  | secUnlock (tag : Byte) (data : List Byte)
  | pairMode (tag : Byte) (data : List Byte)
  | secQuery (tag : Byte) (data : List Byte)
  | incRaise (tag : Byte) (data : List Byte)
  | incAmend (tag : Byte) (data : List Byte)
  | incAck (tag : Byte) (data : List Byte)
  | incClose (tag : Byte) (data : List Byte)
  | incQuery (tag : Byte) (data : List Byte)
  | annStage (tag : Byte) (data : List Byte)
  | annBind (tag : Byte) (data : List Byte)
  | annClear (tag : Byte) (data : List Byte)
  | annRelease (tag : Byte) (data : List Byte)
  | annTrigger (tag : Byte) (data : List Byte)
  | annQuery (tag : Byte) (data : List Byte)
  | linkModeLoopback (tag link : Byte)
  | linkModeNormal (tag link : Byte)
  | linkQuery (tag : Byte) (data : List Byte)
  | elementQuery (tag : Byte) (data : List Byte)
  | elementPoll (tag : Byte) (data : List Byte)
  | fetchReports (tag : Byte) (data : List Byte)
  | readConditions (tag : Byte) (data : List Byte)
  | setMasks (tag : Byte) (data : List Byte)
  | fieldCharacterTaken (link : Nat) (c : FieldChar)
  | hostCharacterTaken (c : HostChar)
  deriving DecidableEq, Repr

end Sys2Proof
end

