-- ==== Sys2Proof/Decode.lean ====
section
/-! DEFINITION. The command a word spells by the bits of spec/opcode_table.json: the table gives none of its 79 rows
any bits ("fixed" and "fields" are absent from every row), so no word spells a command (log entry 1). Beside it the
list of the kind bytes that name a request of the host (R187, section 11.6). -/
namespace Sys2Proof

/-- The command a word of the table spells: none, since the table gives no row bits. -/
def decodeTableWord (_nbits _w : Nat) : Option Instr := none

/-- The kind bytes of the host's requests (section 11.6, "Host request kinds"). -/
def requestKinds : List Nat :=
  [0x10, 0x11, 0x12, 0x13, 0x14, 0x15, 0x16, 0x17, 0x18, 0x19, 0x1A, 0x1B, 0x1C, 0x1D] ++
  [0x20, 0x21, 0x22, 0x23] ++ [0x30, 0x31, 0x32, 0x33, 0x34, 0x35, 0x36] ++
  [0x40, 0x41, 0x42, 0x43, 0x44] ++ [0x50, 0x51, 0x52, 0x53, 0x54] ++
  [0x60, 0x61, 0x62, 0x63, 0x64, 0x65] ++ [0x70, 0x71, 0x72, 0x73] ++ [0x80, 0x81, 0x82]

/-- Whether a kind byte names a request of the unit (R174, first check). -/
def kindIsKnown (k : Byte) : Bool := requestKinds.contains k.toNat

end Sys2Proof
end

