-- ==== Sys2Proof/Config.lean ====
section
/-! DEFINITION. What the unit fixes: its capacities (00_scope.md, Capacities at a Glance; R17), its fixed times,
the bound of one step's cascade, and the one free value. -/
namespace Sys2Proof.Config

/-- R3, R17. -/
def maxStations : Nat := 32
/-- R5, R17. -/
def maxSections : Nat := 24
/-- R6, R17. -/
def maxSubstations : Nat := 12
/-- R9, R17. -/
def maxZones : Nat := 8
/-- R7, R17. -/
def maxElements : Nat := 256
/-- R17, R18. -/
def linkCount : Nat := 8
/-- R17, R72. -/
def trainSlots : Nat := 40
/-- R17, R60. -/
def maxEntries : Nat := 1024
/-- R17, R133. -/
def maxIncidents : Nat := 32
/-- R17, R133. -/
def maxHostIncidents : Nat := 28
/-- R17, R176. -/
def maxReports : Nat := 64
/-- R17, R170: the longest frame body. -/
def maxBody : Nat := 1022
/-- R172. -/
def maxReplies : Nat := 16
/-- R23. -/
def maxReceive : Nat := 16
/-- R28. -/
def maxTransmit : Nat := 12
/-- R14: the last line time of the service day. -/
def lastLineTime : Nat := 107999
/-- R17. -/
def vendorCode : Nat := 0x3D17
/-- R17. -/
def partCode : Nat := 0x0820
/-- R17: the letter B, sent as its ASCII code (log entry 16). -/
def revisionLetter : Nat := 0x42
/-- R124: the debounce and the recovery run 3 s of the tick, here in milliseconds. -/
def voltageTimerMs : Nat := 3000
/-- R127: a measurement is fresh for 10 s of the tick. -/
def meterFreshMs : Nat := 10000
/-- R22: the first whole millisecond that is more than 20 ms (log entry 5). -/
def fieldGapMs : Nat := 21
/-- R171: the first whole millisecond that is more than 50 ms (log entry 5). -/
def hostGapMs : Nat := 51

/-- How many notices between the blocks one command may bring about (log entry 6, DESIGN CHOICE). -/
def cascadeBound : Nat := 100000

/-- FREE VALUE (log entry 9): whether the publisher takes the train register's departure notice (which clears the
train's delay notice) before the regulator's writes of the same departure. R163 allows both orders; the argument is
`State.freeCount`, so each such departure chooses afresh. Asked only where one departure does both at one station. -/
opaque clearsBeforeWrite : Nat → Bool

end Sys2Proof.Config
end

