-- ==== Sys2Proof/Machine/State.lean ====
section
/-! DEFINITION. Everything the unit holds, block by block as the spec owns it (00_scope.md, Blocks), the notices that
pass between the blocks inside one step, the queue of waiting commands, the reasons a step can stop, and the unit
right after power-on reset. -/
namespace Sys2Proof.Machine

/-! ### Line description store and line clock (01) -/

/-- R1, section 1.3. -/
inductive ServiceState where
  | unconfigured | configured | inService | suspended
  deriving DecidableEq, Repr

/-- R5, R111. -/
inductive PairMode where
  | independent | tied | crossFed
  deriving DecidableEq, Repr

/-- R7: the kinds of an element that is not UNUSED. -/
inductive ElemKind where
  | breaker | platform | display | meter
  deriving DecidableEq, Repr

/-- R3: one station of the Stations table. -/
structure StationRow where
  sect : Nat
  up : Nat
  down : Nat
  display : Option Nat
  deriving DecidableEq, Repr

/-- R4: one run of the Runs table. -/
structure RunRow where
  sect : Nat
  upMin : Nat
  upMax : Nat
  downMin : Nat
  downMax : Nat
  deriving DecidableEq, Repr

/-- R5: one section of the Sections table; the voltage source is a meter element and a channel. -/
structure SectionRow where
  feeders : List Nat
  precharge : Nat
  chargeCheck : Bool
  underCheck : Bool
  source : Option (Nat × Nat)
  deriving DecidableEq, Repr

/-- R5: one pair of the Sections table. -/
structure PairRow where
  tie : Option Nat
  mode : PairMode
  deriving DecidableEq, Repr

/-- R5. -/
structure SectionsTable where
  sects : List SectionRow
  pairs : List PairRow
  deriving DecidableEq, Repr

/-- R6. -/
structure SubstationRow where
  capacity : Nat
  meter : Nat
  feeders : List Nat
  deriving DecidableEq, Repr

/-- R7: one element; the kind is absent for UNUSED. -/
structure ElementRow where
  kind : Option ElemKind
  link : Nat
  addr : Nat
  deriving DecidableEq, Repr

/-- R8: the fields of a used link. The rate is its code 0..4 of section 11.6. -/
structure LinkCfg where
  rate : Nat
  timeout : Nat
  level : Nat
  deriving DecidableEq, Repr

/-- R10: the line parameters. -/
structure Params where
  wMin : Nat
  wMax : Nat
  wDefault : Nat
  beta : Nat
  hNom : Nat
  threshold : Nat
  stopsAhead : Nat
  delayText : Nat
  startWindow : Nat
  startLoad : Nat
  runLoad : List Nat
  auxLoad : Nat
  permitWait : Nat
  stale : Nat
  nominal : Nat
  breakerExec : Nat
  platformExec : Nat
  displayExec : Nat
  autoTexts : List Nat
  deriving DecidableEq, Repr

/-- R1: the eight tables, each loaded or absent, the committed flag, and the line service state. -/
structure Lds where
  service : ServiceState
  committed : Bool
  stations : Option (List StationRow)
  runs : Option (List RunRow)
  sections : Option SectionsTable
  substations : Option (List SubstationRow)
  elements : Option (List ElementRow)
  links : Option (List (Option LinkCfg))
  zones : Option (List (List Nat))
  params : Option Params
  deriving DecidableEq, Repr

/-- R14: the line clock; `secondEnd` is the moment of the tick at which the present second of counting ends. -/
structure Clock where
  time : Nat
  running : Bool
  limitReported : Bool
  secondEnd : Nat
  deriving DecidableEq, Repr

/-! ### Values and orders of field elements (03) -/

/-- R38. -/
inductive BreakerValue where
  | opened | precharged | closed | tripped
  deriving DecidableEq, Repr

/-- R38: NONE, COUNTDOWN, GO, STOP. -/
inductive Indication where
  | blank | countdown | go | stop
  deriving DecidableEq, Repr

/-- R153: a text identity with its two parameters; text 0 is DEFAULT. -/
structure Content where
  text : Nat
  p1 : Nat
  p2 : Nat
  deriving DecidableEq, Repr

/-- R38: the value of each kind. A platform's indication is absent while only events have been received (log
entry 15). A meter's voltages are by channel 0..3, absent where never reported. -/
inductive Value where
  | breaker (v : BreakerValue)
  | platform (occupancy : Option Nat) (indication : Option Indication)
  | display (c : Content)
  | meter (load : Nat) (volts : List (Option Nat))
  deriving DecidableEq, Repr

/-- R28. -/
inductive OrderClass where
  | safety | control | display
  deriving DecidableEq, Repr

/-- R44: the block that originates an order. -/
inductive Origin where
  | regulator | supervisor | publisher
  deriving DecidableEq, Repr

/-- R44: the orders with what each carries; code, class, origin, target and payload follow from it. -/
inductive OrderData where
  | openBreaker
  | closePrecharge
  | closeFeed
  | dwell (train tDep dwell : Nat)
  | release (train level : Nat)
  | revoke (train : Nat)
  | showText (c : Content)
  deriving DecidableEq, Repr

/-- R37: the stage of an order, with the deadline of the timer that runs in it (R48, R49, R50). -/
inductive Stage where
  | queued
  | sent (deadline : Nat)
  | pushWait (deadline : Nat)
  | executing (deadline : Nat)
  deriving DecidableEq, Repr

/-- R37: an outstanding order. `token` tells it from every other order issued (log entry 26). -/
structure Order where
  data : OrderData
  token : Nat
  seq : Nat
  stage : Stage
  defers : Nat
  deriving DecidableEq, Repr

/-- R37, R46: a waiting successor has no sequence and no stage. -/
structure Waiting where
  data : OrderData
  token : Nat
  deriving DecidableEq, Repr

/-- R38. -/
inductive MirrorState where
  | unknown | reported | held | ordered
  deriving DecidableEq, Repr

/-- R37. -/
inductive Authority where
  | unknown | remote | localCtl
  deriving DecidableEq, Repr

/-- R37: a POLL sent and its timer. -/
structure PollWait where
  seq : Nat
  deadline : Nat
  deriving DecidableEq, Repr

/-- R37: one mirror entry. -/
structure MirrorEntry where
  el : Nat
  kind : ElemKind
  link : Nat
  addr : Nat
  authority : Authority
  state : MirrorState
  value : Option Value
  out : Option Order
  succ : Option Waiting
  poll : Option PollWait
  seq : Nat
  deriving DecidableEq, Repr

/-- R54: the result of an order. -/
inductive Result where
  | complete
  | already
  | diverged (v : Value)
  | localCtl
  | unknown
  | rejected (reason : Nat)
  | superseded
  | timeout
  | execTimeout
  | deferredOut
  | noPush
  | linkDown
  | linkFull
  | evicted
  deriving DecidableEq, Repr

/-- R54: an outcome as it is delivered to its origin; `atIssue` says that the order never joined its link. -/
structure OutcomeMsg where
  el : Nat
  data : OrderData
  token : Nat
  result : Result
  atIssue : Bool
  deriving DecidableEq, Repr

/-- R42: the cause of a value notice; `order` is the cause of a change of mirror state that an order's own exchange
makes without a STATE, EVENT or EXECUTED telegram (log entry 10). -/
inductive Cause where
  | state
  | event (code : Nat)
  | executed
  | unknown
  | order
  deriving DecidableEq, Repr

/-- R42: a value notice. `carried` holds the voltages the telegram itself carried; `moment` is the tick moment. -/
structure ValueNotice where
  el : Nat
  kind : ElemKind
  state : MirrorState
  authority : Authority
  value : Option Value
  cause : Cause
  carried : List (Option Nat)
  moment : Nat
  deriving DecidableEq, Repr

/-! ### Field links (02) -/

/-- R18. -/
inductive LinkState where
  | disabled | down | up | loopback
  deriving DecidableEq, Repr

/-- R20, R21: hunting, or the bytes taken after the lead, the damage mark, the pending-lead mark and the moment of the
last character (R22). -/
inductive Assembler where
  | hunting
  | busy (bytes : List Byte) (damaged pendingLead : Bool) (last : Nat)
  deriving DecidableEq, Repr

/-- R184: a telegram without its lead, length and check word. -/
structure Telegram where
  addr : Byte
  kind : Byte
  seq : Byte
  payload : List Byte
  deriving DecidableEq, Repr

/-- R23. -/
inductive Annotation where
  | damaged | fragment | check
  deriving DecidableEq, Repr

/-- R23: a receive queue entry. -/
inductive RxEntry where
  | telegram (t : Telegram) (forwarded looped : Bool)
  | annotation (a : Annotation) (looped : Bool)
  deriving DecidableEq, Repr

/-- R24: the event a tentative slot of a link holds: the element, ARRIVAL (or DEPARTURE), and the train as received. -/
structure Forwarded where
  el : Nat
  arrival : Bool
  train : Nat
  deriving DecidableEq, Repr

/-- R28: a transmit queue entry; class, origin, code and payload follow from the order. -/
structure TxEntry where
  el : Nat
  addr : Nat
  seq : Nat
  data : OrderData
  token : Nat
  deriving DecidableEq, Repr

/-- R29: what the transmitter is sending. -/
inductive Sending where
  | order (e : TxEntry)
  | poll (el addr seq : Nat)
  deriving DecidableEq, Repr

/-- R29, R34: the telegram in the transmitter and its characters that have not yet been looped back. -/
structure Transmitter where
  what : Sending
  left : List Byte
  deriving DecidableEq, Repr

/-- R18: one link record. -/
structure LinkRec where
  state : LinkState
  carrier : Bool
  cfg : Option LinkCfg
  asm : Assembler
  tentative : Option Forwarded
  rx : List RxEntry
  congested : Bool
  tx : List TxEntry
  sender : Option Transmitter
  polls : List Nat
  errCheck : Bool
  errDamaged : Bool
  errFragment : Bool
  errOverrun : Bool
  deriving DecidableEq, Repr

/-! ### Timetable window (04) -/

/-- R59: an entry; it is MATCHED while a train is bound and PENDING otherwise. -/
structure TtEntry where
  trip : Nat
  stop : Nat
  p : Nat
  w : Nat
  rp : Option Nat
  bound : Option Nat
  deriving DecidableEq, Repr

/-- R70. -/
structure LastDeparture where
  trip : Option Nat
  p : Option Nat
  d : Nat
  train : Nat
  deriving DecidableEq, Repr

/-- R60, R70: the entries by ascending P and then stop index, and one record for each stop. -/
structure Window where
  entries : List TtEntry
  last : List (Option LastDeparture)
  deriving DecidableEq, Repr

/-! ### Train register (05) -/

/-- R72. -/
inductive Direction where
  | up | down
  deriving DecidableEq, Repr

/-- R73: the position states of a slot that holds a train. -/
inductive Position where
  | unlocated | atStop | running | turning
  deriving DecidableEq, Repr

/-- R72, R84. -/
inductive LoadPhase where
  | aux | starting | run
  deriving DecidableEq, Repr

/-- R72: a line time with its tentative flag. -/
structure Stamp where
  time : Nat
  tentative : Bool
  deriving DecidableEq, Repr

/-- R72: the matched entry of a train; LAST when `rp` is absent. -/
structure Matched where
  p : Nat
  w : Nat
  rp : Option Nat
  deriving DecidableEq, Repr

/-- R72, R77: what a tentative event changed, to be put back at its withdrawal. -/
structure Saved where
  pos : Position
  stop : Option Nat
  arr : Option Stamp
  dep : Option Stamp
  deriving DecidableEq, Repr

/-- R72: the record of a train in service. -/
structure Train where
  id : Nat
  dir : Direction
  pos : Position
  stop : Option Nat
  trip : Option Nat
  entry : Option Matched
  following : List Nat
  arr : Option Stamp
  dep : Option Stamp
  arrLate : Int
  depLate : Option Int
  terminating : Bool
  permit : Bool
  phase : LoadPhase
  level : Nat
  startDeadline : Option Nat
  saved : Option Saved
  deriving DecidableEq, Repr

/-- R75..R77. -/
inductive TentativeStatus where
  | applied | declined | voided
  deriving DecidableEq, Repr

/-- R75: a tentative slot of the train register. The stop is absent for a platform element of no station
(log entry 13). -/
structure TentativeSlot where
  el : Nat
  arrival : Bool
  train : Nat
  stop : Option Nat
  status : TentativeStatus
  deriving DecidableEq, Repr

/-- R72: 40 slots (absent: OUT_OF_SERVICE) and one tentative slot for each link. -/
structure Register where
  slots : List (Option Train)
  tentative : List (Option TentativeSlot)
  deriving DecidableEq, Repr

/-! ### Regulator (06) -/

/-- R90. -/
inductive Phase where
  | planning | dwelling | waitingPermit | released | held | terminating | noRegulation
  deriving DecidableEq, Repr

/-- R90: the permit of a stand. -/
inductive Permit where
  | none
  | requested
  | granted (level : Nat)
  deriving DecidableEq, Repr

/-- R90: the platform order of a stand, with the token of the order whose outcome is awaited. -/
inductive PlatformOrder where
  | none
  | dwell (token : Nat)
  | releaseWaiting (dwellToken : Nat)
  | release (token : Nat)
  | revoke (token : Nat)
  deriving DecidableEq, Repr

/-- R95..R97: the inputs and results of a plan. -/
structure Plan where
  a : Nat
  p : Option Nat
  w : Nat
  rp : Option Nat
  pPrev : Option Nat
  dPrev : Option Nat
  lateness : Int
  tSched : Nat
  hPlan : Nat
  tHead : Nat
  delta : Int
  tTgt : Int
  dwell : Nat
  tDep : Nat
  deriving DecidableEq, Repr

/-- R90: the stand record of a train at a stop. The HOST reason is in the hold record. `earlier` holds the tokens of the
stand's DWELL orders still in flight that the DWELL of a later plan has followed (R98, R106, log entry 20). -/
structure Stand where
  stop : Nat
  el : Nat
  sect : Nat
  phase : Option Phase
  field : Bool
  incident : Bool
  power : Bool
  plan : Option Plan
  permit : Permit
  order : PlatformOrder
  relFails : Nat
  revokeFailed : Bool
  earlier : List Nat
  deriving DecidableEq, Repr

/-- R110. -/
inductive SectState where
  | unknown | dead | precharge | live | isolating | tripped
  deriving DecidableEq, Repr

/-- R90: hold flags and stands by train slot, the working values, and what the regulator was last told. -/
structure Regulator where
  hostHold : List Bool
  stands : List (Option Stand)
  beta : Option Nat
  threshold : Option Nat
  heldStations : List Nat
  sectView : List (SectState × Bool)
  deriving DecidableEq, Repr

/-! ### Traction supervisor (07) -/

/-- R120: the four kinds of isolation. -/
inductive IsoKind where
  | host | abort | chargeFail | derived
  deriving DecidableEq, Repr

/-- R116, R117: the steps of an energize; `feedClose` holds the feeders still to be ordered and those awaited. -/
inductive EnergizeStep where
  | tie
  | prechargeClose
  | precharge (deadline : Nat)
  | feedClose (todo awaited : List Nat)
  deriving DecidableEq, Repr

/-- R110: the sequence in progress. `ordered` holds the breakers the energize has ordered closed (R119), `moment` the
precharge moment, `voltage` the latest voltage of the source taken after it (R117). `mustRead` marks the isolation
begun on a TRIPPED section, which awaits OPEN alone (R120). -/
inductive Sequence where
  | energize (named : Nat) (step : EnergizeStep) (ordered : List Nat) (moment : Option Nat) (voltage : Option Nat)
  | isolate (kind : IsoKind) (awaited : List Nat) (mustRead : Bool)
  deriving DecidableEq, Repr

/-- R110, R124. -/
inductive VoltageTimer where
  | stopped
  | debounce (deadline : Nat)
  | recovery (deadline : Nat)
  deriving DecidableEq, Repr

/-- R110: a section record. The sequence of a TIED or CROSS_FED pair is in the even section's record. -/
structure SectRec where
  state : SectState
  lockout : Bool
  low : Bool
  demand : Bool
  feeders : List Nat
  seq : Option Sequence
  timer : VoltageTimer
  stranded : List Nat
  lastVolt : Option (Nat × Nat)
  deriving DecidableEq, Repr

/-- R111. -/
structure PairRec where
  mode : PairMode
  tie : Option Nat
  deriving DecidableEq, Repr

/-- R111: a substation record; the measurement is the load with the tick moment it was taken. -/
structure SubRec where
  capacity : Nat
  meter : Nat
  feeders : List Nat
  estimate : Nat
  meas : Option (Nat × Nat)
  fresh : Bool
  staleReported : Bool
  overload : Bool
  deriving DecidableEq, Repr

/-- R128. -/
structure PermitRequest where
  train : Nat
  sect : Nat
  joined : Nat
  reported : Bool
  deriving DecidableEq, Repr

/-- R129. -/
structure PermitRec where
  train : Nat
  sect : Nat
  granted : Nat
  deriving DecidableEq, Repr

/-- R85: a load notice; `running` says that the register records the train RUNNING (R131). -/
structure LoadNote where
  train : Nat
  phase : LoadPhase
  level : Nat
  sect : Option Nat
  running : Bool
  deriving DecidableEq, Repr

/-- R110, R111, R126, R128, R129. -/
structure Supervisor where
  sects : List SectRec
  pairs : List PairRec
  subs : List SubRec
  waitList : List PermitRequest
  permits : List PermitRec
  loads : List (Option LoadNote)
  deriving DecidableEq, Repr

/-! ### Incident manager (08) -/

/-- R133, R136: five host kinds and eight auto kinds. -/
inductive IncKind where
  | obstruction | evacuation | platformCrowding | equipment | generic
  | powerTrip | chargeFail | powerLoss | overload | stranded | platformConflict | linkLoss | orderFailure
  deriving DecidableEq, Repr

/-- R135. -/
inductive IncState where
  | opened | acknowledged | resolved
  deriving DecidableEq, Repr

/-- R133: one incident; its origin is HOST exactly for the host kinds. -/
structure Incident where
  number : Nat
  kind : IncKind
  key : Option Nat
  severity : Nat
  state : IncState
  span : Option (List Nat)
  sects : List Nat
  hold : Bool
  isolate : Bool
  ann : Option Content
  openedAt : Nat
  ackedAt : Option Nat
  count : Nat
  deadline : Option Nat
  widened : Bool
  deriving DecidableEq, Repr

/-- R133, R134, R146: the table in opening order, the next number, and the outputs last handed on. -/
structure IncidentMgr where
  table : List Incident
  next : Nat
  lastHeld : List Nat
  lastDemand : List Nat
  lastContent : List (Option Content)
  deriving DecidableEq, Repr

/-! ### Announcement publisher (09) -/

/-- R154: the layers the host writes. -/
inductive HostLayer where
  | service | routine
  deriving DecidableEq, Repr

/-- R154. -/
structure Staging where
  text : Nat
  p1 : Nat
  p2 : Nat
  layer : HostLayer
  deriving DecidableEq, Repr

/-- R152: the pending part of a host layer. -/
inductive PendingPart where
  | absent
  | content (c : Content)
  | emptyMark
  deriving DecidableEq, Repr

/-- R152: a delay notice. -/
structure DelayNotice where
  text : Nat
  minutes : Nat
  train : Nat
  deriving DecidableEq, Repr

/-- R152. -/
inductive SendStatus where
  | noDisplay | neverSent | sending | confirmed | unconfirmed
  deriving DecidableEq, Repr

/-- R152: a station record. `lastFailure` is a result code; `shown` is the reported content with its mirror state. -/
structure StationRec where
  display : Option Nat
  zone : Nat
  incident : Option Content
  service : Option Content
  servicePending : PendingPart
  delay : Option DelayNotice
  routine : Option Content
  routinePending : PendingPart
  status : SendStatus
  lastSent : Option Content
  inFlight : Nat
  lastFailure : Option Nat
  shown : Option (Option Content × MirrorState)
  deriving DecidableEq, Repr

/-- R158. -/
inductive Trigger where
  | off
  | arrival (stop : Nat)
  | minute
  deriving DecidableEq, Repr

/-- R152, R154, R158. -/
structure Publisher where
  staging : Staging
  stations : List StationRec
  triggers : List Trigger
  deriving DecidableEq, Repr

/-! ### Host port (10) -/

/-- R169. -/
inductive HostRate where
  | r115200 | r460800 | r921600
  deriving DecidableEq, Repr

/-- R170: hunting, or the bytes taken after the lead, the pending-lead mark and the moment of the last character. -/
inductive Receiver where
  | hunting
  | busy (bytes : List Byte) (pendingLead : Bool) (last : Nat)
  deriving DecidableEq, Repr

/-- R173: a composed reply, DONE or REFUSED, with its tag and data. -/
structure Reply where
  refused : Bool
  tag : Byte
  data : List Byte
  deriving DecidableEq, Repr

/-- R175. -/
inductive ReportKind where
  | arrived | departed | unknownTrain | positionJump | earlyDeparture | holdTooLate | dwellOrderFailed
  | releaseFailed | permitWaitLong | tripEnded | entryExpired
  | sectionState | energizeAborted | meterStale
  | incidentRaised | incidentMerged | escalated | incidentResolved
  | orderFailed | elementSilent | linkState | linkCongested | loopEcho | fieldInconsistent
  | displayFailed
  | serviceState | serviceDayLimit
  deriving DecidableEq, Repr

/-- R175: the subject of a report. -/
inductive Subject where
  | train (n : Nat)
  | element (n : Nat)
  | sect (n : Nat)
  | substation (n : Nat)
  | incident (n : Nat)
  | link (n : Nat)
  | stop (n : Nat)
  deriving DecidableEq, Repr

/-- R175: a report record. -/
structure Report where
  kind : ReportKind
  time : Nat
  subject : Option Subject
  detail1 : Option Nat
  detail2 : Option Nat
  deriving DecidableEq, Repr

/-- R178, R180: a set of the seven conditions. -/
structure Conditions where
  restarted : Bool
  hostFrameError : Bool
  reportOverflow : Bool
  linkFault : Bool
  powerAlert : Bool
  incidentOpen : Bool
  incidentOverflow : Bool
  deriving DecidableEq, Repr

/-- R178: whether the cause of each latched condition stands. -/
structure Causes where
  linkFault : Bool
  powerAlert : Bool
  incidentOpen : Bool
  deriving DecidableEq, Repr

/-- R180: a set of the six report classes. -/
structure ClassMask where
  train : Bool
  power : Bool
  incident : Bool
  field : Bool
  announce : Bool
  service : Bool
  deriving DecidableEq, Repr

/-- R182: the host port. -/
structure HostPort where
  rate : HostRate
  receiver : Receiver
  replies : List Reply
  reports : List Report
  flags : Conditions
  causes : Causes
  condMask : Conditions
  classMask : ClassMask
  attention : Bool
  deriving DecidableEq, Repr

/-! ### Notices between the blocks -/

/-- The reply of a request that is composed after its effects have run out through the blocks (R172). -/
inductive Answer where
  | done (data : List Byte)
  | holds (train : Nat)
  | released (changed ordersBefore : Nat)
  | sectFlags (sect : Nat)
  | incident (number : Nat)
  deriving DecidableEq, Repr

/-- A notice on a path between blocks (00_scope.md, Paths), named by the block that takes it. They are delivered
inside the step that makes them, each with all it brings about before the next (log entry 6). -/
inductive Notice where
  -- element mirror
  | issue (el : Nat) (d : OrderData) (token : Nat)
  | follow (el : Nat) (c : Cause) (ended : OrderData) (r : Result)
  | evicted (el token : Nat)
  | pollAll
  | outcome (o : OutcomeMsg)
  | value (v : ValueNotice)
  -- host port
  | report (k : ReportKind) (subject : Option Subject) (d1 d2 : Option Nat)
  | answer (tag : Byte) (a : Answer)
  -- timetable window
  | expire
  -- train register
  | tentativeEvent (link el : Nat) (arrival : Bool) (train : Nat)
  | tentativeEnd (link : Nat) (confirmed : Bool)
  | confirmedEvent (arrival : Bool) (train stop : Nat)
  | positionReport (train stop : Nat) (was : Option Nat) (jump : Bool)
  | permitGiven (train level : Nat)
  | permitReturned (train : Nat)
  | slotFreed (slot train : Nat)
  -- regulator
  | standTentative (slot : Nat)
  | standWithdrawn (slot : Nat)
  | standArrived (slot : Nat)
  | standDeparted (slot train : Nat) (late : Option Int) (trip p : Option Nat)
  | standEnded (slot : Nat)
  | trainGone (slot train : Nat)
  | due (slot : Nat)
  | granted (train t : Nat)
  | requestRemoved (train sect : Nat) (st : SectState) (low : Bool)
  | sectChanged (sect : Nat) (st : SectState) (low : Bool)
  | heldStations (set : List Nat)
  -- traction supervisor
  | permitRequest (train sect : Nat)
  | permitWithdraw (train : Nat)
  | permitEnded (train : Nat)
  | reexamine
  | walk (trains : List Nat)
  | load (slot : Nat) (n : LoadNote)
  | unload (slot train : Nat)
  | openBreaker (el : Nat)
  | nextClose (base : Nat)
  | isolationCheck (base : Nat)
  | derive (base : Nat)
  | leftLive (sect : Nat)
  | becameLive (sect : Nat)
  | demands (set : List Nat)
  | demandAct (sect : Nat)
  -- incident manager
  | raise (k : IncKind) (key : Nat)
  | resolve (k : IncKind) (key : Nat)
  | deriveEffects
  | handHeld
  | handDemands
  | handContent (station : Nat)
  -- announcement publisher
  | incidentContent (station : Nat) (c : Option Content)
  | delayWrite (station : Nat) (n : DelayNotice)
  | delayWithdraw (train : Nat)
  | trainDeparted (train stop : Nat)
  | trainArrived (stop : Nat)
  | releaseStation (station : Nat)
  | judge (station : Nat)
  | showRaised (station : Nat)
  deriving DecidableEq, Repr

/-! ### The state -/

/-- The whole unit, its waiting commands, and four fields of the model's own (INVENTORY.md, "Model's own"). -/
structure State where
  pending : List Instr
  tick : Nat
  lds : Lds
  clock : Clock
  links : List LinkRec
  mirror : List MirrorEntry
  window : Window
  reg : Register
  rgl : Regulator
  tsv : Supervisor
  inc : IncidentMgr
  anp : Publisher
  hpt : HostPort
  agenda : List Notice
  orderCount : Nat
  freeCount : Nat
  deriving DecidableEq, Repr

/-- The reasons a step stops with a fault. The spec names none (R172: every request is answered); each is raised by
the meanings, on a command that names nothing the unit has (log entry 3). -/
inductive Fault where
  /-- Raised by the link commands for a link above 7. Safe: no such line exists. -/
  | noSuchLink
  /-- Raised by the element timers for an element above 255. Safe: no such element exists. -/
  | noSuchElement
  /-- Raised by START_WINDOW_DEADLINE for a slot above 39. Safe: no such slot exists. -/
  | noSuchSlot
  /-- Raised by the section timers for a section above 23. Safe: no such section exists. -/
  | noSuchSection
  /-- Raised by METER_STALE for a substation above 11. Safe: no such substation exists. -/
  | noSuchSubstation
  /-- Raised by PERMIT_WAIT_LONG for an identity outside 1..999. Safe: no such train exists. -/
  | noSuchTrain
  /-- Raised by ESCALATION_DEADLINE for a number outside 1..65,535. Safe: no such incident exists. -/
  | noSuchIncident
  /-- Raised by UNKNOWN_KIND for a kind that names a request. Safe: that frame is the other request. -/
  | kindIsKnown
  deriving DecidableEq, Repr

/-- The reasons a step is refused. -/
inductive Refusal where
  /-- Raised by an arm of `exec` that has no meaning yet; no arm does. Safe. -/
  | notModelled (mnemonic : String)
  deriving DecidableEq, Repr

/-- R1: the empty store. -/
def Lds.empty : Lds :=
  { service := .unconfigured, committed := false, stations := none, runs := none, sections := none,
    substations := none, elements := none, links := none, zones := none, params := none }

/-- R14. -/
def Clock.reset : Clock := { time := 0, running := false, limitReported := false, secondEnd := 0 }

/-- R18: a link record at power-on, with the carrier as the input shows it. -/
def LinkRec.reset (carrier : Bool) : LinkRec :=
  { state := .disabled, carrier := carrier, cfg := none, asm := .hunting, tentative := none, rx := [],
    congested := false, tx := [], sender := none, polls := [], errCheck := false, errDamaged := false,
    errFragment := false, errOverrun := false }

/-- R61. -/
def Window.empty : Window := { entries := [], last := [] }

/-- R72. -/
def Register.empty : Register :=
  { slots := List.replicate Config.trainSlots none, tentative := List.replicate Config.linkCount none }

/-- R90: no stands, clear flags, an empty held set and every section UNKNOWN; the working values as given. -/
def Regulator.cleared (beta threshold : Option Nat) (nSects : Nat) : Regulator :=
  { hostHold := List.replicate Config.trainSlots false, stands := List.replicate Config.trainSlots none,
    beta := beta, threshold := threshold, heldStations := [],
    sectView := List.replicate nSects (.unknown, false) }

/-- R110, R111, R128: no records. -/
def Supervisor.empty : Supervisor :=
  { sects := [], pairs := [], subs := [], waitList := [], permits := [],
    loads := List.replicate Config.trainSlots none }

/-- R150: an empty table with the given next number. -/
def IncidentMgr.cleared (next : Nat) : IncidentMgr :=
  { table := [], next := next, lastHeld := [], lastDemand := [], lastContent := [] }

/-- R154. -/
def Staging.empty : Staging := { text := 0, p1 := 0, p2 := 0, layer := .service }

/-- R168. -/
def Publisher.cleared (st : Staging) : Publisher := { staging := st, stations := [], triggers := [] }

/-- R182: no condition. -/
def Conditions.none : Conditions :=
  { restarted := false, hostFrameError := false, reportOverflow := false, linkFault := false,
    powerAlert := false, incidentOpen := false, incidentOverflow := false }

/-- R182: the flags after either reset. -/
def Conditions.restart : Conditions := { Conditions.none with restarted := true }

/-- R178: no cause stands. -/
def Causes.none : Causes := { linkFault := false, powerAlert := false, incidentOpen := false }

/-- R182: no class is masked. -/
def ClassMask.none : ClassMask :=
  { train := false, power := false, incident := false, field := false, announce := false, service := false }

/-- R182: the host port after power-on, at the rate the straps gave. -/
def HostPort.reset (rate : HostRate) : HostPort :=
  { rate := rate, receiver := .hunting, replies := [], reports := [], flags := Conditions.restart,
    causes := Causes.none, condMask := Conditions.none, classMask := ClassMask.none, attention := true }

/-- R16: every block at its power-on values, with the carriers the inputs show, the sampled rate and the queue of
waiting commands. -/
def State.powerOn (pending : List Instr) (carriers : List Bool) (rate : HostRate) : State :=
  { pending := pending, tick := 0, lds := Lds.empty, clock := Clock.reset,
    links := carriers.map LinkRec.reset, mirror := [], window := Window.empty, reg := Register.empty,
    rgl := Regulator.cleared none none 0, tsv := Supervisor.empty, inc := IncidentMgr.cleared 1,
    anp := Publisher.cleared Staging.empty, hpt := HostPort.reset rate, agenda := [], orderCount := 0,
    freeCount := 0 }

/-- The unit right after power-on reset: no command waits, no carrier is present and both straps are Low (log
entry 21). -/
def State.reset : State := State.powerOn [] (List.replicate Config.linkCount false) .r115200

end Sys2Proof.Machine
end

