-- ==== Sys2Proof/Machine/Flags.lean ====
section
/-! DEFINITION. Every flag computation of the unit: the condition flags and their masks, the three latched causes, the
attention pin, the class of a report, and the sets of flags as the bytes that carry them (10, section 11.6). -/
namespace Sys2Proof.Machine

/-- One bit of a set byte. -/
def bitOf (b : Bool) (place : Nat) : Nat := if b then 2 ^ place else 0

/-- Whether a set byte has a member. -/
def hasBit (n place : Nat) : Bool := n / 2 ^ place % 2 == 1

/-- The conditions as a set byte, by the mask bits of section 11.6. -/
def Conditions.toNat (c : Conditions) : Nat :=
  bitOf c.restarted 0 + bitOf c.hostFrameError 1 + bitOf c.reportOverflow 2 + bitOf c.linkFault 3 +
  bitOf c.powerAlert 4 + bitOf c.incidentOpen 5 + bitOf c.incidentOverflow 6

/-- The set a condition mask byte names. -/
def Conditions.ofNat (n : Nat) : Conditions :=
  { restarted := hasBit n 0, hostFrameError := hasBit n 1, reportOverflow := hasBit n 2, linkFault := hasBit n 3,
    powerAlert := hasBit n 4, incidentOpen := hasBit n 5, incidentOverflow := hasBit n 6 }

/-- The report-class mask as a set byte, by the class bits of section 11.6. -/
def ClassMask.toNat (c : ClassMask) : Nat :=
  bitOf c.train 0 + bitOf c.power 1 + bitOf c.incident 2 + bitOf c.field 3 + bitOf c.announce 4 + bitOf c.service 5

/-- The set a report-class mask byte names. -/
def ClassMask.ofNat (n : Nat) : ClassMask :=
  { train := hasBit n 0, power := hasBit n 1, incident := hasBit n 2, field := hasBit n 3,
    announce := hasBit n 4, service := hasBit n 5 }

/-- The causes as a set byte: LINK_FAULT, POWER_ALERT, INCIDENT_OPEN at their condition bits (log entry 16). -/
def Causes.toNat (c : Causes) : Nat :=
  bitOf c.linkFault 3 + bitOf c.powerAlert 4 + bitOf c.incidentOpen 5

/-- R180, R176: whether the class of a report kind is in the mask (section 11.6, "Report kinds"). -/
def ClassMask.masks (m : ClassMask) : ReportKind → Bool
  | .arrived => m.train
  | .departed => m.train
  | .unknownTrain => m.train
  | .positionJump => m.train
  | .earlyDeparture => m.train
  | .holdTooLate => m.train
  | .dwellOrderFailed => m.train
  | .releaseFailed => m.train
  | .permitWaitLong => m.train
  | .tripEnded => m.train
  | .entryExpired => m.train
  | .sectionState => m.power
  | .energizeAborted => m.power
  | .meterStale => m.power
  | .incidentRaised => m.incident
  | .incidentMerged => m.incident
  | .escalated => m.incident
  | .incidentResolved => m.incident
  | .orderFailed => m.field
  | .elementSilent => m.field
  | .linkState => m.field
  | .linkCongested => m.field
  | .loopEcho => m.field
  | .fieldInconsistent => m.field
  | .displayFailed => m.announce
  | .serviceState => m.service
  | .serviceDayLimit => m.service

/-- R35: any error flag of a link. -/
def LinkRec.anyError (l : LinkRec) : Bool := l.errCheck || l.errDamaged || l.errFragment || l.errOverrun

/-- R114: what makes the cause of POWER_ALERT stand. -/
def SectRec.alert (r : SectRec) : Bool := r.state == .tripped || r.lockout || r.low

/-- R35, R114, R135: which causes stand, read from the blocks that keep them. -/
def State.causesNow (s : State) : Causes :=
  { linkFault := s.links.any LinkRec.anyError
    powerAlert := s.tsv.sects.any SectRec.alert
    incidentOpen := s.inc.table.any (fun i => i.state == .opened) }

/-- R178: a latched condition is set when its cause appears. -/
def Conditions.latch (f : Conditions) (old now : Causes) : Conditions :=
  { f with
    linkFault := f.linkFault || (now.linkFault && !old.linkFault)
    powerAlert := f.powerAlert || (now.powerAlert && !old.powerAlert)
    incidentOpen := f.incidentOpen || (now.incidentOpen && !old.incidentOpen) }

/-- R178: the host port takes the causes as they now stand and latches those that have appeared. -/
def State.latch (s : State) : State :=
  { s with hpt := { s.hpt with flags := s.hpt.flags.latch s.hpt.causes s.causesNow, causes := s.causesNow } }

/-- R179: the flags left by a read: all clear but the latched ones whose cause still stands. -/
def Conditions.afterRead (c : Causes) : Conditions :=
  { Conditions.none with linkFault := c.linkFault, powerAlert := c.powerAlert, incidentOpen := c.incidentOpen }

/-- R181: some flag is set whose condition is not masked. -/
def Conditions.unmasked (f mask : Conditions) : Bool :=
  (f.restarted && !mask.restarted) || (f.hostFrameError && !mask.hostFrameError) ||
  (f.reportOverflow && !mask.reportOverflow) || (f.linkFault && !mask.linkFault) ||
  (f.powerAlert && !mask.powerAlert) || (f.incidentOpen && !mask.incidentOpen) ||
  (f.incidentOverflow && !mask.incidentOverflow)

/-- R181: what asserts the ATTN output while the RESET pin is deasserted. -/
def State.attn (s : State) : Bool :=
  s.hpt.flags.unmasked s.hpt.condMask || (!s.hpt.reports.isEmpty && s.hpt.attention)

/-- R181: the ATTN output by the level of the RESET pin: while RESET is asserted, ATTN is deasserted. The level is an input
that the unit does not hold; no step begins or ends while it is asserted (log entry 22). -/
def State.attnPin (resetAsserted : Bool) (s : State) : Bool := !resetAsserted && s.attn

/-- R182, R178: HOST_FRAME_ERROR is set. -/
def State.flagFrameError (s : State) : State :=
  { s with hpt := { s.hpt with flags := { s.hpt.flags with hostFrameError := true } } }

/-- R178: INCIDENT_OVERFLOW is set. -/
def State.flagIncidentOverflow (s : State) : State :=
  { s with hpt := { s.hpt with flags := { s.hpt.flags with incidentOverflow := true } } }

/-- The standing hold reasons as a set byte (section 11.6, "Hold reasons, by bit"). -/
def holdBits (host field incident power : Bool) : Nat :=
  bitOf host 0 + bitOf field 1 + bitOf incident 2 + bitOf power 3

end Sys2Proof.Machine
end

