-- ==== Sys2Proof/Machine/Ops.lean ====
section
/-! DEFINITION. The shared operations: posting a notice, making a report, queueing a reply, reading the committed
description, reading and writing one record of each block, issuing an order. A block has no addressed memory and no
exception entry; these named operations are the only ways in which one block's state is read or written. -/
namespace Sys2Proof.Machine

/-! ### Notices, reports, replies, tick -/

/-- A notice joins the agenda after those already posted. -/
def State.post (n : Notice) (s : State) : State := { s with agenda := s.agenda ++ [n] }

/-- Several notices, in order. -/
def State.posts (ns : List Notice) (s : State) : State := { s with agenda := s.agenda ++ ns }

/-- R176: a report is judged against the class mask, then joins the queue or is dropped with REPORT_OVERFLOW. -/
def State.report (k : ReportKind) (subject : Option Subject) (d1 d2 : Option Nat) (s : State) : State :=
  if s.hpt.classMask.masks k then s
  else if s.hpt.reports.length < Config.maxReports then
    { s with hpt := { s.hpt with reports := s.hpt.reports ++
        [{ kind := k, time := s.clock.time, subject := subject, detail1 := d1, detail2 := d2 }] } }
  else { s with hpt := { s.hpt with flags := { s.hpt.flags with reportOverflow := true } } }

/-- R172: a composed reply joins the tail of the reply queue. -/
def State.reply (r : Reply) (s : State) : State :=
  { s with hpt := { s.hpt with replies := s.hpt.replies ++ [r] } }

/-- A DONE reply with its results (R173). -/
def State.done (tag : Byte) (data : List Byte) (s : State) : State :=
  s.reply { refused := false, tag := tag, data := data }

/-- Log entry 4: the expiry of a timer brings the tick to its deadline, if it is not past it already. -/
def State.reach (deadline : Nat) (s : State) : State := { s with tick := max s.tick deadline }

/-- The moment `seconds` from now on the tick. -/
def State.inSeconds (seconds : Nat) (s : State) : Nat := s.tick + seconds * 1000

/-! ### The description -/

def State.stations (s : State) : List StationRow := s.lds.stations.getD []
def State.runs (s : State) : List RunRow := s.lds.runs.getD []
def State.sectRows (s : State) : List SectionRow := (s.lds.sections.map (·.sects)).getD []
def State.pairRows (s : State) : List PairRow := (s.lds.sections.map (·.pairs)).getD []
def State.subRows (s : State) : List SubstationRow := s.lds.substations.getD []
def State.elemRows (s : State) : List ElementRow := s.lds.elements.getD []
def State.linkRows (s : State) : List (Option LinkCfg) := s.lds.links.getD []
def State.zones (s : State) : List (List Nat) := s.lds.zones.getD []

/-- What the parameters read as while none are loaded; no rule reads them then, since every rule that does needs a
committed description (R11). -/
def Params.absent : Params :=
  { wMin := 0, wMax := 0, wDefault := 0, beta := 0, hNom := 0, threshold := 0, stopsAhead := 0, delayText := 0,
    startWindow := 0, startLoad := 0, runLoad := [], auxLoad := 0, permitWait := 0, stale := 0, nominal := 0,
    breakerExec := 0, platformExec := 0, displayExec := 0, autoTexts := [] }

def State.params (s : State) : Params := s.lds.params.getD Params.absent

/-- R3: the station count S. -/
def State.stationCount (s : State) : Nat := s.stations.length

/-- R3: the stop count, two for each station. -/
def State.stopCount (s : State) : Nat := 2 * s.stationCount

/-- R5: the section count N. -/
def State.sectCount (s : State) : Nat := s.sectRows.length

/-- The station of a stop (00_scope.md, Numbers). -/
def stationOf (stop : Nat) : Nat := stop / 2

/-- R74: a stop is UP when its index is even. -/
def isUp (stop : Nat) : Bool := stop % 2 == 0

/-- R74. -/
def directionOf (stop : Nat) : Direction := if isUp stop then .up else .down

/-- R4: the run that leaves a stop, or none at the end of the line. -/
def State.leavingRun (s : State) (stop : Nat) : Option Nat :=
  if isUp stop then (if stationOf stop + 1 < s.stationCount then some (stationOf stop) else none)
  else (if stationOf stop = 0 then none else some (stationOf stop - 1))

/-- R74: the expected next stop of a train that left a stop. -/
def State.nextStop (s : State) (stop : Nat) : Option Nat :=
  (s.leavingRun stop).map (fun _ => if isUp stop then stop + 2 else stop - 2)

/-- R3: the platform section of a stop's station. -/
def State.platformSect (s : State) (stop : Nat) : Option Nat := (s.stations[stationOf stop]?).map (·.sect)

/-- R90, R74: the section of the run leaving a stop, or the stop's platform section when none leaves it. -/
def State.departureSect (s : State) (stop : Nat) : Option Nat :=
  match (s.leavingRun stop).bind (fun r => s.runs[r]?) with
  | some r => some r.sect
  | none => s.platformSect stop

/-- R4, R99: the run-time bounds of the run leaving a stop, in the stop's direction. -/
def State.runBounds (s : State) (stop : Nat) : Option (Nat × Nat) :=
  ((s.leavingRun stop).bind (fun r => s.runs[r]?)).map
    (fun r => if isUp stop then (r.upMin, r.upMax) else (r.downMin, r.downMax))

/-- R3: the platform element of a stop. -/
def State.platformOf (s : State) (stop : Nat) : Option Nat :=
  (s.stations[stationOf stop]?).map (fun r => if isUp stop then r.up else r.down)

/-- R75: the stop of a platform element in the Stations table, if a station names it. -/
def State.stopOfElement (s : State) (el : Nat) : Option Nat :=
  (List.range s.stopCount).find? (fun k => s.platformOf k == some el)

/-- R9: the zone whose list holds a station. -/
def State.zoneOf (s : State) (station : Nat) : Option Nat := s.zones.findIdx? (fun z => z.contains station)

/-- R10: the voltage threshold, floor(nominal × 4 / 5). -/
def State.voltThreshold (s : State) : Nat := s.params.nominal * 4 / 5

/-! ### One record of each block -/

def State.setLink (i : Nat) (l : LinkRec) (s : State) : State := { s with links := s.links.set i l }

def State.modLink (i : Nat) (f : LinkRec → LinkRec) (s : State) : State := { s with links := s.links.modify i f }

/-- The mirror entry of an element (R37). -/
def State.entry? (s : State) (el : Nat) : Option MirrorEntry := s.mirror.find? (fun e => e.el == el)

/-- Replaces the entry of the same element. -/
def State.setEntry (e : MirrorEntry) (s : State) : State :=
  { s with mirror := s.mirror.map (fun x => if x.el = e.el then e else x) }

/-- The train of a slot. -/
def State.train? (s : State) (slot : Nat) : Option Train := (s.reg.slots[slot]?).join

/-- The slot of the train in service with an identity (R72). -/
def State.slotOf (s : State) (id : Nat) : Option Nat :=
  s.reg.slots.findIdx? (fun t => t.any (fun t => t.id == id))

def State.setSlot (slot : Nat) (t : Option Train) (s : State) : State :=
  { s with reg := { s.reg with slots := s.reg.slots.set slot t } }

def State.setTrain (slot : Nat) (t : Train) (s : State) : State := s.setSlot slot (some t)

def State.setTentative (link : Nat) (t : Option TentativeSlot) (s : State) : State :=
  { s with reg := { s.reg with tentative := s.reg.tentative.set link t } }

/-- R73: a train occupies a stop AT_STOP there, or RUNNING from it with a tentative departure. -/
def Train.occupies (t : Train) (stop : Nat) : Bool :=
  t.stop == some stop && (t.pos == .atStop || (t.pos == .running && t.saved.isSome))

/-- R73: the occupant of a stop. -/
def State.occupant (s : State) (stop : Nat) : Option Train :=
  (s.reg.slots.find? (fun t => t.any (fun t => t.occupies stop))).join

/-- The stand record of a slot (R90). -/
def State.stand? (s : State) (slot : Nat) : Option Stand := (s.rgl.stands[slot]?).join

def State.setStand (slot : Nat) (st : Option Stand) (s : State) : State :=
  { s with rgl := { s.rgl with stands := s.rgl.stands.set slot st } }

def State.putStand (slot : Nat) (st : Stand) (s : State) : State := s.setStand slot (some st)

/-- R91: the HOST flag of a slot. -/
def State.hostHeld (s : State) (slot : Nat) : Bool := (s.rgl.hostHold[slot]?).getD false

def State.setHostHold (slot : Nat) (b : Bool) (s : State) : State :=
  { s with rgl := { s.rgl with hostHold := s.rgl.hostHold.set slot b } }

/-- R91, R92: a stand's set of hold reasons is not empty. -/
def State.isHeld (s : State) (slot : Nat) (st : Stand) : Bool :=
  s.hostHeld slot || st.field || st.incident || st.power

def State.sect? (s : State) (i : Nat) : Option SectRec := s.tsv.sects[i]?

def State.setSect (i : Nat) (r : SectRec) (s : State) : State :=
  { s with tsv := { s.tsv with sects := s.tsv.sects.set i r } }

def State.modSect (i : Nat) (f : SectRec → SectRec) (s : State) : State :=
  { s with tsv := { s.tsv with sects := s.tsv.sects.modify i f } }

def State.setSects (l : List SectRec) (s : State) : State := { s with tsv := { s.tsv with sects := l } }

def State.setPairs (l : List PairRec) (s : State) : State := { s with tsv := { s.tsv with pairs := l } }

def State.setSubs (l : List SubRec) (s : State) : State := { s with tsv := { s.tsv with subs := l } }

def State.setWaitList (l : List PermitRequest) (s : State) : State := { s with tsv := { s.tsv with waitList := l } }

def State.setPermits (l : List PermitRec) (s : State) : State := { s with tsv := { s.tsv with permits := l } }

def State.setLoads (l : List (Option LoadNote)) (s : State) : State := { s with tsv := { s.tsv with loads := l } }

/-- The state of a section; a section without a record is UNKNOWN. -/
def State.sectState (s : State) (i : Nat) : SectState := ((s.sect? i).map (·.state)).getD .unknown

def State.setStation (i : Nat) (r : StationRec) (s : State) : State :=
  { s with anp := { s.anp with stations := s.anp.stations.set i r } }

def State.setLds (l : Lds) (s : State) : State := { s with lds := l }

def State.setService (x : ServiceState) (s : State) : State := { s with lds := { s.lds with service := x } }

def State.setTime (t : Nat) (s : State) : State := { s with clock := { s.clock with time := t } }

/-- An incident of the table by number. -/
def State.incident? (s : State) (number : Nat) : Option Incident := s.inc.table.find? (fun i => i.number == number)

def State.setTable (t : List Incident) (s : State) : State := { s with inc := { s.inc with table := t } }

/-! ### Orders -/

/-- The token of the next order to be issued, and the count moved on (log entry 26). -/
def State.nextToken (s : State) : Nat := s.orderCount

/-- An origin issues an order to the mirror (R45). -/
def State.issueOrder (el : Nat) (d : OrderData) (s : State) : State :=
  { s with orderCount := s.orderCount + 1, agenda := s.agenda ++ [.issue el d s.orderCount] }

/-- R28, R44: the class of an order. -/
def OrderData.cls : OrderData → OrderClass
  | .openBreaker => .safety
  | .closePrecharge => .control
  | .closeFeed => .control
  | .dwell _ _ _ => .control
  | .release _ _ => .control
  | .revoke _ => .safety
  | .showText _ => .display

/-- R44: the origin of an order. -/
def OrderData.origin : OrderData → Origin
  | .openBreaker => .supervisor
  | .closePrecharge => .supervisor
  | .closeFeed => .supervisor
  | .dwell _ _ _ => .regulator
  | .release _ _ => .regulator
  | .revoke _ => .regulator
  | .showText _ => .publisher

/-- R185: the order codes. -/
def OrderData.code : OrderData → Nat
  | .openBreaker => 0x10
  | .closePrecharge => 0x11
  | .closeFeed => 0x12
  | .dwell _ _ _ => 0x20
  | .release _ _ => 0x21
  | .revoke _ => 0x22
  | .showText _ => 0x30

/-- R44: whether a value is the target of an order; a platform order is judged on the indication alone. -/
def OrderData.targetMet (d : OrderData) (v : Value) : Bool :=
  match d, v with
  | .openBreaker, .breaker b => b == .opened
  | .closePrecharge, .breaker b => b == .precharged
  | .closeFeed, .breaker b => b == .closed
  | .dwell _ _ _, .platform _ i => i == some .countdown
  | .release _ _, .platform _ i => i == some .go
  | .revoke _, .platform _ i => i == some .stop
  | .showText c, .display x => x == c
  | _, _ => false

/-- R54: the result codes of section 11.6. -/
def Result.code : Result → Nat
  | .complete => 0x00
  | .already => 0x01
  | .diverged _ => 0x02
  | .localCtl => 0x10
  | .unknown => 0x11
  | .rejected _ => 0x12
  | .superseded => 0x13
  | .timeout => 0x14
  | .execTimeout => 0x15
  | .deferredOut => 0x16
  | .noPush => 0x17
  | .linkDown => 0x18
  | .linkFull => 0x19
  | .evicted => 0x1A

/-- R54: COMPLETE, ALREADY and DIVERGED are completions; every other result is a failure. -/
def Result.failed : Result → Bool
  | .complete => false
  | .already => false
  | .diverged _ => false
  | _ => true

/-- COMPLETE or ALREADY: the order reached its target. -/
def Result.reached : Result → Bool
  | .complete => true
  | .already => true
  | _ => false

/-- Section 11.6, "Service state". -/
def ServiceState.code : ServiceState → Nat
  | .unconfigured => 0 | .configured => 1 | .inService => 2 | .suspended => 3

/-- Section 11.6, "Link state". -/
def LinkState.code : LinkState → Nat
  | .disabled => 0 | .down => 1 | .up => 2 | .loopback => 3

/-- Section 11.6, "Section state". -/
def SectState.code : SectState → Nat
  | .unknown => 0 | .dead => 1 | .precharge => 2 | .live => 3 | .isolating => 4 | .tripped => 5

/-- Section 11.6, "Mirror state". -/
def MirrorState.code : MirrorState → Nat
  | .unknown => 0 | .reported => 1 | .held => 2 | .ordered => 3

/-- R185: the breaker values. -/
def BreakerValue.code : BreakerValue → Nat
  | .opened => 0 | .precharged => 1 | .closed => 2 | .tripped => 3

/-- Section 11.6, "Departure phase". -/
def Phase.code : Phase → Nat
  | .planning => 1 | .dwelling => 2 | .waitingPermit => 3 | .released => 4 | .held => 5 | .terminating => 6
  | .noRegulation => 7

/-- Section 11.6, "Incident kind". -/
def IncKind.code : IncKind → Nat
  | .obstruction => 0x01 | .evacuation => 0x02 | .platformCrowding => 0x03 | .equipment => 0x04 | .generic => 0x05
  | .powerTrip => 0x11 | .chargeFail => 0x12 | .powerLoss => 0x13 | .overload => 0x14 | .stranded => 0x15
  | .platformConflict => 0x16 | .linkLoss => 0x17 | .orderFailure => 0x18

/-- R133: the host kinds. -/
def IncKind.isHost : IncKind → Bool
  | .obstruction => true | .evacuation => true | .platformCrowding => true | .equipment => true | .generic => true
  | _ => false

/-- A clamped signed quantity (R79, R80, R95). -/
def clampInt (lo hi x : Int) : Int := if x < lo then lo else if hi < x then hi else x

/-- A lateness, clamped to −999..3,599 (R79, R80, R95). -/
def clampLate (x : Int) : Int := clampInt (-999) 3599 x

/-- R175, R186: a lateness in offset coding. -/
def lateCode (x : Int) : Nat := (x + 1000).toNat

/-- The numbers below `n` that satisfy `p`, ascending. -/
def numbersBelow (n : Nat) (p : Nat → Bool) : List Nat := (List.range n).filter p

/-- R108, R66: the first N entries of a trip planned later than P0, in window order. -/
def State.stopsAhead (s : State) (trip p0 n : Nat) : List TtEntry :=
  (s.window.entries.filter (fun e => e.trip == trip && decide (p0 < e.p))).take n

/-- Whether the line is in service or suspended: tracked trains are judged for delay and displays are sent to. -/
def ServiceState.active : ServiceState → Bool
  | .inService => true
  | .suspended => true
  | _ => false

/-- R108: the stations a departure writes delay notices to: none unless its lateness is at least the threshold. -/
def State.delayTargets (s : State) (late : Option Int) (trip p : Option Nat) : List Nat :=
  match late, trip, p, s.rgl.threshold with
  | some l, some t, some p0, some th =>
    if s.lds.service.active && decide ((th : Int) ≤ l) then
      ((s.stopsAhead t p0 s.params.stopsAhead).map (fun e => stationOf e.stop)).eraseDups
    else []
  | _, _, _, _ => []

end Sys2Proof.Machine
end

