-- ==== Sys2Proof/Machine/Operands.lean ====
section
/-! DEFINITION. The layouts of 11_message_and_telegram_formats.md: bytes and numbers, the doubling of lead bytes, the
telegram's check word and the frame's CRC, the payloads of orders and of field telegrams with the checks of R39, and
the reading of a request's data. -/
namespace Sys2Proof.Machine

/-! ### Numbers as bytes (R186) -/

/-- A number in one byte. -/
def u8 (n : Nat) : List Byte := [BitVec.ofNat 8 n]

/-- A number in two bytes, high byte first. -/
def u16 (n : Nat) : List Byte := [BitVec.ofNat 8 (n / 256), BitVec.ofNat 8 n]

/-- A number in three bytes, high byte first. -/
def u24 (n : Nat) : List Byte := [BitVec.ofNat 8 (n / 65536), BitVec.ofNat 8 (n / 256), BitVec.ofNat 8 n]

/-- A flag in one byte. -/
def flag8 (b : Bool) : List Byte := u8 (if b then 1 else 0)

/-- A one-byte number that may be absent: 0xFF (R186). -/
def opt8 : Option Nat → List Byte
  | none => u8 0xFF
  | some n => u8 n

/-- A train identity or trip that may be absent: 0 (R186). -/
def optId : Option Nat → List Byte
  | none => u16 0
  | some n => u16 n

/-- A two-byte quantity that may be absent: 0xFFFF (log entry 16). -/
def opt16 : Option Nat → List Byte
  | none => u16 0xFFFF
  | some n => u16 n

/-- A three-byte time or span that may be absent: 0xFFFFFF; longer spans saturate below it (log entry 16). -/
def opt24 : Option Nat → List Byte
  | none => u24 0xFFFFFF
  | some n => u24 (min n 0xFFFFFE)

/-- A count byte and that many one-byte numbers. -/
def list8 (l : List Nat) : List Byte := u8 l.length ++ l.flatMap u8

/-- The byte of a message at a place; 0 beyond its end, which a length check has shut out. -/
def at8 (d : List Byte) (i : Nat) : Nat := ((d[i]?).map (·.toNat)).getD 0

/-- Two bytes, high byte first. -/
def at16 (d : List Byte) (i : Nat) : Nat := at8 d i * 256 + at8 d (i + 1)

/-- Three bytes, high byte first. -/
def at24 (d : List Byte) (i : Nat) : Nat := at8 d i * 65536 + at8 d (i + 1) * 256 + at8 d (i + 2)

/-- A one-byte number read with 0xFF as absent. -/
def atOpt8 (d : List Byte) (i : Nat) : Option Nat := if at8 d i = 0xFF then none else some (at8 d i)

/-- `count` one-byte numbers from a place. -/
def atList8 (d : List Byte) (i count : Nat) : List Nat := (List.range count).map (fun j => at8 d (i + j))

/-- A range check, both ends included. -/
def inRange (lo hi n : Nat) : Bool := lo ≤ n && n ≤ hi

/-! ### Doubling, check word, CRC (R20, R21, R170, R183, R184) -/

/-- The lead byte of a field telegram. -/
def fieldLead : Byte := 0x96#8

/-- The lead byte of a host frame. -/
def hostLead : Byte := 0xC3#8

/-- Every byte equal to the lead is sent twice (R20, R170). -/
def doubled (lead : Byte) (bs : List Byte) : List Byte :=
  bs.flatMap (fun b => if b = lead then [b, b] else [b])

/-- The sum of byte values, modulo 65,536 (R21). -/
def checkSum (bs : List Byte) : Nat := (bs.map (·.toNat)).sum % 65536

/-- The bytes of a telegram after its lead, before doubling (R184). -/
def Telegram.body (t : Telegram) : List Byte :=
  [t.addr, t.kind, t.seq] ++ u8 t.payload.length ++ t.payload

/-- The characters of a telegram on the line: lead, body and check word, doubled after the lead (R20, R184). -/
def Telegram.characters (t : Telegram) : List Byte :=
  fieldLead :: doubled fieldLead (t.body ++ u16 (checkSum t.body))

/-- One bit place of the CRC register: shift toward the high end, and take in 0x1021 when a 1 leaves (R183). -/
def crcShift (r : CrcWord) : CrcWord :=
  if r.getLsbD 15 then (r <<< 1) ^^^ 0x1021#16 else r <<< 1

/-- One byte taken into the CRC register (R183). -/
def crcByte (r : CrcWord) (b : Byte) : CrcWord :=
  crcShift (crcShift (crcShift (crcShift (crcShift (crcShift (crcShift (crcShift
    (r ^^^ ((b.setWidth 16) <<< 8)))))))))

/-- The CRC over the bytes from the first length byte through the last data byte (R183). -/
def crcOf (bs : List Byte) : CrcWord := bs.foldl crcByte 0xFFFF#16

/-- The bytes of a reply from the length through the data, before doubling (R173, R183). -/
def Reply.body (r : Reply) : List Byte :=
  u16 (r.data.length + 2) ++ [if r.refused then 0xEF#8 else 0xE0#8, r.tag] ++ r.data

/-- The characters of a reply on the host line (R170, R183). -/
def Reply.characters (r : Reply) : List Byte :=
  hostLead :: doubled hostLead (r.body ++ u16 (crcOf r.body).toNat)

/-! ### Telegrams from the unit (R184, R185) -/

/-- The payload of an order (R185). -/
def OrderData.payload (d : OrderData) : List Byte :=
  match d with
  | .openBreaker => u8 d.code
  | .closePrecharge => u8 d.code
  | .closeFeed => u8 d.code
  | .dwell t tDep dw => u8 d.code ++ u16 t ++ u24 tDep ++ u16 dw
  | .release t level => u8 d.code ++ u16 t ++ u8 level
  | .revoke t => u8 d.code ++ u16 t
  | .showText c => u8 d.code ++ u16 c.text ++ u16 c.p1 ++ u16 c.p2

/-- The telegram the transmitter sends: an ORDER 0x41 or a POLL 0x42 (R184). -/
def Sending.telegram : Sending → Telegram
  | .order e => { addr := BitVec.ofNat 8 e.addr, kind := 0x41#8, seq := BitVec.ofNat 8 e.seq, payload := e.data.payload }
  | .poll _ addr seq => { addr := BitVec.ofNat 8 addr, kind := 0x42#8, seq := BitVec.ofNat 8 seq, payload := [] }

/-! ### Telegrams from the field (R39, R185) -/

/-- What a good telegram says once it has passed the checks of R39; a meter's voltages are those it carries. -/
inductive FieldMsg where
  | state (authority : Authority) (v : Value)
  | event (code : Nat) (train : Nat) (v : Option Value)
  | answer (code reason : Nat)
  | executed (v : Value)
  deriving DecidableEq, Repr

/-- What judging a telegram gives: a meaning, or the number of the failed check of R39. -/
inductive Judged where
  | ok (m : FieldMsg)
  | failed (check : Nat)
  deriving DecidableEq, Repr

def breakerOf (n : Nat) : Option BreakerValue :=
  match n with
  | 0 => some .opened
  | 1 => some .precharged
  | 2 => some .closed
  | 3 => some .tripped
  | _ => none

def indicationOf (n : Nat) : Option Indication :=
  match n with
  | 0 => some .blank
  | 1 => some .countdown
  | 2 => some .go
  | 3 => some .stop
  | _ => none

def authorityOf (n : Nat) : Option Authority :=
  match n with
  | 1 => some .remote
  | 2 => some .localCtl
  | _ => none

/-- R185: how many voltage channels a mask marks. -/
def channelCount (mask : Nat) : Nat :=
  ((List.range 4).filter (fun c => hasBit mask c)).length

/-- R38: a voltage above 2,000 is taken as 2,000. -/
def saturateVolt (n : Nat) : Nat := min n 2000

/-- R38: a load above 4,095 is taken as 4,095. -/
def saturateLoad (n : Nat) : Nat := min n 4095

/-- R185: the voltages of a METER payload from place `i`, by channel 0..3, in ascending channel order. -/
def readVolts (d : List Byte) (i mask : Nat) : List (Option Nat) :=
  (List.range 4).map (fun c =>
    if hasBit mask c then
      some (saturateVolt (at16 d (i + 2 * ((List.range c).filter (fun x => hasBit mask x)).length)))
    else none)

/-- R185: the load, mask and voltages of a METER payload from place 1; layout check 4. -/
def readMeter (d : List Byte) : Option Value :=
  if 4 ≤ d.length ∧ at8 d 3 < 16 ∧ d.length = 4 + 2 * channelCount (at8 d 3) then
    some (.meter (saturateLoad (at16 d 1)) (readVolts d 4 (at8 d 3)))
  else none

/-- R38, R185: an occupancy, 0 for none; above 999 fails the range check. -/
def readOccupancy (n : Nat) : Option (Option Nat) :=
  if n = 0 then some none else if n ≤ 999 then some (some n) else none

/-- R185: a shown content from a place; a text above 1023 fails the range check. -/
def readContent (d : List Byte) (i : Nat) : Option Value :=
  if at16 d i ≤ 1023 then some (.display { text := at16 d i, p1 := at16 d (i + 2), p2 := at16 d (i + 4) }) else none

/-- A value read, or the range check failed. -/
def rangeOr (o : Option FieldMsg) : Judged :=
  match o with
  | some m => .ok m
  | none => .failed 5

/-- R39, R185: a STATE telegram of an element kind. -/
def judgeState (k : ElemKind) (d : List Byte) : Judged :=
  match k with
  | .breaker =>
    if d.length = 2 then
      rangeOr ((authorityOf (at8 d 0)).bind fun a => (breakerOf (at8 d 1)).map fun v => .state a (.breaker v))
    else .failed 4
  | .platform =>
    if d.length = 4 then
      rangeOr ((authorityOf (at8 d 0)).bind fun a => (readOccupancy (at16 d 1)).bind fun o =>
        (indicationOf (at8 d 3)).map fun i => .state a (.platform o (some i)))
    else .failed 4
  | .display =>
    if d.length = 7 then
      rangeOr ((authorityOf (at8 d 0)).bind fun a => (readContent d 1).map fun v => .state a v)
    else .failed 4
  | .meter =>
    match readMeter d with
    | none => .failed 4
    | some v => rangeOr ((authorityOf (at8 d 0)).map fun a => .state a v)

/-- R39, R185: an EVENT telegram; a code that does not suit the element kind fails the layout. -/
def judgeEvent (k : ElemKind) (d : List Byte) : Judged :=
  match k with
  | .platform =>
    if d.length = 3 ∧ (at8 d 0 = 1 ∨ at8 d 0 = 2) then
      (if inRange 1 999 (at16 d 1) then .ok (.event (at8 d 0) (at16 d 1) none) else .failed 5)
    else .failed 4
  | .breaker => if d.length = 1 ∧ at8 d 0 = 3 then .ok (.event 3 0 none) else .failed 4
  | .meter =>
    match readMeter d with
    | none => .failed 4
    | some v => if at8 d 0 = 4 then .ok (.event 4 0 (some v)) else .failed 4
  | .display => .failed 4

/-- R39, R185: an ANSWER telegram, from any kind but METER. -/
def judgeAnswer (k : ElemKind) (d : List Byte) : Judged :=
  if k = .meter ∨ d.length ≠ 2 then .failed 4
  else if inRange 1 3 (at8 d 0) then .ok (.answer (at8 d 0) (at8 d 1)) else .failed 5

/-- R39, R185: an EXECUTED telegram. -/
def judgeExecuted (k : ElemKind) (d : List Byte) : Judged :=
  match k with
  | .breaker =>
    if d.length = 1 then rangeOr ((breakerOf (at8 d 0)).map fun v => .executed (.breaker v)) else .failed 4
  | .platform =>
    if d.length = 3 then
      rangeOr ((readOccupancy (at16 d 0)).bind fun o =>
        (indicationOf (at8 d 2)).map fun i => .executed (.platform o (some i)))
    else .failed 4
  | .display => if d.length = 6 then rangeOr ((readContent d 0).map fun v => .executed v) else .failed 4
  | .meter => .failed 4

/-- R39, checks 3 to 5: the kind, the layout and the ranges of a telegram from an element of a kind. -/
def judgeTelegram (k : ElemKind) (t : Telegram) : Judged :=
  match t.kind.toNat with
  | 1 => judgeState k t.payload
  | 2 => judgeEvent k t.payload
  | 3 => judgeAnswer k t.payload
  | 4 => judgeExecuted k t.payload
  | _ => .failed 3

/-! ### Refusals (R174, R187) -/

/-- The refusal codes with the details some of them carry (R187). -/
inductive RefusalCode where
  | unknownKind
  | badLength
  | wrongState
  | badValue
  | notFound
  | duplicate (position : Option Nat)
  | timeClash (position : Option Nat)
  | tableFull (free : Option Nat)
  | busy
  | locked
  | pairSlaved
  | notRemote
  | clockStep
  | inconsistent (table index check : Nat)
  deriving DecidableEq, Repr

/-- The data of a REFUSED reply: the code and its details (R187). -/
def RefusalCode.data : RefusalCode → List Byte
  | .unknownKind => u8 0x01
  | .badLength => u8 0x02
  | .wrongState => u8 0x03
  | .badValue => u8 0x04
  | .notFound => u8 0x05
  | .duplicate none => u8 0x10
  | .duplicate (some p) => u8 0x10 ++ u8 p
  | .timeClash none => u8 0x11
  | .timeClash (some p) => u8 0x11 ++ u8 p
  | .tableFull none => u8 0x12
  | .tableFull (some n) => u8 0x12 ++ u16 n
  | .busy => u8 0x13
  | .locked => u8 0x14
  | .pairSlaved => u8 0x15
  | .notRemote => u8 0x16
  | .clockStep => u8 0x17
  | .inconsistent t i c => u8 0x18 ++ u8 t ++ u16 i ++ u8 c

/-- A REFUSED reply joins the queue; nothing else changes (R174). -/
def State.refuse (tag : Byte) (c : RefusalCode) (s : State) : State :=
  s.reply { refused := true, tag := tag, data := c.data }

/-! ### Reports (R187) -/

/-- Section 11.6, "Report kinds". -/
def ReportKind.code : ReportKind → Nat
  | .arrived => 0x10 | .departed => 0x11 | .unknownTrain => 0x12 | .positionJump => 0x13
  | .earlyDeparture => 0x14 | .holdTooLate => 0x15 | .dwellOrderFailed => 0x16 | .releaseFailed => 0x17
  | .permitWaitLong => 0x18 | .tripEnded => 0x19 | .entryExpired => 0x1A
  | .sectionState => 0x20 | .energizeAborted => 0x21 | .meterStale => 0x22
  | .incidentRaised => 0x30 | .incidentMerged => 0x31 | .escalated => 0x32 | .incidentResolved => 0x33
  | .orderFailed => 0x40 | .elementSilent => 0x41 | .linkState => 0x42 | .linkCongested => 0x43
  | .loopEcho => 0x44 | .fieldInconsistent => 0x45
  | .displayFailed => 0x50
  | .serviceState => 0x60 | .serviceDayLimit => 0x61

/-- R187: the subject type and number of a report record. -/
def subjectBytes : Option Subject → List Byte
  | none => u8 0 ++ u16 0
  | some (.train n) => u8 1 ++ u16 n
  | some (.element n) => u8 2 ++ u16 n
  | some (.sect n) => u8 3 ++ u16 n
  | some (.substation n) => u8 4 ++ u16 n
  | some (.incident n) => u8 5 ++ u16 n
  | some (.link n) => u8 6 ++ u16 n
  | some (.stop n) => u8 7 ++ u16 n

/-- R187: a report as a record of 14 bytes. -/
def Report.bytes (r : Report) : List Byte :=
  u8 r.kind.code ++ u24 r.time ++ subjectBytes r.subject ++
  u8 (bitOf r.detail1.isSome 0 + bitOf r.detail2.isSome 1) ++ u24 (r.detail1.getD 0) ++ u24 (r.detail2.getD 0)

/-! ### Request data (R186) -/

/-- A station or zone set: ALL, or the numbers listed. -/
inductive NumberSet where
  | all
  | listed (l : List Nat)
  deriving DecidableEq, Repr

/-- R186: a set from a place to the end of the data; none when the count does not match the data. -/
def readSet (d : List Byte) (i : Nat) : Option NumberSet :=
  if d.length ≤ i then none
  else if at8 d i = 0xFF then (if d.length = i + 1 then some .all else none)
  else if d.length = i + 1 + at8 d i then some (.listed (atList8 d (i + 1) (at8 d i))) else none

/-- The members of a set over the `n` objects that exist. -/
def NumberSet.members (x : NumberSet) (n : Nat) : List Nat :=
  match x with
  | .all => List.range n
  | .listed l => l

/-- Whether every listed number is below a bound. -/
def NumberSet.below (x : NumberSet) (n : Nat) : Bool :=
  match x with
  | .all => true
  | .listed l => l.all (fun m => decide (m < n))

/-- Whether the list is empty or longer than a bound. -/
def NumberSet.badCount (x : NumberSet) (most : Nat) : Bool :=
  match x with
  | .all => false
  | .listed l => !inRange 1 most l.length

/-- R5, R125: a pair mode byte. -/
def pairModeOf (n : Nat) : Option PairMode :=
  match n with
  | 0 => some .independent
  | 1 => some .tied
  | 2 => some .crossFed
  | _ => none

def PairMode.code : PairMode → Nat
  | .independent => 0 | .tied => 1 | .crossFed => 2

/-- R7: an element kind byte; the inner value is absent for UNUSED. -/
def elemKindOf (n : Nat) : Option (Option ElemKind) :=
  match n with
  | 0 => some none
  | 1 => some (some .breaker)
  | 2 => some (some .platform)
  | 3 => some (some .display)
  | 4 => some (some .meter)
  | _ => none

def ElemKind.code : ElemKind → Nat
  | .breaker => 1 | .platform => 2 | .display => 3 | .meter => 4

/-- R154: a layer byte. -/
def layerOf (n : Nat) : Option HostLayer :=
  match n with
  | 0 => some .service
  | 1 => some .routine
  | _ => none

def HostLayer.code : HostLayer → Nat
  | .service => 0 | .routine => 1

/-- R139: a host incident kind byte. -/
def hostKindOf (n : Nat) : Option IncKind :=
  match n with
  | 1 => some .obstruction
  | 2 => some .evacuation
  | 3 => some .platformCrowding
  | 4 => some .equipment
  | 5 => some .generic
  | _ => none

end Sys2Proof.Machine
end

