-- ==== Sys2Proof/Machine/HostPort.lean ====
section
/-! DEFINITION. The host port (10): the frame receiver, the reply queue, and the port's own requests. -/
namespace Sys2Proof

/-! ### The receiver (R169) -/

/-- R169: what the host line's receiver hands to the frame receiver. -/
inductive HostReceived where
  /-- A character whose stop bit is at mark. -/
  | good (v : Byte)
  /-- A framing failure or a break. -/
  | faulty
  deriving DecidableEq, Repr

/-- R169: the receiver's judgement. -/
def HostChar.judged : HostChar → HostReceived
  | .bits data true => .good data
  | .bits _ false => .faulty
  | .lineBreak => .faulty

/-- R169: a character as a sender puts it on the line. -/
def HostChar.sent (v : Byte) : HostChar := .bits v true

end Sys2Proof

namespace Sys2Proof.Machine

/-! ### The frame receiver (R170, R171) -/

/-- What one character brings about at the frame receiver. -/
inductive RecvEvent where
  /-- Nothing beyond the receiver itself. -/
  | quiet
  /-- The frame is discarded (R171). -/
  | discard
  /-- A frame whose check matches is complete: its kind, tag and data (R170). -/
  | complete (kind tag : Byte) (data : List Byte)
  deriving DecidableEq, Repr

/-- R170, R183: the check of a complete list of bytes, from the length through the check. -/
def frameEvent (bs : List Byte) : RecvEvent :=
  let len := at16 bs 0
  if at16 bs (2 + len) = (crcOf (bs.take (2 + len))).toNat then
    .complete (BitVec.ofNat 8 (at8 bs 2)) (BitVec.ofNat 8 (at8 bs 3)) ((bs.drop 4).take (len - 2))
  else .discard

/-- R170, R171: a byte is taken into the frame. -/
def recvAppend (bytes : List Byte) (b : Byte) (now : Nat) : Receiver × RecvEvent :=
  let bs := bytes ++ [b]
  if bs.length < 2 then (.busy bs false now, .quiet)
  else if at16 bs 0 < 2 ∨ Config.maxBody < at16 bs 0 then (.hunting, .discard)
  else if bs.length = 4 + at16 bs 0 then (.hunting, frameEvent bs)
  else (.busy bs false now, .quiet)

/-- R170, R171: the frame receiver takes a character. -/
def recvTake (r : Receiver) (c : HostReceived) (now : Nat) : Receiver × RecvEvent :=
  match r with
  | .hunting =>
    match c with
    | .good v => if v = hostLead then (.busy [] false now, .quiet) else (.hunting, .quiet)
    | .faulty => (.hunting, .quiet)
  | .busy bytes true _ =>
    match c with
    | .good v => if v = hostLead then recvAppend bytes hostLead now else (.busy [v] false now, .discard)
    | .faulty => (.hunting, .discard)
  | .busy bytes false _ =>
    match c with
    | .good v => if v = hostLead then (.busy bytes true now, .quiet) else recvAppend bytes v now
    | .faulty => (.hunting, .discard)

def State.setReceiver (r : Receiver) (s : State) : State := { s with hpt := { s.hpt with receiver := r } }

/-- R171, R172: whether the reply queue has no room. -/
def State.repliesFull (s : State) : Bool := decide (Config.maxReplies ≤ s.hpt.replies.length)

/-- R171: the character brings about a discard. -/
def State.discards (s : State) (c : HostChar) : Bool :=
  match (recvTake s.hpt.receiver c.judged s.tick).2 with
  | .quiet => false
  | .discard => true
  | .complete _ _ _ => s.repliesFull

/-- R171: HOST_GAP_TIMEOUT. -/
def State.hostGap (s : State) : State :=
  match s.hpt.receiver with
  | .hunting => s
  | .busy _ _ last => ((s.reach (last + Config.hostGapMs)).setReceiver .hunting).flagFrameError

/-- R173: REPLY_SENT: the oldest reply has left the line. -/
def State.replySent (s : State) : State := { s with hpt := { s.hpt with replies := s.hpt.replies.tail } }

/-! ### Requests of the port (R177, R179, R180) -/

def State.setReports (l : List Report) (s : State) : State := { s with hpt := { s.hpt with reports := l } }

/-- R177: the reply to a fetch of `n` reports. -/
def fetchBytes (n : Nat) (q : List Report) : List Byte :=
  u8 (q.take n).length ++ u8 (q.drop n).length ++ (q.take n).flatMap Report.bytes

/-- R177: FETCH_REPORTS. -/
def reqFetchReports (tag : Byte) (d : List Byte) (s : State) : State :=
  if d.length ≠ 1 then s.refuse tag .badLength
  else if inRange 1 16 (at8 d 0) then
    (s.setReports (s.hpt.reports.drop (at8 d 0))).done tag (fetchBytes (at8 d 0) s.hpt.reports)
  else s.refuse tag .badValue

/-- R179: the results of READ_CONDITIONS. -/
def HostPort.conditionBytes (h : HostPort) : List Byte :=
  u8 h.flags.toNat ++ u8 h.causes.toNat ++ u8 h.reports.length

/-- R179: the flags returned as set are cleared, but for those whose cause stands. -/
def State.clearConditions (s : State) : State :=
  { s with hpt := { s.hpt with flags := Conditions.afterRead s.hpt.causes } }

/-- R179: READ_CONDITIONS. -/
def reqReadConditions (tag : Byte) (d : List Byte) (s : State) : State :=
  if d.length ≠ 0 then s.refuse tag .badLength
  else s.clearConditions.done tag s.hpt.conditionBytes

/-- R180: the three parts are replaced. -/
def State.setMasks (cond classes : Nat) (attention : Bool) (s : State) : State :=
  { s with hpt := { s.hpt with condMask := Conditions.ofNat cond, classMask := ClassMask.ofNat classes,
                               attention := attention } }

/-- R180: SET_MASKS. -/
def reqSetMasks (tag : Byte) (d : List Byte) (s : State) : State :=
  if d.length ≠ 3 then s.refuse tag .badLength
  else if 127 < at8 d 0 ∨ 63 < at8 d 1 ∨ 1 < at8 d 2 then s.refuse tag .badValue
  else (s.setMasks (at8 d 0) (at8 d 1) (at8 d 2 == 1)).done tag d

end Sys2Proof.Machine
end

