-- ==== Sys2Proof/Machine/Incidents.lean ====
section
/-! DEFINITION. The incident manager (08): the table, raises and resolutions, escalation, the three derived outputs, and
the requests of the host. -/
namespace Sys2Proof.Machine

/-! ### The table (R133 to R136) -/

/-- R135: an incident that is OPEN or ACKNOWLEDGED. -/
def Incident.standing (x : Incident) : Bool := x.state != .resolved

/-- R134: the number after a number. -/
def succNumber (n : Nat) : Nat := if n = 65535 then 1 else n + 1

/-- R134: the first number from `n` that no incident of the table has, within `tries`. -/
def freeNumber (used : List Nat) : Nat → Nat → Nat
  | 0, n => n
  | tries + 1, n => if used.contains n then freeNumber used tries (succNumber n) else n

/-- R134: the number a new incident takes; 33 tries find one. -/
def State.newNumber (s : State) : Nat := freeNumber (s.inc.table.map (·.number)) 33 s.inc.next

/-- R144: the escalation time of a severity, in seconds. -/
def escalationSeconds (severity : Nat) : Nat :=
  match severity with
  | 1 => 300
  | 2 => 120
  | 3 => 60
  | _ => 30

/-- R134, R137, R139: an incident enters at the end of the opening order. -/
def State.enter (x : Incident) (s : State) : State :=
  { s with inc := { s.inc with table := s.inc.table ++ [x], next := succNumber x.number } }

/-- Replaces the incident of the same number, in its place. -/
def State.putIncident (x : Incident) (s : State) : State :=
  s.setTable (s.inc.table.map (fun y => if y.number = x.number then x else y))

/-- R136: the severity of an auto kind. -/
def IncKind.severity : IncKind → Nat
  | .powerTrip => 3 | .chargeFail => 3 | .powerLoss => 2 | .overload => 2 | .stranded => 3
  | .platformConflict => 4 | .linkLoss => 2 | _ => 4

/-- R136: whether an auto kind holds trains. -/
def IncKind.holds : IncKind → Bool
  | .powerTrip => true
  | .platformConflict => true
  | _ => false

/-- A span, absent when it has no station. -/
def spanOf (l : List Nat) : Option (List Nat) := if l.isEmpty then none else some l

/-- R136: the station of a train's recorded stop. -/
def State.stationOfTrain (s : State) (train : Nat) : Option Nat :=
  (((s.slotOf train).bind s.train?).bind (·.stop)).map stationOf

/-- R136: the station span of an auto incident. -/
def State.autoSpan (s : State) (k : IncKind) (key : Nat) : Option (List Nat) :=
  match k with
  | .powerTrip => spanOf (numbersBelow s.stationCount (fun i => (s.stations[i]?).any (fun r => r.sect == key)))
  | .stranded => (s.stationOfTrain key).map (fun i => [i])
  | .platformConflict => some [stationOf key]
  | _ => none

/-- R10: the place of an auto kind's announcement text among the parameters. -/
def IncKind.textPlace : IncKind → Nat
  | .powerTrip => 0 | .chargeFail => 1 | .powerLoss => 2 | .overload => 3 | .stranded => 4
  | .platformConflict => 5 | .linkLoss => 6 | _ => 7

/-- R136: the announcement of an auto incident. -/
def State.autoAnn (s : State) (k : IncKind) (key : Nat) : Option Content :=
  match (s.params.autoTexts[k.textPlace]?).getD 0 with
  | 0 => none
  | text => some { text := text, p1 := if k = .platformConflict then stationOf key else key, p2 := 0 }

/-- R136, R137: a new auto incident. -/
def State.autoIncident (s : State) (k : IncKind) (key : Nat) : Incident :=
  { number := s.newNumber, kind := k, key := some key, severity := k.severity, state := .opened,
    span := s.autoSpan k key, sects := [], hold := k.holds, isolate := false, ann := s.autoAnn k key,
    openedAt := s.clock.time, ackedAt := none, count := 1, deadline := some (s.inSeconds (escalationSeconds k.severity)),
    widened := false }

/-! ### Raises and resolutions (R137, R138) -/

/-- The auto incident of a kind and key. -/
def State.autoFind (s : State) (k : IncKind) (key : Nat) : Option Incident :=
  s.inc.table.find? (fun x => x.kind == k && x.key == some key)

/-- R133: an occurrence count, saturating at 255. -/
def countUp (n : Nat) : Nat := min 255 (n + 1)

/-- R137: INCIDENT_MERGED, with the count and the reopened mark. -/
def State.mergeReport (x : Incident) (mark : Nat) (s : State) : State :=
  s.report .incidentMerged (some (.incident x.number)) (some x.count) (some mark)

/-- R137: a RESOLVED incident reopened. -/
def Incident.reopened (x : Incident) (now tick : Nat) : Incident :=
  { x with state := .opened, count := countUp x.count, openedAt := now, ackedAt := none,
           deadline := if x.widened then none else some (tick + escalationSeconds x.severity * 1000) }

/-- R137: the incident moves to the end of the opening order as `y`. -/
def State.reopen (y : Incident) (s : State) : State :=
  s.setTable (s.inc.table.filter (fun z => z.number != y.number) ++ [y])

/-- R139, R137: INCIDENT_RAISED, with the kind and the severity. -/
def State.raiseReport (x : Incident) (s : State) : State :=
  s.report .incidentRaised (some (.incident x.number)) (some x.kind.code) (some x.severity)

/-- R137: a block raises an auto incident. -/
def raise (k : IncKind) (key : Nat) (s : State) : State :=
  match s.autoFind k key with
  | some x =>
    if x.standing then
      (s.putIncident { x with count := countUp x.count }).mergeReport { x with count := countUp x.count } 0
    else
      ((s.reopen (x.reopened s.clock.time s.tick)).mergeReport (x.reopened s.clock.time s.tick) 1).post .deriveEffects
  | none =>
    if s.inc.table.length < Config.maxIncidents then
      ((s.enter (s.autoIncident k key)).raiseReport (s.autoIncident k key)).post .deriveEffects
    else s.flagIncidentOverflow

/-- R138: a block resolves an auto incident. -/
def resolve (k : IncKind) (key : Nat) (s : State) : State :=
  match s.autoFind k key with
  | some x =>
    if x.standing then
      ((s.putIncident { x with state := .resolved, deadline := none }).report .incidentResolved
        (some (.incident x.number)) (some k.code) (some key)).post .deriveEffects
    else s
  | none => s

/-! ### Escalation (R144, R145) -/

/-- ESCALATED, with the severity and the widened mark. -/
def State.escalateReport (number severity mark : Nat) (s : State) : State :=
  s.report .escalated (some (.incident number)) (some severity) (some mark)

/-- R144: an incident whose severity rises at its deadline `d`. -/
def Incident.risen (x : Incident) (d : Nat) : Incident :=
  { x with severity := x.severity + 1, deadline := some (d + escalationSeconds (x.severity + 1) * 1000) }

/-- R144, R145: the deadline `d` of an incident passes. -/
def State.escalate (x : Incident) (d : Nat) (s : State) : State :=
  if x.severity < 4 then
    ((s.putIncident (x.risen d)).escalateReport x.number (x.severity + 1) 0).post .deriveEffects
  else
    ((s.putIncident { x with widened := true, deadline := none }).escalateReport x.number 4 1).post .deriveEffects

/-- R144: ESCALATION_DEADLINE. -/
def State.escalationDeadline (number : Nat) (s : State) : State :=
  match s.incident? number with
  | none => s
  | some x =>
    match x.deadline with
    | none => s
    | some d => (s.reach d).escalate x d

/-! ### Derived effects (R145 to R149) -/

/-- R145: whether an incident's effective stations include a station. -/
def State.effectiveAt (s : State) (x : Incident) (station : Nat) : Bool :=
  match x.span with
  | none => false
  | some l =>
    if x.widened then s.zones.any (fun z => z.contains station && z.any (fun i => l.contains i)) else l.contains station

/-- R145: the effective stations, ascending. -/
def State.effective (s : State) (x : Incident) : List Nat := numbersBelow s.stationCount (s.effectiveAt x)

/-- R147: the held station set. -/
def State.heldSet (s : State) : List Nat :=
  numbersBelow s.stationCount (fun i => s.inc.table.any (fun x => x.standing && x.hold && s.effectiveAt x i))

/-- R148: the demanded section set. -/
def State.demandSet (s : State) : List Nat :=
  numbersBelow s.sectCount (fun i => s.inc.table.any (fun x => x.standing && x.isolate && x.sects.contains i))

/-- R149: of incidents in opening order, the latest of the highest severity. -/
def chooseIncident (l : List Incident) : Option Incident :=
  l.foldl (fun best x =>
    match best with
    | none => some x
    | some b => if b.severity ≤ x.severity then some x else some b) none

/-- R149: a station's INCIDENT layer content. -/
def State.incidentLayer (s : State) (station : Nat) : Option Content :=
  (chooseIncident (s.inc.table.filter (fun x => x.standing && x.ann.isSome && s.effectiveAt x station))).bind (·.ann)

/-- R149: a station's INCIDENT content as it was last handed on. -/
def State.lastContent (s : State) (station : Nat) : Option Content := (s.inc.lastContent[station]?).join

/-- R146: the outputs that differ from what each block was last given, to be handed on. -/
def State.handOvers (s : State) : List Notice :=
  (if s.heldSet = s.inc.lastHeld then [] else [.handHeld]) ++
  (if s.demandSet = s.inc.lastDemand then [] else [.handDemands]) ++
  ((List.range s.stationCount).filter (fun i => s.incidentLayer i != s.lastContent i)).map .handContent

/-- R146: the three outputs are derived again and handed on where they differ. Each is handed on as it stands at its own
hand-over, so that no block is left with an older one than another change of the table has given it meanwhile. -/
def deriveEffects (s : State) : State := s.posts s.handOvers

/-- R146: the held station set is noted as handed on. -/
def State.noteHeld (set : List Nat) (s : State) : State := { s with inc := { s.inc with lastHeld := set } }

/-- R146, R147: the held station set goes to the regulator, if it differs from the set last handed on. -/
def handHeld (s : State) : State :=
  if s.heldSet = s.inc.lastHeld then s else (s.noteHeld s.heldSet).post (.heldStations s.heldSet)

/-- R146: the demanded section set is noted as handed on. -/
def State.noteDemand (set : List Nat) (s : State) : State := { s with inc := { s.inc with lastDemand := set } }

/-- R146, R148: the demanded section set goes to the supervisor, if it differs from the set last handed on. -/
def handDemands (s : State) : State :=
  if s.demandSet = s.inc.lastDemand then s else (s.noteDemand s.demandSet).post (.demands s.demandSet)

/-- R149: a station's content is noted as handed on. -/
def State.noteContent (station : Nat) (c : Option Content) (s : State) : State :=
  { s with inc := { s.inc with lastContent := (List.range s.stationCount).map
                                 (fun i => if i = station then c else s.lastContent i) } }

/-- R146, R149: a station's INCIDENT content goes to the publisher, if it differs from the content last handed on. -/
def handContent (station : Nat) (s : State) : State :=
  if s.incidentLayer station = s.lastContent station then s
  else (s.noteContent station (s.incidentLayer station)).post (.incidentContent station (s.incidentLayer station))

/-! ### Resets (R150) -/

/-- R150: a host incident kept at a warm restart. -/
def Incident.kept (tick : Nat) (x : Incident) : Incident :=
  { x with deadline :=
      if x.state = .opened ∧ x.widened = false then some (tick + escalationSeconds x.severity * 1000) else none }

/-- R150: the incident manager at a warm restart with a committed description. -/
def IncidentMgr.restarted (m : IncidentMgr) (tick : Nat) : IncidentMgr :=
  { IncidentMgr.cleared m.next with
    table := (m.table.filter (fun x => x.kind.isHost)).map (Incident.kept tick) }

/-! ### Requests (R139 to R143) -/

/-- R139, R140: what INC_RAISE and INC_AMEND carry alike. -/
structure IncFields where
  span : Option (List Nat)
  sects : List Nat
  hold : Bool
  isolate : Bool
  ann : Option Content
  deriving DecidableEq, Repr

/-- R186: a span from first and last; none of both is absent. -/
def readSpan (first last : Nat) : Option (List Nat) :=
  if first = 0xFF ∧ last = 0xFF then none else some (numbersBelow (last + 1) (fun i => first ≤ i))

/-- R139: the fields from place 2 of the data. -/
def readIncFields (d : List Byte) : IncFields :=
  { span := readSpan (at8 d 2) (at8 d 3), sects := atList8 d 12 (at8 d 11), hold := hasBit (at8 d 4) 0,
    isolate := hasBit (at8 d 4) 1,
    ann := if at16 d 5 = 0 then none else some { text := at16 d 5, p1 := at16 d 7, p2 := at16 d 9 } }

/-- R139: the length matches the section count carried. -/
def incLengthOk (d : List Byte) : Bool := decide (12 ≤ d.length) && d.length == 12 + at8 d 11

/-- R139, R186: the ranges of those fields. -/
def incFieldsOk (d : List Byte) : Bool :=
  ((at8 d 2 == 0xFF && at8 d 3 == 0xFF) || (decide (at8 d 2 ≤ 31) && decide (at8 d 3 ≤ 31) && decide (at8 d 2 ≤ at8 d 3))) &&
  decide (at8 d 4 < 4) && decide (at16 d 5 ≤ 1023) && decide (at8 d 11 ≤ 8) &&
  (atList8 d 12 (at8 d 11)).all (fun i => decide (i ≤ 23)) && decide (atList8 d 12 (at8 d 11)).Nodup

/-- R139: every station and section named exists. -/
def State.incFieldsExist (s : State) (d : List Byte) : Bool :=
  ((at8 d 2 == 0xFF && at8 d 3 == 0xFF) || decide (at8 d 3 < s.stationCount)) &&
  (atList8 d 12 (at8 d 11)).all (fun i => decide (i < s.sectCount))

/-- R139: the host incidents of the table. -/
def State.hostIncidents (s : State) : Nat := (s.inc.table.filter (fun x => x.kind.isHost)).length

/-- R139: a new host incident. -/
def State.hostIncident (s : State) (k : IncKind) (severity : Nat) (f : IncFields) : Incident :=
  { number := s.newNumber, kind := k, key := none, severity := severity, state := .opened, span := f.span,
    sects := f.sects, hold := f.hold, isolate := f.isolate, ann := f.ann, openedAt := s.clock.time, ackedAt := none,
    count := 1, deadline := some (s.inSeconds (escalationSeconds severity)), widened := false }

/-- R139: INC_RAISE, its checks passed. -/
def State.raiseHost (tag : Byte) (x : Incident) (s : State) : State :=
  ((s.enter x).raiseReport x).posts [.deriveEffects, .answer tag (.done (u16 x.number))]

/-- R139: INC_RAISE. -/
def reqIncRaise (tag : Byte) (d : List Byte) (s : State) : State :=
  if !incLengthOk d then s.refuse tag .badLength
  else if s.lds.service = .unconfigured then s.refuse tag .wrongState
  else
    match hostKindOf (at8 d 0) with
    | none => s.refuse tag .badValue
    | some k =>
      if !inRange 1 4 (at8 d 1) || !incFieldsOk d then s.refuse tag .badValue
      else if !s.incFieldsExist d then s.refuse tag .notFound
      else if Config.maxHostIncidents ≤ s.hostIncidents ∨ Config.maxIncidents ≤ s.inc.table.length then
        s.refuse tag (.tableFull none)
      else s.raiseHost tag (s.hostIncident k (at8 d 1) (readIncFields d))

/-- R140: an incident with its five amended fields. -/
def Incident.amended (x : Incident) (f : IncFields) : Incident :=
  { x with span := f.span, sects := f.sects, hold := f.hold, isolate := f.isolate, ann := f.ann }

/-- R140: INC_AMEND. -/
def reqIncAmend (tag : Byte) (d : List Byte) (s : State) : State :=
  if !incLengthOk d then s.refuse tag .badLength
  else if s.lds.service = .unconfigured then s.refuse tag .wrongState
  else if at16 d 0 = 0 ∨ incFieldsOk d = false then s.refuse tag .badValue
  else if !s.incFieldsExist d then s.refuse tag .notFound
  else
    match s.incident? (at16 d 0) with
    | none => s.refuse tag .notFound
    | some x =>
      if x.standing then
        (s.putIncident (x.amended (readIncFields d))).posts [.deriveEffects, .answer tag (.incident x.number)]
      else s.refuse tag .wrongState

/-- R141, R142: the checks of a request that names an incident, and the incident it names. -/
def State.withIncident (tag : Byte) (d : List Byte) (s : State) (act : Incident → State) : State :=
  if d.length ≠ 2 then s.refuse tag .badLength
  else if s.lds.service = .unconfigured then s.refuse tag .wrongState
  else if at16 d 0 = 0 then s.refuse tag .badValue
  else
    match s.incident? (at16 d 0) with
    | none => s.refuse tag .notFound
    | some x => act x

/-- Section 11.6, "Incident state". -/
def IncState.code : IncState → Nat
  | .opened => 0 | .acknowledged => 1 | .resolved => 2

/-- R141: an incident acknowledged. -/
def Incident.acked (x : Incident) (now : Nat) : Incident :=
  { x with state := .acknowledged, ackedAt := some now, deadline := none }

/-- R141: INC_ACK. -/
def reqIncAck (tag : Byte) (d : List Byte) (s : State) : State :=
  s.withIncident tag d fun x =>
    match x.state with
    | .opened =>
      (s.putIncident (x.acked s.clock.time)).posts
        [.deriveEffects, .answer tag (.done (u8 IncState.acknowledged.code))]
    | .acknowledged => s.done tag (u8 IncState.acknowledged.code)
    | .resolved => s.refuse tag .wrongState

/-- R142: INC_CLOSE. -/
def reqIncClose (tag : Byte) (d : List Byte) (s : State) : State :=
  s.withIncident tag d fun x =>
    (s.setTable (s.inc.table.filter (fun y => y.number != x.number))).posts [.deriveEffects, .answer tag (.done [])]

/-- An announcement in a reply: text 0 for none. -/
def contentBytes : Option Content → List Byte
  | none => u16 0 ++ u16 0 ++ u16 0
  | some c => u16 c.text ++ u16 c.p1 ++ u16 c.p2

/-- Section 11.6, "Incident origin". -/
def IncKind.originCode (k : IncKind) : Nat := if k.isHost then 0 else 1

/-- R143: the time remaining to the escalation deadline, in milliseconds, when one stands (log entry 16). -/
def Incident.remaining (now : Nat) (x : Incident) : List Byte := opt24 (x.deadline.map (fun d => d - now))

/-- R133, R140, R187: every field of an incident in a reply. No rule gives the absence of a station span in a reply: the
model sends it as an empty list, the count byte 0 alone (log entry 16). The deadline, a moment of the tick, is carried as
the milliseconds from now to it (log entry 16). R186's table gives no width for an incident's number, key, severity and
occurrence count: the model sends the number and the key in two bytes, the severity and the count in one (log entry 16).
-/
def Incident.bytes (now : Nat) (x : Incident) : List Byte :=
  u16 x.number ++ u8 x.kind.code ++ u8 x.kind.originCode ++ opt16 x.key ++ u8 x.severity ++ u8 x.state.code ++
  list8 (x.span.getD []) ++ list8 x.sects ++ u8 (bitOf x.hold 0 + bitOf x.isolate 1) ++ contentBytes x.ann ++
  u24 x.openedAt ++ opt24 x.ackedAt ++ u8 x.count ++ opt24 (x.deadline.map (fun d => d - now)) ++ flag8 x.widened

/-- R143: the list of the table; the number and the next number take two bytes, the severity one (log entry 16). -/
def State.incListBytes (s : State) : List Byte :=
  u8 s.inc.table.length ++ u8 s.hostIncidents ++ u16 s.inc.next ++
  s.inc.table.flatMap (fun x => u16 x.number ++ u8 x.kind.code ++ u8 x.kind.originCode ++ u8 x.severity ++ u8 x.state.code)

/-- R143: INC_QUERY. -/
def reqIncQuery (tag : Byte) (d : List Byte) (s : State) : State :=
  if d.length ≠ 2 then s.refuse tag .badLength
  else if s.lds.service = .unconfigured then s.refuse tag .wrongState
  else if at16 d 0 = 0 then s.done tag s.incListBytes
  else
    match s.incident? (at16 d 0) with
    | none => s.refuse tag .notFound
    | some x => s.done tag (x.bytes s.tick ++ x.remaining s.tick ++ list8 (s.effective x))

end Sys2Proof.Machine
end

