-- ==== Sys2Proof/Machine/Announce.lean ====
section
/-! DEFINITION. The announcement publisher (09): effective content, pending parts and releases, triggers, the layers
other blocks write, sending, and the requests of the host. -/
namespace Sys2Proof.Machine

/-! ### Effective content (R153) -/

/-- R153: DEFAULT. -/
def Content.default : Content := { text := 0, p1 := 0, p2 := 0 }

/-- R153: the content of a delay notice. -/
def DelayNotice.content (n : DelayNotice) : Content := { text := n.text, p1 := n.minutes, p2 := n.train }

/-- R153: the effective content of a station. -/
def StationRec.effective (r : StationRec) : Content :=
  match r.incident, r.service, r.delay, r.routine with
  | some c, _, _, _ => c
  | none, some c, _, _ => c
  | none, none, some n, _ => n.content
  | none, none, none, some c => c
  | none, none, none, none => Content.default

def State.station? (s : State) (i : Nat) : Option StationRec := s.anp.stations[i]?

/-! ### Sending (R164, R165) -/

/-- R164: whether a judgement issues a SHOW. -/
def StationRec.needsShow (r : StationRec) : Bool :=
  r.status == .neverSent || r.status == .unconfirmed || r.lastSent != some r.effective

/-- R164: a SHOW is issued: the last sent content and the status. -/
def StationRec.sent (r : StationRec) : StationRec := { r with lastSent := some r.effective, status := .sending }

/-- R164: the display has a successor waiting, whose place the next SHOW takes. -/
def State.successorWaits (s : State) (el : Nat) : Bool :=
  (s.entry? el).any (fun e => e.state == .ordered && e.succ.isSome)

/-- R164: a SHOW of the effective content. In place of a waiting successor, the count rises after its outcome. -/
def State.sendShow (i el : Nat) (r : StationRec) (s : State) : State :=
  if s.successorWaits el then
    ((s.setStation i r.sent).issueOrder el (.showText r.effective)).post (.showRaised i)
  else (s.setStation i { r.sent with inFlight := r.inFlight + 1 }).issueOrder el (.showText r.effective)

/-- R164: the sending judgement. -/
def judge (i : Nat) (s : State) : State :=
  match s.station? i with
  | none => s
  | some r =>
    match r.display with
    | none => s
    | some el => if s.lds.service.active && r.needsShow then s.sendShow i el r else s

/-- R164: SHOWs in flight rises by one. -/
def showRaised (i : Nat) (s : State) : State :=
  match s.station? i with
  | none => s
  | some r => s.setStation i { r with inFlight := r.inFlight + 1 }

/-- The station of a display element. -/
def State.stationOfDisplay (s : State) (el : Nat) : Option Nat :=
  s.anp.stations.findIdx? (fun r => r.display == some el)

/-- R165: an outcome that ends a station's sending. -/
def State.sendingEnds (i el : Nat) (r : StationRec) (x : Result) (s : State) : State :=
  if x.reached then s.setStation i { r with inFlight := 0, status := .confirmed, lastFailure := none }
  else
    (s.setStation i { r with inFlight := 0, status := .unconfirmed, lastFailure := some x.code }).report
      .displayFailed (some (.element el)) (some x.code) (some i)

/-- R165: the outcome of a SHOW. -/
def State.showOutcome (o : OutcomeMsg) (s : State) : State :=
  match s.stationOfDisplay o.el with
  | none => s
  | some i =>
    match s.station? i with
    | none => s
    | some r =>
      if 1 < r.inFlight then s.setStation i { r with inFlight := r.inFlight - 1 }
      else s.sendingEnds i o.el r o.result

/-- R165: the reported display content follows every value notice of the display. -/
def State.shownNotice (v : ValueNotice) (s : State) : State :=
  match s.stationOfDisplay v.el with
  | none => s
  | some i =>
    match s.station? i with
    | none => s
    | some r =>
      s.setStation i { r with shown := some ((match v.value with
        | some (.display c) => some c
        | _ => none), v.state) }

/-! ### Releases and triggers (R157 to R160) -/

/-- R157: the live part after a release. -/
def PendingPart.release (p : PendingPart) (live : Option Content) : Option Content :=
  match p with
  | .absent => live
  | .content c => some c
  | .emptyMark => none

/-- R157: a station's layers after its release. -/
def StationRec.released (r : StationRec) : StationRec :=
  { r with service := r.servicePending.release r.service, servicePending := .absent,
           routine := r.routinePending.release r.routine, routinePending := .absent }

/-- R157: a release of a station, with its sending judgement. -/
def releaseStation (i : Nat) (s : State) : State :=
  match s.station? i with
  | none => s
  | some r => (s.setStation i r.released).post (.judge i)

/-- R157: the stations of a zone, ascending. -/
def State.zoneStations (s : State) (z : Nat) : List Nat :=
  numbersBelow s.anp.stations.length (fun i => (s.station? i).any (fun r => r.zone == z))

/-- R157: the releases of zones, in the order given. -/
def State.releases (s : State) (zones : List Nat) : List Notice :=
  (zones.flatMap s.zoneStations).map .releaseStation

/-- R159, R160: the zones whose trigger satisfies a condition, ascending. -/
def State.triggered (s : State) (p : Trigger → Bool) : List Nat :=
  numbersBelow s.anp.triggers.length (fun z => (s.anp.triggers[z]?).any p)

/-- R159: an accepted arrival fires the ARRIVAL triggers of its stop. -/
def trainArrived (stop : Nat) (s : State) : State :=
  s.posts (s.releases (s.triggered (fun t => t == .arrival stop)))

/-- R160: a minute boundary fires the MINUTE triggers. -/
def State.minuteBoundary (s : State) : State := s.posts (s.releases (s.triggered (fun t => t == .minute)))

/-! ### Layers written by other blocks (R161 to R163) -/

/-- R161: an INCIDENT hand-over. -/
def incidentContent (i : Nat) (c : Option Content) (s : State) : State :=
  match s.station? i with
  | none => s
  | some r => (s.setStation i { r with incident := c }).post (.judge i)

/-- R162: whether a delay notice is taken over the one that stands. -/
def DelayNotice.taken (n : DelayNotice) : Option DelayNotice → Bool
  | none => true
  | some old => old.train == n.train || decide (old.minutes ≤ n.minutes)

/-- R162: a delay notice is written. -/
def delayWrite (i : Nat) (n : DelayNotice) (s : State) : State :=
  match s.station? i with
  | none => s
  | some r => if n.taken r.delay then (s.setStation i { r with delay := some n }).post (.judge i) else s

/-- R163: whether a station's delay notice is a train's. -/
def StationRec.delays (r : StationRec) (train : Nat) : Bool := r.delay.any (fun n => n.train == train)

/-- R163: a station's delay notice is cleared if it is the train's. -/
def State.clearDelay (i train : Nat) (s : State) : State :=
  match s.station? i with
  | none => s
  | some r => if r.delays train then (s.setStation i { r with delay := none }).post (.judge i) else s

/-- R163: the regulator withdraws a train's notices, in ascending station number. -/
def delayWithdraw (train : Nat) (s : State) : State :=
  (List.range s.anp.stations.length).foldl (fun s i => s.clearDelay i train) s

/-- R163: a train departs from a stop. -/
def trainDeparted (train stop : Nat) (s : State) : State := s.clearDelay (stationOf stop) train

/-! ### Building and resets (R152, R166, R168) -/

/-- R152: the status of a station never sent to. -/
def freshStatus (display : Option Nat) : SendStatus := if display.isSome then .neverSent else .noDisplay

/-- R152: a station record as it is built. -/
def StationRec.built (display : Option Nat) (zone : Nat) : StationRec :=
  { display := display, zone := zone, incident := none, service := none, servicePending := .absent, delay := none,
    routine := none, routinePending := .absent, status := freshStatus display, lastSent := none, inFlight := 0,
    lastFailure := none, shown := none }

/-- R168: the publisher at a commit. -/
def State.builtPublisher (s : State) : Publisher :=
  { staging := s.anp.staging
    stations := s.stations.mapIdx (fun i r => StationRec.built r.display ((s.zoneOf i).getD 0))
    triggers := List.replicate s.zones.length .off }

/-- R168: a station record at a warm restart: the host's layers are kept. -/
def StationRec.restarted (r : StationRec) : StationRec :=
  { StationRec.built r.display r.zone with
    service := r.service, servicePending := r.servicePending, routine := r.routine, routinePending := r.routinePending }

/-- R168: the publisher at a warm restart. -/
def Publisher.restarted (p : Publisher) : Publisher := { p with stations := p.stations.map StationRec.restarted }

/-- R166: SERVICE START marks every station with a display never sent and judges every station. -/
def State.startDisplays (s : State) : State :=
  State.posts ((List.range s.anp.stations.length).map .judge)
    { s with anp := { s.anp with stations := s.anp.stations.map (fun r => { r with status := freshStatus r.display }) } }

/-! ### Requests (R154 to R158, R167) -/

/-- R154: the staging record in a reply. -/
def Staging.bytes (x : Staging) : List Byte := u16 x.text ++ u16 x.p1 ++ u16 x.p2 ++ u8 x.layer.code

def State.setStaging (x : Staging) (s : State) : State := { s with anp := { s.anp with staging := x } }

/-- R154: ANN_STAGE. -/
def reqAnnStage (tag : Byte) (d : List Byte) (s : State) : State :=
  if d.length ≠ 7 then s.refuse tag .badLength
  else
    match layerOf (at8 d 6) with
    | none => s.refuse tag .badValue
    | some layer =>
      if inRange 1 1023 (at16 d 0) then
        let x : Staging := { text := at16 d 0, p1 := at16 d 2, p2 := at16 d 4, layer := layer }
        (s.setStaging x).done tag x.bytes
      else s.refuse tag .badValue

/-- R155, R156: a pending part is written into a layer. -/
def StationRec.bind (layer : HostLayer) (p : PendingPart) (r : StationRec) : StationRec :=
  match layer with
  | .service => { r with servicePending := p }
  | .routine => { r with routinePending := p }

/-- R155, R156: a pending part is written at the named stations; the reply counts the stations written. -/
def State.bindAll (tag : Byte) (layer : HostLayer) (p : PendingPart) (set : List Nat) (s : State) : State :=
  State.done tag (u8 set.eraseDups.length)
    { s with anp := { s.anp with stations := s.anp.stations.mapIdx
                                   (fun i r => if set.contains i then r.bind layer p else r) } }

/-- R155: the range and existence checks of a station set. -/
def State.stationSetCheck (s : State) (x : NumberSet) : Option RefusalCode :=
  if x.badCount 32 || !x.below 32 then some .badValue
  else if !x.below s.stationCount then some .notFound
  else none

/-- R155: ANN_BIND. -/
def reqAnnBind (tag : Byte) (d : List Byte) (s : State) : State :=
  match readSet d 0 with
  | none => s.refuse tag .badLength
  | some x =>
    if s.lds.service = .unconfigured then s.refuse tag .wrongState
    else
      match s.stationSetCheck x with
      | some c => s.refuse tag c
      | none =>
        if s.anp.staging.text = 0 then s.refuse tag .wrongState
        else
          s.bindAll tag s.anp.staging.layer
            (.content { text := s.anp.staging.text, p1 := s.anp.staging.p1, p2 := s.anp.staging.p2 })
            (x.members s.stationCount)

/-- R156: ANN_CLEAR. -/
def reqAnnClear (tag : Byte) (d : List Byte) (s : State) : State :=
  match readSet d 1 with
  | none => s.refuse tag .badLength
  | some x =>
    if s.lds.service = .unconfigured then s.refuse tag .wrongState
    else
      match layerOf (at8 d 0) with
      | none => s.refuse tag .badValue
      | some layer =>
        match s.stationSetCheck x with
        | some c => s.refuse tag c
        | none => s.bindAll tag layer .emptyMark (x.members s.stationCount)

/-- R157: a station whose layers its release changes. -/
def StationRec.hasPending (r : StationRec) : Bool := r.servicePending != .absent || r.routinePending != .absent

/-- R157: the stations of zones whose layers a release changes. -/
def State.changing (s : State) (zones : List Nat) : Nat :=
  ((zones.flatMap s.zoneStations).filter (fun i => (s.station? i).any StationRec.hasPending)).length

/-- R157: ANN_RELEASE. -/
def reqAnnRelease (tag : Byte) (d : List Byte) (s : State) : State :=
  match readSet d 0 with
  | none => s.refuse tag .badLength
  | some x =>
    if s.lds.service = .unconfigured then s.refuse tag .wrongState
    else if x.badCount 8 || !x.below 8 then s.refuse tag .badValue
    else if !x.below s.anp.triggers.length then s.refuse tag .notFound
    else
      let zones := numbersBelow s.anp.triggers.length (fun z => (x.members s.anp.triggers.length).contains z)
      s.posts (s.releases zones ++ [.answer tag (.released (s.changing zones) s.orderCount)])

/-- R158: a trigger mode byte, with the stop that ARRIVAL names. -/
def triggerOf (mode stop : Nat) : Option Trigger :=
  match mode with
  | 0 => some .off
  | 1 => some (.arrival stop)
  | 2 => some .minute
  | _ => none

/-- R158: whether a trigger's stop, where it has one, is below a bound. -/
def Trigger.stopBelow (bound : Nat) : Trigger → Bool
  | .arrival k => decide (k < bound)
  | _ => true

/-- A trigger in a reply: its mode and its stop or 0xFF. -/
def Trigger.bytes : Trigger → List Byte
  | .off => u8 0 ++ u8 0xFF
  | .arrival k => u8 1 ++ u8 k
  | .minute => u8 2 ++ u8 0xFF

def State.setTrigger (z : Nat) (t : Trigger) (s : State) : State :=
  { s with anp := { s.anp with triggers := s.anp.triggers.set z t } }

/-- R158: ANN_TRIGGER. -/
def reqAnnTrigger (tag : Byte) (d : List Byte) (s : State) : State :=
  if d.length ≠ 3 then s.refuse tag .badLength
  else if s.lds.service = .unconfigured then s.refuse tag .wrongState
  else
    match triggerOf (at8 d 1) (at8 d 2) with
    | none => s.refuse tag .badValue
    | some t =>
      if 7 < at8 d 0 ∨ t.stopBelow 64 = false then s.refuse tag .badValue
      else if s.anp.triggers.length ≤ at8 d 0 ∨ t.stopBelow s.stopCount = false then s.refuse tag .notFound
      else (s.setTrigger (at8 d 0) t).done tag t.bytes

/-- A pending part in a reply: absent 0, a content 1, the empty mark 2 (log entry 16). -/
def PendingPart.bytes : PendingPart → List Byte
  | .absent => u8 0 ++ contentBytes none
  | .content c => u8 1 ++ contentBytes (some c)
  | .emptyMark => u8 2 ++ contentBytes none

/-- Section 11.6, "Send status". -/
def SendStatus.code : SendStatus → Nat
  | .noDisplay => 0 | .neverSent => 1 | .sending => 2 | .confirmed => 3 | .unconfirmed => 4

/-- R167: a content that may be absent, marked so, since DEFAULT has text 0 (log entry 16). -/
def markedContent : Option Content → List Byte
  | none => u8 0 ++ contentBytes none
  | some c => u8 1 ++ contentBytes (some c)

/-- R167: the reported display content with its mirror state, or 0xFF. -/
def shownBytes : Option (Option Content × MirrorState) → List Byte
  | none => markedContent none ++ u8 0xFF
  | some (c, m) => markedContent c ++ u8 m.code

/-- R167: ANN_QUERY's results. R186's table gives no width for the number of SHOWs in flight: the model sends it in one
byte (log entry 16). -/
def State.stationBytes (s : State) (r : StationRec) : List Byte :=
  opt8 r.display ++ u8 r.zone ++ ((s.anp.triggers[r.zone]?).getD .off).bytes ++
  contentBytes r.incident ++ contentBytes r.service ++ r.servicePending.bytes ++
  contentBytes (r.delay.map DelayNotice.content) ++ contentBytes r.routine ++ r.routinePending.bytes ++
  contentBytes (some r.effective) ++
  u8 r.status.code ++ markedContent r.lastSent ++ u8 r.inFlight ++ opt8 r.lastFailure ++
  shownBytes r.shown ++ s.anp.staging.bytes

/-- R167: ANN_QUERY. -/
def reqAnnQuery (tag : Byte) (d : List Byte) (s : State) : State :=
  if d.length ≠ 1 then s.refuse tag .badLength
  else if s.lds.service = .unconfigured then s.refuse tag .wrongState
  else if 31 < at8 d 0 then s.refuse tag .badValue
  else
    match s.station? (at8 d 0) with
    | none => s.refuse tag .notFound
    | some r => s.done tag (s.stationBytes r)

end Sys2Proof.Machine
end

