-- ==== Sys2Proof/Machine/Links.lean ====
section
/-! DEFINITION. The field link controller (02): the telegram assembler, the receive queue with its congestion level, the
transmit queue with its classes and evictions, the transmitter, the poll list, and what a link does when it leaves UP
or LOOPBACK. -/
namespace Sys2Proof

/-! ### The receiver (R19) -/

/-- R19: what the receiver hands to the assembler. -/
inductive Received where
  /-- A character with neither a parity nor a framing failure. -/
  | good (v : Byte)
  /-- A character with a parity or framing failure, with the value received. -/
  | damaged (v : Byte)
  /-- A break: a damaged event with no value. -/
  | lineBreak
  deriving DecidableEq, Repr

/-- How many of the nine data and parity bits are ones. -/
def onesOf (data : Byte) (parity : Bool) : Nat :=
  ((List.range 8).filter (fun i => data.getLsbD i)).length + parity.toNat

/-- R19: the receiver's judgement: an even number of ones is a parity failure, a stop bit that is not at mark a framing
failure. -/
def FieldChar.judged : FieldChar → Received
  | .bits data parity stop => if onesOf data parity % 2 = 1 ∧ stop = true then .good data else .damaged data
  | .lineBreak => .lineBreak

/-- R19: a character as a sender puts it on the line: its parity bit makes the ones odd, its stop bit is at mark. -/
def FieldChar.sent (v : Byte) : FieldChar := .bits v (onesOf v false % 2 == 0) true

end Sys2Proof

namespace Sys2Proof.Machine

/-! ### The assembler (R19 to R22) -/

/-- What one character brings about at the assembler. -/
inductive AsmEvent where
  /-- Nothing beyond the assembler itself. -/
  | quiet
  /-- The last payload byte has been decided (R24). -/
  | payload (bytes : List Byte) (damaged : Bool)
  /-- The second check byte has been taken (R21). -/
  | complete (bytes : List Byte) (damaged : Bool)
  /-- A length byte above 24 (R21). -/
  | badLength
  /-- A lead byte within the telegram (R20). -/
  | fragment
  deriving DecidableEq, Repr

/-- R21: a byte is taken into the telegram. -/
def asmAppend (bytes : List Byte) (damaged : Bool) (b : Byte) (now : Nat) : Assembler × AsmEvent :=
  let bs := bytes ++ [b]
  let len := at8 bs 3
  if bs.length < 4 then (.busy bs damaged false now, .quiet)
  else if bs.length = 4 ∧ 24 < len then (.hunting, .badLength)
  else if bs.length = 4 + len + 2 then (.hunting, .complete bs damaged)
  else if bs.length = 4 + len then (.busy bs damaged false now, .payload bs damaged)
  else (.busy bs damaged false now, .quiet)

/-- R19 to R21: the assembler takes what the receiver hands it. -/
def asmTake (a : Assembler) (c : Received) (now : Nat) : Assembler × AsmEvent :=
  match a with
  | .hunting =>
    match c with
    | .good v => if v = fieldLead then (.busy [] false false now, .quiet) else (.hunting, .quiet)
    | .damaged _ => (.hunting, .quiet)
    | .lineBreak => (.hunting, .quiet)
  | .busy bytes dmg true _ =>
    match c with
    | .good v =>
      if v = fieldLead then asmAppend bytes dmg fieldLead now
      else (.busy [v] false false now, .fragment)
    | .damaged v => (.busy [v] true false now, .fragment)
    | .lineBreak => (.busy [] true false now, .fragment)
  | .busy bytes dmg false _ =>
    match c with
    | .good v => if v = fieldLead then (.busy bytes dmg true now, .quiet) else asmAppend bytes dmg v now
    | .damaged v => asmAppend bytes true v now
    | .lineBreak => (.busy bytes true false now, .quiet)

/-- R184: the telegram of a complete list of bytes. -/
def telegramOf (bytes : List Byte) : Telegram :=
  { addr := BitVec.ofNat 8 (at8 bytes 0), kind := BitVec.ofNat 8 (at8 bytes 1), seq := BitVec.ofNat 8 (at8 bytes 2),
    payload := (bytes.drop 4).take (at8 bytes 3) }

/-- R21: whether the check word of a complete telegram equals the sum. -/
def checkMatches (bytes : List Byte) : Bool :=
  at16 bytes (4 + at8 bytes 3) == checkSum (bytes.take (4 + at8 bytes 3))

/-! ### The receive queue (R23, R27) -/

/-- The congestion level of a link (R8). -/
def LinkRec.level (l : LinkRec) : Nat := (l.cfg.map (·.level)).getD Config.maxReceive

/-- R23, R27: an entry joins the receive queue with the looped mark of the link's state, or is dropped with OVERRUN;
the link that reaches its congestion level is reported. -/
def State.rxJoin (i : Nat) (mk : Bool → RxEntry) (s : State) : State :=
  match s.links[i]? with
  | none => s
  | some l =>
    if Config.maxReceive ≤ l.rx.length then s.setLink i { l with errOverrun := true }
    else
      let l' := { l with rx := l.rx ++ [mk (l.state == .loopback)] }
      if !l.congested && decide (l.level ≤ l'.rx.length) then
        (s.setLink i { l' with congested := true }).report .linkCongested (some (.link i)) (some l'.rx.length) none
      else s.setLink i l'

/-- R23: an annotation joins. -/
def State.rxAnnotate (i : Nat) (a : Annotation) (s : State) : State := s.rxJoin i (fun looped => .annotation a looped)

/-! ### The transmitter (R28 to R30) -/

/-- The first queued order of a class, and the queue without it (R29: the oldest goes first). -/
def takeClass (c : OrderClass) : List TxEntry → Option (TxEntry × List TxEntry)
  | [] => none
  | e :: rest =>
    if e.data.cls = c then some (e, rest)
    else (takeClass c rest).map (fun (x, r) => (x, e :: r))

/-- R28: the queue without its most recently joined entry of a class, and that entry. -/
def evictNewest (c : OrderClass) (q : List TxEntry) : Option (TxEntry × List TxEntry) :=
  (takeClass c q.reverse).map (fun (x, r) => (x, r.reverse))

/-- A telegram becomes the transmitter's. -/
def LinkRec.load (w : Sending) (l : LinkRec) : LinkRec :=
  { l with sender := some { what := w, left := w.telegram.characters } }

/-- R43: the sequence a mirror entry uses next. -/
def MirrorEntry.nextSeq (e : MirrorEntry) : Nat := (e.seq + 1) % 256

/-- R29, R30: the transmitter chooses an order if one qualifies before the polls, or the first poll, or an order of
class DISPLAY when the link is not CONGESTED. A poll takes a new sequence from its mirror entry (R43). -/
def State.choose (i : Nat) (l : LinkRec) (s : State) : State :=
  match takeClass .safety l.tx with
  | some (e, rest) => s.setLink i ({ l with tx := rest }.load (.order e))
  | none =>
    match takeClass .control l.tx with
    | some (e, rest) => s.setLink i ({ l with tx := rest }.load (.order e))
    | none =>
      match l.polls with
      | el :: rest =>
        match s.entry? el with
        | some e =>
          (s.setEntry { e with seq := e.nextSeq }).setLink i
            ({ l with polls := rest }.load (.poll el e.addr e.nextSeq))
        | none => s.setLink i { l with polls := rest }
      | [] =>
        if l.congested then s
        else
          match takeClass .display l.tx with
          | some (e, rest) => s.setLink i ({ l with tx := rest }.load (.order e))
          | none => s

/-- R29: an idle transmitter of a link in UP or LOOPBACK chooses its next telegram. -/
def State.kick (i : Nat) (s : State) : State :=
  match s.links[i]? with
  | none => s
  | some l => if l.sender.isNone && (l.state == .up || l.state == .loopback) then s.choose i l else s

/-- R30: an element is appended to its link's poll list, in UP and LOOPBACK only, and only once. -/
def State.poll (i el : Nat) (s : State) : State :=
  match s.links[i]? with
  | none => s
  | some l =>
    if (l.state == .up || l.state == .loopback) && !l.polls.contains el then
      (s.setLink i { l with polls := l.polls ++ [el] }).kick i
    else s

/-- R31, R34, R36: every element of a link is appended, in ascending element number. -/
def State.pollSweep (i : Nat) (s : State) : State :=
  ((s.mirror.filter (fun e => e.link == i)).map (·.el)).foldl (fun s el => s.poll i el) s

/-- What a link makes of an offered order (R28). -/
inductive Offered where
  | taken (s : State)
  | refused (r : Result)

/-- R28: an order joins the transmit queue, evicts, or is refused. The transmitter is not yet asked to choose. -/
def State.offer (i : Nat) (e : TxEntry) (s : State) : Offered :=
  match s.links[i]? with
  | none => .refused .linkDown
  | some l =>
    if l.state == .disabled || l.state == .down then .refused .linkDown
    else if l.tx.length < Config.maxTransmit then .taken (s.setLink i { l with tx := l.tx ++ [e] })
    else if e.data.cls ≠ .safety then .refused .linkFull
    else
      match evictNewest .display l.tx with
      | some (x, rest) => .taken ((s.setLink i { l with tx := rest ++ [e] }).post (.evicted x.el x.token))
      | none =>
        match evictNewest .control l.tx with
        | some (x, rest) => .taken ((s.setLink i { l with tx := rest ++ [e] }).post (.evicted x.el x.token))
        | none => .refused .linkFull

/-- R47: an order still in the transmit queue is removed and another joins at the tail. -/
def State.replaceQueued (i token : Nat) (e : TxEntry) (s : State) : State :=
  s.modLink i (fun l => { l with tx := (l.tx.filter (fun x => x.token != token)) ++ [e] })

/-- R47: whether an order is still in its link's transmit queue. -/
def State.isQueued (s : State) (i token : Nat) : Bool :=
  (s.links[i]?).any (fun l => l.tx.any (fun x => x.token == token))

/-! ### Taking a character (R19 to R26) -/

/-- R24: the event of an EVENT telegram from a PLATFORM element of the link, if its payload has the layout of an
ARRIVAL or a DEPARTURE. -/
def State.forwardable (s : State) (i : Nat) (bytes : List Byte) (damaged : Bool) : Option Forwarded :=
  let pay := (bytes.drop 4).take (at8 bytes 3)
  if damaged || at8 bytes 1 != 2 || pay.length != 3 || !(at8 pay 0 == 1 || at8 pay 0 == 2) then none
  else
    (s.mirror.find? (fun e => e.link == i && e.addr == at8 bytes 0 && e.kind == .platform)).map
      (fun e => { el := e.el, arrival := at8 pay 0 == 1, train := at16 pay 1 })

/-- R24: the forwarding: the tentative slot is filled and the train register is told. Only on a link in UP. -/
def State.forward (i : Nat) (bytes : List Byte) (damaged : Bool) (s : State) : State :=
  match s.links[i]? with
  | none => s
  | some l =>
    if l.state = .up then
      match s.forwardable i bytes damaged with
      | some f => (s.setLink i { l with tentative := some f }).post (.tentativeEvent i f.el f.arrival f.train)
      | none => s
    else s

/-- R26: a tentative telegram that is abandoned is withdrawn from the train register. -/
def State.withdrawTentative (i : Nat) (s : State) : State :=
  match s.links[i]? with
  | none => s
  | some l =>
    match l.tentative with
    | some _ => (s.setLink i { l with tentative := none }).post (.tentativeEnd i false)
    | none => s

/-- R21: a complete telegram that is not tentative is judged. -/
def State.judgeComplete (i : Nat) (bytes : List Byte) (damaged : Bool) (s : State) : State :=
  if damaged then s.rxAnnotate i .damaged
  else if checkMatches bytes then s.rxJoin i (fun looped => .telegram (telegramOf bytes) false looped)
  else s.rxAnnotate i .check

/-- R25: the check word of a tentative telegram is judged; its slot has been emptied. The join, with its LINK_CONGESTED
(R27), comes before the event's end is handed over (log entry 45). -/
def State.judgeTentative (i : Nat) (l : LinkRec) (bytes : List Byte) (damaged : Bool) (s : State) : State :=
  if damaged then (s.rxAnnotate i .damaged).post (.tentativeEnd i false)
  else if !checkMatches bytes then (s.setLink i { l with errCheck := true }).post (.tentativeEnd i false)
  else if l.rx.length < Config.maxReceive then
    (s.rxJoin i (fun looped => .telegram (telegramOf bytes) true looped)).post (.tentativeEnd i true)
  else (s.setLink i { l with errOverrun := true }).post (.tentativeEnd i false)

/-- R21, R25: the second check byte has been taken. -/
def State.telegramComplete (i : Nat) (bytes : List Byte) (damaged : Bool) (s : State) : State :=
  match s.links[i]? with
  | none => s
  | some l =>
    match l.tentative with
    | some _ =>
      (s.setLink i { l with tentative := none }).judgeTentative i { l with tentative := none } bytes damaged
    | none => s.judgeComplete i bytes damaged

/-- R22, R26: the telegram is abandoned as FRAGMENT; the join's LINK_CONGESTED comes before the event's end (log entry 45). -/
def State.fragment (i : Nat) (s : State) : State := (s.withdrawTentative i).rxAnnotate i .fragment

/-- What the assembler's event does to the link. -/
def State.asmEffect (i : Nat) (e : AsmEvent) (s : State) : State :=
  match e with
  | .quiet => s
  | .payload bytes damaged => s.forward i bytes damaged
  | .complete bytes damaged => s.telegramComplete i bytes damaged
  | .badLength => s.rxAnnotate i .damaged
  | .fragment => s.fragment i

/-- A character is handed to a link's assembler. -/
def State.feed (i : Nat) (c : Received) (s : State) : State :=
  match s.links[i]? with
  | none => s
  | some l =>
    (s.setLink i { l with asm := (asmTake l.asm c s.tick).1 }).asmEffect i (asmTake l.asm c s.tick).2

/-- R34: the next character of the transmitter of a looped link, and the record with it gone. -/
def LinkRec.loopChar (l : LinkRec) : Option (Byte × LinkRec) :=
  match l.sender with
  | some t =>
    match t.left with
    | b :: rest => some (b, { l with sender := some { t with left := rest } })
    | [] => none
  | none => none

/-- R19, R34: the character the receiver of a link takes: the field input's in UP, the own transmitter's in LOOPBACK,
none in DISABLED and DOWN. -/
def LinkRec.taken (l : LinkRec) (c : FieldChar) : Option FieldChar :=
  match l.state with
  | .up => some c
  | .loopback => l.loopChar.map (fun x => .sent x.1)
  | .disabled => none
  | .down => none

/-- What the character a link would take brings about (R20, R21, R24), for the rows named after it. -/
def State.charEvent (s : State) (i : Nat) (c : FieldChar) : Option AsmEvent :=
  (s.links[i]?).bind (fun l => (l.taken c).map (fun x => (asmTake l.asm x.judged s.tick).2))

/-- R19: a link's receiver takes a character. -/
def State.takeChar (i : Nat) (c : FieldChar) (s : State) : State :=
  match s.links[i]? with
  | none => s
  | some l =>
    match l.state with
    | .up => s.feed i c.judged
    | .loopback =>
      match l.loopChar with
      | some (b, l') => (s.setLink i l').feed i (FieldChar.sent b).judged
      | none => s
    | .disabled => s
    | .down => s

/-- R29, R34: the characters a looped transmitter has not yet handed to the receiver are handed to it. -/
def State.loopRest (i : Nat) (s : State) : State :=
  match s.links[i]? with
  | none => s
  | some l =>
    match l.state, l.sender with
    | .loopback, some t =>
      t.left.foldl (fun s b => s.feed i (FieldChar.sent b).judged) (s.setLink i { l with sender := some { t with left := [] } })
    | _, _ => s

/-! ### Leaving UP or LOOPBACK (R22, R26, R32, R33, R34) -/

/-- The order in the transmitter, then the queued orders in joining order (R32). -/
def LinkRec.lineOrders (l : LinkRec) : List TxEntry :=
  match l.sender with
  | some { what := .order e, left := _ } => e :: l.tx
  | _ => l.tx

/-- R32: the receiver stops with its telegram a FRAGMENT, the transmitter stops, and its queue and poll list are
emptied. The receive queue is kept. -/
def State.quiesce (i : Nat) (s : State) : State :=
  let s := match s.links[i]? with
    | some l => (match l.asm with
      | .busy _ _ _ _ => s.fragment i
      | .hunting => s)
    | none => s
  s.modLink i (fun l => { l with asm := .hunting, sender := none, tx := [], polls := [] })

/-- A link's new state, reported LINK_STATE with the old one (R31 to R34). -/
def State.moveLink (i : Nat) (new : LinkState) (s : State) : State :=
  match s.links[i]? with
  | none => s
  | some l =>
    (s.setLink i { l with state := new }).post
      (.report .linkState (some (.link i)) (some l.state.code) (some new.code))

/-- R31, R34: a link that becomes UP reports it, polls its elements and resolves its LINK_LOSS. -/
def State.linkUp (i : Nat) (s : State) : State :=
  ((s.moveLink i .up).pollSweep i).post (.resolve .linkLoss i)

/-- R35: the error flags of an annotation the mirror takes from the head (R23). -/
def LinkRec.annotate (a : Annotation) (l : LinkRec) : LinkRec :=
  match a with
  | .damaged => { l with errDamaged := true }
  | .fragment => { l with errFragment := true }
  | .check => { l with errCheck := true }

/-- R23, R27: the head entry leaves the queue; a count that falls below the level clears the congested flag, and the
transmitter may then choose an order of class DISPLAY (R29). -/
def State.rxPop (i : Nat) (l : LinkRec) (rest : List RxEntry) (s : State) : State :=
  if l.congested && decide (rest.length < l.level) then
    (s.setLink i { l with rx := rest, congested := false }).kick i
  else s.setLink i { l with rx := rest }

end Sys2Proof.Machine
end

