-- ==== Sys2Proof/Machine/Mirror.lean ====
section
/-! DEFINITION. The element mirror (03): issuing orders, the exchange of answers, outcomes and their delivery, field
telegrams, and polls. -/
namespace Sys2Proof.Machine

/-! ### Notices of an entry (R42, R54) -/

/-- R42: the value notice of an entry as it now stands. -/
def MirrorEntry.notice (e : MirrorEntry) (c : Cause) (carried : List (Option Nat)) (now : Nat) : Notice :=
  .value { el := e.el, kind := e.kind, state := e.state, authority := e.authority, value := e.value, cause := c,
           carried := carried, moment := now }

/-- R54: the outcome of an order, delivered to its origin. -/
def outcomeOf (el : Nat) (d : OrderData) (token : Nat) (r : Result) (atIssue : Bool) : Notice :=
  .outcome { el := el, data := d, token := token, result := r, atIssue := atIssue }

/-- R54: a failure is reported ORDER_FAILED with the cause and the order code, or the reason byte for REJECTED. -/
def failReport (el : Nat) (d : OrderData) (r : Result) : List Notice :=
  if r.failed then
    [.report .orderFailed (some (.element el)) (some r.code)
      (some (match r with
        | .rejected reason => reason
        | _ => d.code))]
  else []

/-- R46, R54: the outcomes of an entry's outstanding order and of its successor, both with one result. -/
def MirrorEntry.failOutcomes (e : MirrorEntry) (r : Result) : List Notice :=
  (match e.out with
    | some o => [outcomeOf e.el o.data o.token r false]
    | none => []) ++
  (match e.succ with
    | some w => [outcomeOf e.el w.data w.token r false]
    | none => [])

/-- R54: the reports of those failures, in the same order. -/
def MirrorEntry.failReports (e : MirrorEntry) (r : Result) : List Notice :=
  (match e.out with
    | some o => failReport e.el o.data r
    | none => []) ++
  (match e.succ with
    | some w => failReport e.el w.data r
    | none => [])

/-- R38: an UNKNOWN entry has authority unknown and keeps its last value; its orders and poll wait are gone. -/
def MirrorEntry.toUnknown (e : MirrorEntry) : MirrorEntry :=
  { e with state := .unknown, authority := .unknown, out := none, succ := none, poll := none }

/-! ### The end of an outstanding order (R42, R46, R54) -/

/-- The order `o` ends with `r` and leaves the entry HELD as `e`: its outcome first, then the successor's turn, the value
notice and the reports (`follow`). What an origin does on the outcome comes before them (log entry 39). -/
def State.endHeld (e : MirrorEntry) (o : Order) (r : Result) (c : Cause) (s : State) : State :=
  (s.setEntry { e with state := .held, out := none }).posts
    [outcomeOf e.el o.data o.token r false, .follow e.el c o.data r]

/-- The orders of the entry `e` fail with `r` and leave it as `e'`, REPORTED or UNKNOWN: both outcomes, the value notice
and the reports, in that order. -/
def State.endLost (e e' : MirrorEntry) (r : Result) (c : Cause) (s : State) : State :=
  (s.setEntry e').posts (e.failOutcomes r ++ [e'.notice c [] s.tick] ++ e.failReports r)

/-- An order that fails without ever having been outstanding: its outcome and its report. -/
def State.failAtIssue (el : Nat) (d : OrderData) (token : Nat) (r : Result) (s : State) : State :=
  s.posts ([outcomeOf el d token r true] ++ failReport el d r)

/-! ### Issuing (R45 to R47) -/

/-- The transmit queue entry of an order. -/
def MirrorEntry.txEntry (e : MirrorEntry) (d : OrderData) (token : Nat) : TxEntry :=
  { el := e.el, addr := e.addr, seq := e.nextSeq, data := d, token := token }

/-- The order as it becomes outstanding: a new sequence, stage QUEUED. -/
def MirrorEntry.withOrder (e : MirrorEntry) (d : OrderData) (token defers : Nat) : MirrorEntry :=
  { e with seq := e.nextSeq, state := .ordered,
           out := some { data := d, token := token, seq := e.nextSeq, stage := .queued, defers := defers } }

/-- R45: an order to a HELD entry becomes outstanding and is offered to the link; a refusal leaves the entry HELD with
the sequence used (R43). -/
def State.startOrder (e : MirrorEntry) (d : OrderData) (token : Nat) (s : State) : State :=
  match s.offer e.link (e.txEntry d token) with
  | .taken s' =>
    ((s'.setEntry (e.withOrder d token 0)).kick e.link).post ((e.withOrder d token 0).notice .order [] s.tick)
  | .refused r => (s.setEntry { e with seq := e.nextSeq }).failAtIssue e.el d token r

/-- R47: a SAFETY order overtakes the outstanding order `o`. -/
def State.overtake (e : MirrorEntry) (o : Order) (d : OrderData) (token : Nat) (s : State) : State :=
  let old : List Notice := [outcomeOf e.el o.data o.token .superseded false] ++ failReport e.el o.data .superseded
  if s.isQueued e.link o.token then
    (((s.replaceQueued e.link o.token (e.txEntry d token)).setEntry (e.withOrder d token 0)).kick e.link).posts old
  else
    match s.offer e.link (e.txEntry d token) with
    | .taken s' => ((s'.setEntry (e.withOrder d token 0)).kick e.link).posts old
    | .refused r => (s.setEntry { e with seq := e.nextSeq }).failAtIssue e.el d token r

/-- R46: a CONTROL or DISPLAY order becomes the waiting successor; an earlier one fails SUPERSEDED. -/
def State.wait (e : MirrorEntry) (d : OrderData) (token : Nat) (s : State) : State :=
  (s.setEntry { e with succ := some { data := d, token := token } }).posts
    (match e.succ with
      | some w => [outcomeOf e.el w.data w.token .superseded false] ++ failReport e.el w.data .superseded
      | none => [])

/-- R45: an origin's order, judged by the mirror state of its element. A successor that is still to be offered after the
end of the order before it goes first (R42, R46). -/
def issue (el : Nat) (d : OrderData) (token : Nat) (s : State) : State :=
  match s.entry? el with
  | none => s.failAtIssue el d token .unknown
  | some e =>
    match e.state with
    | .unknown => s.failAtIssue el d token .unknown
    | .reported => s.failAtIssue el d token .localCtl
    | .held =>
      match e.succ with
      | none => s.startOrder e d token
      | some w => (s.startOrder { e with succ := none } w.data w.token).post (.issue el d token)
    | .ordered =>
      match e.out with
      | none => s.startOrder e d token
      | some o => if d.cls = .safety then s.overtake e o d token else s.wait e d token

/-- R42, R46: a successor `w` follows the order `d` that has ended with `r` and left the entry HELD: taken by the link, it
is outstanding; refused, it fails with the refusal's cause. One value notice tells the entry as it then stands, and the
reports follow in the order of the outcomes. -/
def State.followBy (e : MirrorEntry) (w : Waiting) (c : Cause) (d : OrderData) (r : Result) (s : State) : State :=
  let x := { e with succ := none }
  match s.offer e.link (x.txEntry w.data w.token) with
  | .taken s' =>
    ((s'.setEntry (x.withOrder w.data w.token 0)).kick e.link).posts
      ([(x.withOrder w.data w.token 0).notice c [] s.tick] ++ failReport e.el d r)
  | .refused r' =>
    (s.setEntry { x with seq := e.nextSeq }).posts
      ([outcomeOf e.el w.data w.token r' true, { x with seq := e.nextSeq }.notice c [] s.tick] ++
       failReport e.el d r ++ failReport e.el w.data r')

/-- R42, R46: what follows the outcome of an order `d` that has ended with `r` and left the entry HELD: the successor's
turn, if one waits still, then the value notice of the entry as it stands, then the reports. -/
def follow (el : Nat) (c : Cause) (d : OrderData) (r : Result) (s : State) : State :=
  match s.entry? el with
  | none => s.posts (failReport el d r)
  | some e =>
    match e.state, e.out, e.succ with
    | .held, none, some w => s.followBy e w c d r
    | _, _, _ => s.posts ([e.notice c [] s.tick] ++ failReport el d r)

/-- R55: the link has evicted a queued order. -/
def evicted (el token : Nat) (s : State) : State :=
  match s.entry? el with
  | none => s
  | some e =>
    match e.out with
    | some o => if o.token = token then s.endHeld e o .evicted .order else s
    | none => s

/-! ### Sent notices and timers (R48 to R50, R56) -/

/-- The answer timeout of a link, in milliseconds (R8). -/
def State.answerMs (s : State) (link : Nat) : Nat :=
  (((s.links[link]?).bind (·.cfg)).map (·.timeout)).getD 0

/-- R48, R56: the transmitter hands the mirror a sent notice. -/
def State.sentNotice (w : Sending) (looped : Bool) (s : State) : State :=
  match w with
  | .order x =>
    match s.entry? x.el with
    | none => s
    | some e =>
      match e.out with
      | some o =>
        if o.seq = x.seq ∧ o.stage = .queued then
          s.setEntry { e with out := some { o with stage := .sent (s.tick + s.answerMs e.link) } }
        else s
      | none => s
  | .poll el _ seq =>
    if looped then s
    else
      match s.entry? el with
      | none => s
      | some e => s.setEntry { e with poll := some { seq := seq, deadline := s.tick + s.answerMs e.link } }

/-- R48 to R50: a timer of the outstanding order expires: the order fails with `r`, the entry becomes UNKNOWN, the
element is listed for a poll and the successor fails alike. -/
def State.orderExpired (e : MirrorEntry) (r : Result) (s : State) : State :=
  (s.endLost e { e with state := .unknown, authority := .unknown, out := none, succ := none } r .unknown).poll
    e.link e.el

/-- R48: ANSWER_TIMEOUT. -/
def State.answerTimeout (el : Nat) (s : State) : State :=
  match s.entry? el with
  | none => s
  | some e =>
    match e.out with
    | some { stage := .sent d, .. } => (s.reach d).orderExpired e .timeout
    | _ => s

/-- R49: EXEC_TIMEOUT. -/
def State.execTimeout (el : Nat) (s : State) : State :=
  match s.entry? el with
  | none => s
  | some e =>
    match e.out with
    | some { stage := .executing d, .. } => (s.reach d).orderExpired e .execTimeout
    | _ => s

/-- R50: NO_PUSH. -/
def State.noPush (el : Nat) (s : State) : State :=
  match s.entry? el with
  | none => s
  | some e =>
    match e.out with
    | some { stage := .pushWait d, .. } => (s.reach d).orderExpired e .noPush
    | _ => s

/-- R56: ELEMENT_SILENT: the report, and a HELD or REPORTED entry becomes UNKNOWN. -/
def State.elementSilent (el : Nat) (s : State) : State :=
  match s.entry? el with
  | none => s
  | some e =>
    match e.poll with
    | none => s
    | some w =>
      let s1 := (s.reach w.deadline).report .elementSilent (some (.element el)) none none
      match e.state with
      | .held => (s1.setEntry e.toUnknown).post (e.toUnknown.notice .unknown [] s1.tick)
      | .reported => (s1.setEntry e.toUnknown).post (e.toUnknown.notice .unknown [] s1.tick)
      | .unknown => s1.setEntry { e with poll := none }
      | .ordered => s1.setEntry { e with poll := none }

/-! ### Telegrams (R39 to R41, R49 to R53) -/

/-- R40: the mirror state a STATE telegram leaves a settled entry in, given its authority and whether the link is UP. -/
def settledState (old : MirrorState) (linkUp : Bool) (a : Authority) : MirrorState :=
  match old with
  | .unknown => if linkUp then (if a = .remote then .held else .reported) else .unknown
  | _ => if a = .remote then .held else .reported

/-- R40: a STATE telegram for an entry with no order that it ends. On a link that is not UP an UNKNOWN entry takes the
value and keeps its authority unknown (log entry 11). -/
def State.stateSettled (e : MirrorEntry) (a : Authority) (v : Value) (carried : List (Option Nat)) (linkUp : Bool)
    (s : State) : State :=
  let st := settledState e.state linkUp a
  let e' := { e with value := some v, poll := none, state := st, authority := if st = .unknown then .unknown else a }
  (s.setEntry e').post (e'.notice .state carried s.tick)

/-- R51: the push. -/
def State.push (e : MirrorEntry) (o : Order) (a : Authority) (v : Value) (s : State) : State :=
  let e' := { e with value := some v, authority := a, poll := none }
  if a ≠ .remote then
    s.endLost e { e' with state := .reported, out := none, succ := none } .localCtl .state
  else if o.data.targetMet v then s.endHeld e' o .already .state
  else
    match s.offer e.link (e'.txEntry o.data o.token) with
    | .taken s' =>
      ((s'.setEntry (e'.withOrder o.data o.token o.defers)).kick e.link).post
        ((e'.withOrder o.data o.token o.defers).notice .state [] s.tick)
    | .refused r => s.endHeld { e' with seq := e.nextSeq } o r .state

/-- The voltages a value carries. -/
def Value.volts : Value → List (Option Nat)
  | .meter _ vs => vs
  | _ => []

/-- R41: channels carried replace those recorded; channels not carried keep their values. -/
def mergeVolts (old carried : List (Option Nat)) : List (Option Nat) :=
  (List.range 4).map (fun c => ((carried[c]?).join).or ((old[c]?).join))

/-- R40: a STATE telegram. -/
def State.stateTelegram (e : MirrorEntry) (a : Authority) (v : Value) (s : State) : State :=
  let linkUp := (s.links[e.link]?).any (fun l => l.state == .up)
  match e.out with
  | none => s.stateSettled e a v v.volts linkUp
  | some o =>
    match o.stage with
    | .pushWait _ => s.push e o a v
    | _ =>
      if a = .remote then
        let e' := { e with value := some v, authority := .remote, poll := none }
        (s.setEntry e').post (e'.notice .state v.volts s.tick)
      else
        s.endLost e { e with value := some v, authority := a, poll := none, state := .reported, out := none,
                             succ := none } .localCtl .state

/-- R41: what an event changes in the recorded value. -/
def eventValue (e : MirrorEntry) (code train : Nat) (v : Option Value) : Option Value :=
  match code, e.value, v with
  | 1, some (.platform _ i), _ => some (.platform (some train) i)
  | 1, _, _ => some (.platform (some train) none)
  | 2, some (.platform _ i), _ => some (.platform none i)
  | 2, _, _ => some (.platform none none)
  | 3, _, _ => some (.breaker .tripped)
  | _, some (.meter _ old), some (.meter load vs) => some (.meter load (mergeVolts old vs))
  | _, _, some x => some x
  | _, old, none => old

/-- R41: an EVENT telegram. A platform event that was forwarded updates the occupancy alone; one that was not is
handed to the train register as confirmed. -/
def State.eventTelegram (e : MirrorEntry) (code train : Nat) (v : Option Value) (forwarded : Bool) (s : State) : State :=
  let e' := { e with value := eventValue e code train v }
  let s1 := s.setEntry e'
  if e.kind = .platform then
    if forwarded then s1
    else
      let s2 := s1.post (e'.notice (.event code) [] s.tick)
      match s.stopOfElement e.el with
      | some k => s2.post (.confirmedEvent (code == 1) train k)
      | none => s2
  else s1.post (e'.notice (.event code) ((v.map (·.volts)).getD []) s.tick)

/-- R49: the execution timeout of an element kind, in seconds. -/
def State.execSeconds (s : State) (k : ElemKind) : Nat :=
  match k with
  | .breaker => s.params.breakerExec
  | .platform => s.params.platformExec
  | .display => s.params.displayExec
  | .meter => 0

/-- R49, R50, R52: an ANSWER bearing the outstanding sequence while the order is SENT. -/
def State.answerTaken (e : MirrorEntry) (o : Order) (code reason : Nat) (s : State) : State :=
  match code with
  | 1 => s.setEntry { e with out := some { o with stage := .executing (s.inSeconds (s.execSeconds e.kind)) } }
  | 2 =>
    if 3 ≤ o.defers then s.endHeld e { o with defers := o.defers + 1 } .deferredOut .order
    else s.setEntry { e with out := some { o with defers := o.defers + 1,
                                                  stage := .pushWait (s.tick + s.answerMs e.link) } }
  | _ => s.endHeld e o (.rejected reason) .order

/-- R43, R49: an ANSWER telegram; any that is not awaited is stale and discarded. -/
def State.answerTelegram (e : MirrorEntry) (seq code reason : Nat) (s : State) : State :=
  match e.out with
  | some o =>
    match o.stage with
    | .sent _ => if o.seq = seq then s.answerTaken e o code reason else s
    | _ => s
  | none => s

/-- R53: the outstanding order has been carried out with the value `v`. -/
def State.executedTaken (e : MirrorEntry) (o : Order) (v : Value) (s : State) : State :=
  s.endHeld { e with value := some v, authority := .remote } o
    (if o.data.targetMet v then .complete else .diverged v) .executed

/-- R43, R53: an EXECUTED telegram; any that is not awaited is stale and discarded. -/
def State.executedTelegram (e : MirrorEntry) (seq : Nat) (v : Value) (s : State) : State :=
  match e.out with
  | some o =>
    match o.stage with
    | .sent _ => if o.seq = seq then s.executedTaken e o v else s
    | .executing _ => if o.seq = seq then s.executedTaken e o v else s
    | .queued => s
    | .pushWait _ => s
  | none => s

/-- R39: a telegram that fails a check is reported and discarded. -/
def State.inconsistent (i : Nat) (t : Telegram) (check : Nat) (s : State) : State :=
  s.report .fieldInconsistent (some (.link i)) (some t.addr.toNat) (some check)

/-- R39: a good telegram taken from the head of a link's queue. -/
def State.takeTelegram (i : Nat) (t : Telegram) (forwarded looped : Bool) (s : State) : State :=
  if looped then
    s.report .loopEcho (some (.link i)) (some t.addr.toNat) (some (t.kind.toNat * 256 + t.seq.toNat))
  else
    match s.mirror.find? (fun e => e.link == i && e.addr == t.addr.toNat) with
    | none => s.inconsistent i t 2
    | some e =>
      match judgeTelegram e.kind t with
      | .failed check => s.inconsistent i t check
      | .ok (.state a v) => s.stateTelegram e a v
      | .ok (.event code train v) => s.eventTelegram e code train v forwarded
      | .ok (.answer code reason) => s.answerTelegram e t.seq.toNat code reason
      | .ok (.executed v) => s.executedTelegram e t.seq.toNat v

/-- R23: the mirror takes the head entry of a link's receive queue. -/
def State.takeEntry (i : Nat) (s : State) : State :=
  match s.links[i]? with
  | none => s
  | some l =>
    match l.rx with
    | [] => s
    | .annotation a _ :: rest => (s.rxPop i l rest).modLink i (LinkRec.annotate a)
    | .telegram t forwarded looped :: rest => (s.rxPop i l rest).takeTelegram i t forwarded looped

/-! ### A link that leaves UP (R32, R33, R55) -/

/-- R55: the entries whose orders fail, in order: those of the transmitter and the queue, then the others by element. -/
def State.failing (i : Nat) (orders : List TxEntry) (s : State) : List MirrorEntry :=
  let mine := s.mirror.filter (fun e => e.link == i)
  let first := orders.filterMap (fun x =>
    mine.find? (fun e => e.el == x.el && e.out.any (fun o => o.token == x.token)))
  first ++ mine.filter (fun e => e.out.isSome && !first.any (fun f => f.el == e.el))

/-- R55: every order of the link's elements fails LINK_DOWN and every entry becomes UNKNOWN. -/
def State.loseElements (i : Nat) (orders : List TxEntry) (s : State) : State :=
  let failing := s.failing i orders
  let known := s.mirror.filter (fun e => e.link == i && e.state != .unknown)
  State.posts
    (failing.flatMap (·.failOutcomes .linkDown) ++
     known.map (fun e => e.toUnknown.notice .unknown [] s.tick) ++
     failing.flatMap (·.failReports .linkDown))
    { s with mirror := s.mirror.map (fun e => if e.link = i then e.toUnknown else e) }

/-- R32, R33: the link leaves UP, DOWN or LOOPBACK for `new`: its receiver, transmitter, queue and poll list stop, its
orders fail and its elements go UNKNOWN. -/
def State.leaveLink (i : Nat) (new : LinkState) (s : State) : State :=
  let orders := ((s.links[i]?).map LinkRec.lineOrders).getD []
  ((s.quiesce i).modLink i (fun l => { l with state := new })).loseElements i orders

/-- R13, R56: SERVICE START asks for a poll of every element. -/
def pollAll (s : State) : State := s.mirror.foldl (fun s e => s.poll e.link e.el) s

/-! ### Building and resets (R37) -/

/-- R37: an entry as it is built. -/
def MirrorEntry.built (el : Nat) (kind : ElemKind) (link addr : Nat) : MirrorEntry :=
  { el := el, kind := kind, link := link, addr := addr, authority := .unknown, state := .unknown, value := none,
    out := none, succ := none, poll := none, seq := 0 }

/-- R37: the entries of a commit: one for each element that is not UNUSED. -/
def State.builtMirror (s : State) : List MirrorEntry :=
  (s.elemRows.mapIdx (fun i r => r.kind.map (fun k => MirrorEntry.built i k r.link r.addr))).filterMap id

end Sys2Proof.Machine
end

