-- ==== Sys2Proof/Machine/FieldRequests.lean ====
section
/-! DEFINITION. What is asked of the field links and the mirror from outside: the carrier-detect input, the gap timer,
a telegram sent, LINK_MODE, LINK_QUERY, ELEMENT_QUERY and ELEMENT_POLL (02, 03). -/
namespace Sys2Proof.Machine

/-! ### Carrier (R31, R32) -/

/-- R31: CARRIER_RETURN. -/
def State.carrierReturn (i : Nat) (s : State) : State :=
  match s.links[i]? with
  | none => s
  | some l =>
    if l.carrier then s
    else if l.state = .down then (s.setLink i { l with carrier := true }).linkUp i
    else s.setLink i { l with carrier := true }

/-- LINK_STATE as a notice. -/
def linkReport (i : Nat) (old new : LinkState) : Notice :=
  .report .linkState (some (.link i)) (some old.code) (some new.code)

/-- R32: CARRIER_LOSS. -/
def State.carrierLoss (i : Nat) (s : State) : State :=
  match s.links[i]? with
  | none => s
  | some l =>
    if !l.carrier then s
    else if l.state = .up then
      ((s.setLink i { l with carrier := false }).leaveLink i .down).posts
        [linkReport i .up .down, .raise .linkLoss i]
    else s.setLink i { l with carrier := false }

/-! ### The characters that the rows name by their effect (R20, R21, R22, R24) -/

/-- R24: the character brings about a forwarding. -/
def State.forwards (s : State) (i : Nat) (c : FieldChar) : Bool :=
  match s.charEvent i c with
  | some (.payload bytes damaged) =>
    (s.links[i]?).any (fun l => l.state == .up) && (s.forwardable i bytes damaged).isSome
  | _ => false

/-- R21: the character completes a telegram. -/
def State.completes (s : State) (i : Nat) (c : FieldChar) : Bool :=
  match s.charEvent i c with
  | some (.complete _ _) => true
  | _ => false

/-- R21: the character is a length byte above 24. -/
def State.overlong (s : State) (i : Nat) (c : FieldChar) : Bool := s.charEvent i c == some .badLength

/-- R20: the character decides a lead byte within a telegram. -/
def State.fragments (s : State) (i : Nat) (c : FieldChar) : Bool := s.charEvent i c == some .fragment

/-- R22: FIELD_GAP_TIMEOUT, on a link that takes its characters from the field: a looped transmitter leaves no gap
(R34). -/
def State.gapTimeout (i : Nat) (s : State) : State :=
  match s.links[i]? with
  | none => s
  | some l =>
    match l.asm with
    | .hunting => s
    | .busy _ _ _ last =>
      if l.state = .up then ((s.reach (last + Config.fieldGapMs)).setLink i { l with asm := .hunting }).fragment i
      else s

/-- R29: TELEGRAM_SENT: the transmitter's telegram has left the line. -/
def State.telegramSent (i : Nat) (s : State) : State :=
  match s.links[i]? with
  | none => s
  | some l =>
    match l.sender with
    | none => s
    | some t =>
      (((s.loopRest i).modLink i (fun x => { x with sender := none })).sentNotice t.what (l.state == .loopback)).kick i

/-! ### LINK_MODE (R33, R34) -/

/-- R33: a link enters LOOPBACK. -/
def State.enterLoop (i : Nat) (l : LinkRec) (s : State) : State :=
  match l.state with
  | .up => (s.leaveLink i .loopback).post (linkReport i .up .loopback)
  | .down => (s.setLink i { l with state := .loopback, asm := .hunting }).post (linkReport i .down .loopback)
  | _ => s

/-- R34: NORMAL ends the loop. -/
def State.leaveLoop (i : Nat) (l : LinkRec) (s : State) : State :=
  match l.state with
  | .loopback =>
    if l.carrier then
      (((s.leaveLink i .up).post (linkReport i .loopback .up)).pollSweep i).post (.resolve .linkLoss i)
    else (s.leaveLink i .down).posts [linkReport i .loopback .down, .raise .linkLoss i]
  | _ => s

/-- R33: the checks of LINK_MODE, after its length. -/
def State.linkModeCheck (s : State) (d : List Byte) : Option RefusalCode :=
  if s.lds.service = .unconfigured then some .wrongState
  else if 7 < at8 d 0 ∨ 1 < at8 d 1 then some .badValue
  else if (s.links[at8 d 0]?).any (fun l => l.cfg.isSome) then none
  else some .notFound

/-- R33: LINK_MODE. -/
def reqLinkMode (tag : Byte) (d : List Byte) (s : State) : State :=
  if d.length ≠ 2 then s.refuse tag .badLength
  else
    match s.linkModeCheck d, s.links[at8 d 0]? with
    | some c, _ => s.refuse tag c
    | none, none => s.refuse tag .notFound
    | none, some l =>
      (if at8 d 1 = 1 then s.enterLoop (at8 d 0) l else s.leaveLoop (at8 d 0) l).post (.answer tag (.done []))

/-! ### LINK_QUERY (R35) -/

/-- The error flags as a set byte: CHECK, DAMAGED, FRAGMENT, OVERRUN (log entry 16). -/
def LinkRec.errors (l : LinkRec) : Nat :=
  bitOf l.errCheck 0 + bitOf l.errDamaged 1 + bitOf l.errFragment 2 + bitOf l.errOverrun 3

/-- R28: the queued orders of a class. -/
def LinkRec.queued (l : LinkRec) (c : OrderClass) : Nat := (l.tx.filter (fun e => e.data.cls == c)).length

/-- R35: LINK_QUERY's results; the number of listed polls takes two bytes, every other count and flag one (log entry 16). -/
def LinkRec.bytes (l : LinkRec) : List Byte :=
  u8 l.state.code ++ flag8 l.carrier ++ flag8 l.congested ++ u8 l.rx.length ++
  u8 (l.queued .safety) ++ u8 (l.queued .control) ++ u8 (l.queued .display) ++
  flag8 l.sender.isSome ++ u16 l.polls.length ++ flag8 l.tentative.isSome ++ u8 l.errors

/-- R35: the flags returned are cleared. -/
def LinkRec.cleared (l : LinkRec) : LinkRec :=
  { l with errCheck := false, errDamaged := false, errFragment := false, errOverrun := false }

/-- R35: LINK_QUERY. -/
def reqLinkQuery (tag : Byte) (d : List Byte) (s : State) : State :=
  if d.length ≠ 1 then s.refuse tag .badLength
  else
    match s.links[at8 d 0]? with
    | none => s.refuse tag .badValue
    | some l => (s.setLink (at8 d 0) l.cleared).done tag l.bytes

/-! ### ELEMENT_QUERY and ELEMENT_POLL (R57, R58) -/

/-- Section 11.6, "Authority in replies". -/
def Authority.code : Authority → Nat
  | .unknown => 0 | .remote => 1 | .localCtl => 2

/-- Section 11.6, "Order class". -/
def OrderClass.code : OrderClass → Nat
  | .safety => 0 | .control => 1 | .display => 2

/-- Section 11.6, "Order origin". -/
def Origin.code : Origin → Nat
  | .regulator => 1 | .supervisor => 2 | .publisher => 3

/-- Section 11.6, "Order stage". -/
def Stage.code : Stage → Nat
  | .queued => 0 | .sent _ => 1 | .pushWait _ => 2 | .executing _ => 3

/-- Section 11.6, "Order phase". -/
def Stage.phase : Stage → Nat
  | .executing _ => 1
  | _ => 0

def Indication.code : Indication → Nat
  | .blank => 0 | .countdown => 1 | .go => 2 | .stop => 3

/-- A value in a reply, by its kind. -/
def Value.bytes : Value → List Byte
  | .breaker v => u8 v.code
  | .platform o i => optId o ++ opt8 (i.map Indication.code)
  | .display c => u16 c.text ++ u16 c.p1 ++ u16 c.p2
  | .meter load volts => u16 load ++ volts.flatMap opt16

/-- How many bytes the value of a kind takes in a reply. -/
def ElemKind.valueLength : ElemKind → Nat
  | .breaker => 1 | .platform => 3 | .display => 6 | .meter => 10

/-- R57: a value that may be absent, with its presence; absent, its bytes are 0. -/
def valueBytes (k : ElemKind) : Option Value → List Byte
  | none => u8 0 ++ List.replicate k.valueLength 0#8
  | some v => u8 1 ++ v.bytes

/-- R57: the outstanding order, or eight bytes of 0. R186's table gives no width for its sequence and its defer count: the
model sends each in one byte (log entry 16). -/
def orderBytes : Option Order → List Byte
  | none => List.replicate 8 0#8
  | some o =>
    u8 1 ++ u8 o.data.code ++ u8 o.data.cls.code ++ u8 o.data.origin.code ++ u8 o.seq ++ u8 o.stage.phase ++
    u8 o.stage.code ++ u8 o.defers

/-- R57: the waiting successor, or three bytes of 0. -/
def successorBytes : Option Waiting → List Byte
  | none => List.replicate 3 0#8
  | some w => u8 1 ++ u8 w.data.code ++ u8 w.data.origin.code

/-- R57: whether an element is in its link's poll list. -/
def State.listed (s : State) (e : MirrorEntry) : Bool := (s.links[e.link]?).any (fun l => l.polls.contains e.el)

/-- R57: ELEMENT_QUERY's results. R186's table gives no width for an element's address, a poll's sequence and the sequence
counter: the model sends each in one byte (log entry 16). -/
def State.entryBytes (s : State) (e : MirrorEntry) : List Byte :=
  u8 e.el ++ u8 e.kind.code ++ u8 e.link ++ u8 e.addr ++ u8 e.state.code ++ u8 e.authority.code ++
  valueBytes e.kind e.value ++ flag8 (e.state == .unknown) ++ orderBytes e.out ++ successorBytes e.succ ++
  flag8 e.poll.isSome ++ opt8 (e.poll.map (·.seq)) ++ flag8 (s.listed e) ++ u8 e.seq

/-- R57: ELEMENT_QUERY. -/
def reqElementQuery (tag : Byte) (d : List Byte) (s : State) : State :=
  if d.length ≠ 1 then s.refuse tag .badLength
  else
    match s.entry? (at8 d 0) with
    | none => s.refuse tag .notFound
    | some e => s.done tag (s.entryBytes e)

/-- R58: the result of an ELEMENT_POLL: LISTED, ALREADY_LISTED or LINK_NOT_UP. -/
def State.pollResult (s : State) (e : MirrorEntry) : Nat :=
  if (s.links[e.link]?).any (fun l => l.state == .up || l.state == .loopback) then (if s.listed e then 1 else 0)
  else 2

/-- R58: ELEMENT_POLL. -/
def reqElementPoll (tag : Byte) (d : List Byte) (s : State) : State :=
  if d.length ≠ 1 then s.refuse tag .badLength
  else
    match s.entry? (at8 d 0) with
    | none => s.refuse tag .notFound
    | some e => (s.poll e.link e.el).done tag (u8 (s.pollResult e))

end Sys2Proof.Machine
end

