-- ==== Sys2Proof/Machine/Power.lean ====
section
/-! DEFINITION. The traction supervisor (07): pairs and feeding sets, section states and the effects of their changes,
energizing, isolation and trips, undervoltage, loads and measurements, departure permits, stranded trains. -/
namespace Sys2Proof.Machine

/-! ### Pairs and feeding sets (R111) -/

/-- R111: the mode of a section's pair. -/
def State.modeOf (s : State) (i : Nat) : PairMode := ((s.tsv.pairs[i / 2]?).map (·.mode)).getD .independent

/-- The even section of a section's pair. -/
def evenOf (i : Nat) : Nat := 2 * (i / 2)

/-- The sections that act as one with a section: itself, or both of a TIED or CROSS_FED pair, the even one first. -/
def State.group (s : State) (i : Nat) : List Nat :=
  match s.modeOf i with
  | .independent => [i]
  | _ => [evenOf i, evenOf i + 1]

/-- R110: the section whose record holds the sequence of a section. -/
def State.baseOf (s : State) (i : Nat) : Nat :=
  match s.modeOf i with
  | .independent => i
  | _ => evenOf i

/-- R112: the tie that counts among a section's breakers: that of a TIED or CROSS_FED pair, where present. -/
def State.tieOf (s : State) (i : Nat) : Option Nat :=
  match s.modeOf i with
  | .independent => none
  | _ => (s.tsv.pairs[i / 2]?).bind (·.tie)

def State.feedersOf (s : State) (i : Nat) : List Nat := ((s.sect? i).map (·.feeders)).getD []

/-- The feeders of a section's group, the even section's first. -/
def State.groupFeeders (s : State) (i : Nat) : List Nat := (s.group i).flatMap s.feedersOf

/-- R112, R113: the breakers of a section's group: its feeders and its tie. -/
def State.groupBreakers (s : State) (i : Nat) : List Nat := s.groupFeeders i ++ (s.tieOf i).toList

/-- R113, R117: the feeders the mode uses for a section. -/
def State.usedFeeders (s : State) (i : Nat) : List Nat :=
  match s.modeOf i with
  | .independent => s.feedersOf i
  | .tied => s.groupFeeders i
  | .crossFed => s.feedersOf (evenOf i)

/-- R111: the feeding set F(i), ascending. -/
def State.feedSet (s : State) (i : Nat) : List Nat :=
  numbersBelow s.tsv.subs.length
    (fun f => (s.tsv.subs[f]?).any (fun r => r.feeders.any (fun b => (s.usedFeeders i).contains b)))

/-! ### Breakers (R112, R120) -/

/-- R112: the value of a known breaker. -/
def State.breaker? (s : State) (el : Nat) : Option BreakerValue :=
  match s.entry? el with
  | some e =>
    if e.state = .unknown then none
    else match e.value with
      | some (.breaker v) => some v
      | _ => none
  | none => none

/-- A breaker's value while its entry is HELD or REPORTED. -/
def State.settledBreaker (s : State) (el : Nat) : Option BreakerValue :=
  match s.entry? el with
  | some e => if e.state = .held ∨ e.state = .reported then s.breaker? el else none
  | none => none

/-- R120: a breaker reads OPEN. -/
def State.readsOpen (s : State) (el : Nat) : Bool := s.settledBreaker el == some .opened

/-- R120: a breaker counts as open: HELD or REPORTED at OPEN or TRIPPED. R122 has a TRIP found in ISOLATING count the
breaker as open and says nothing of one whose OPEN is still outstanding: the model lets such an ORDERED breaker count only
once it is HELD or REPORTED (log entry 30). -/
def State.countsOpen (s : State) (el : Nat) : Bool :=
  s.settledBreaker el == some .opened || s.settledBreaker el == some .tripped

/-! ### Section states (R114) -/

/-- The old states of the sections of a group. -/
def State.statesOf (s : State) (g : List Nat) : List (Nat × SectState) := g.map (fun i => (i, s.sectState i))

/-- R114: a record in its new state; one that leaves or enters LIVE has LOW clear and its timer stopped. -/
def SectRec.moved (new : SectState) (r : SectRec) : SectRec :=
  { r with state := new, low := r.low && r.state == .live && new == .live,
           timer := if r.state = .live ∧ new = .live then r.timer else .stopped }

/-- R114: the group's records take a new state. -/
def State.setStates (g : List Nat) (new : SectState) (s : State) : State :=
  g.foldl (fun s i => s.modSect i (SectRec.moved new)) s

/-- R114, effect 3: what leaving LIVE brings about for one section. A LOW flag that clears so re-examines the wait list
(R129). -/
def State.leavingNotices (s : State) (i : Nat) (new : SectState) : List Notice :=
  match s.sect? i with
  | some r =>
    if r.state = .live ∧ new ≠ .live then
      (if r.low then [.resolve .powerLoss i] else []) ++ [.leftLive i] ++ (if r.low then [.reexamine] else [])
    else []
  | none => []

/-- R114: the effects of a change of the group from the states of `s` to `new`. -/
def State.changeNotices (s : State) (g : List Nat) (new : SectState) : List Notice :=
  g.map (fun i => .report .sectionState (some (.sect i)) (some (s.sectState i).code) (some new.code)) ++
  g.map (fun i => .sectChanged i new (new == .live && s.sectState i == .live && ((s.sect? i).any (·.low)))) ++
  g.flatMap (fun i => s.leavingNotices i new) ++
  (if new = .live then g.map .becameLive else [])

/-- R114: a change of the group's state with its effects. -/
def State.changeTo (g : List Nat) (new : SectState) (s : State) : State :=
  (s.setStates g new).posts (s.changeNotices g new)

def State.setSeq (base : Nat) (q : Option Sequence) (s : State) : State := s.modSect base (fun r => { r with seq := q })

def State.seqOf (s : State) (base : Nat) : Option Sequence := (s.sect? base).bind (·.seq)

/-! ### The wait list (R128 to R130) -/

/-- R130: the requests for a section leave the wait list. -/
def State.dropRequests (i : Nat) (s : State) : State := s.setWaitList (s.tsv.waitList.filter (fun r => r.sect != i))

/-- R130: what the removal of a section's requests tells, and the re-examination that follows. -/
def State.removalNotices (s : State) (i : Nat) (st : SectState) (low : Bool) : List Notice :=
  let gone := s.tsv.waitList.filter (fun r => r.sect == i)
  gone.map (fun r => .requestRemoved r.train i st low) ++ (if gone.isEmpty then [] else [.reexamine])

/-- R131: whether the train register records the train of a slot RUNNING in a section without a tentative flag. -/
def State.runsIn (s : State) (note : LoadNote) (slot i : Nat) : Bool :=
  (s.train? slot).any (fun t => t.pos == .running && t.saved.isNone) && note.sect == some i

/-- R131: the slots that a section leaving LIVE strands. -/
def State.strandedBy (s : State) (i : Nat) : List (Nat × Nat) :=
  (List.range s.tsv.loads.length).filterMap (fun slot =>
    match (s.tsv.loads[slot]?).join with
    | some n =>
      if s.runsIn n slot i && !((s.sect? i).any (fun r => r.stranded.contains slot)) then some (slot, n.train) else none
    | none => none)

/-- R114, effect 3: a section has left LIVE: its requests are removed and the trains running in it are stranded. -/
def leftLive (i : Nat) (s : State) : State :=
  let new := s.strandedBy i
  ((s.dropRequests i).modSect i (fun r => { r with stranded := r.stranded ++ new.map (·.1) })).posts
    (s.removalNotices i (s.sectState i) false ++ new.map (fun x => .raise .stranded x.2))

/-- R131: the identities of the trains of the listed slots, in ascending slot order. -/
def State.listedTrains (s : State) (slots : List Nat) : List Nat :=
  (List.range s.tsv.loads.length).filterMap (fun slot =>
    if slots.contains slot then ((s.tsv.loads[slot]?).join).map (·.train) else none)

/-- R114, effect 4: a section has become LIVE. -/
def becameLive (i : Nat) (s : State) : State :=
  (s.modSect i (fun r => { r with stranded := [] })).posts
    ([.resolve .powerTrip i] ++
     (s.listedTrains (((s.sect? i).map (·.stranded)).getD [])).map (fun t => .resolve .stranded t) ++ [.reexamine])

/-! ### Load and estimates (R126) -/

/-- R126: the load of a train. -/
def LoadNote.load (prm : Params) (n : LoadNote) : Nat :=
  match n.phase with
  | .aux => prm.auxLoad
  | .starting => prm.startLoad
  | .run => (prm.runLoad[n.level]?).getD 0

/-- R126: the share of a load `x` over `n` substations that falls to the one at a place of the feeding set. -/
def shareAt (x n place : Nat) : Nat := x / n + (if place < x % n then 1 else 0)

/-- R126: the share of substation `f` in a load `x` counted in a section. -/
def State.shareOf (s : State) (i x f : Nat) : Nat :=
  match (s.feedSet i).findIdx? (fun g => g == f) with
  | some place => shareAt x (s.feedSet i).length place
  | none => 0

/-- R126: the share of substation `f` in a load notice. -/
def State.noteShare (s : State) (f : Nat) : Option LoadNote → Nat
  | some n =>
    match n.sect with
    | some c => s.shareOf c (n.load s.params) f
    | none => 0
  | none => 0

/-- R126: the estimate of a substation. -/
def State.estimateOf (s : State) (f : Nat) : Nat := (s.tsv.loads.map (s.noteShare f)).sum

/-- R126: every estimate is recomputed. -/
def State.recount (s : State) : State :=
  s.setSubs (s.tsv.subs.mapIdx (fun f r => { r with estimate := s.estimateOf f }))

/-- R126: some estimate has decreased between two states. -/
def anyDecrease (old new : List SubRec) : Bool :=
  (List.zip old new).any (fun x => decide (x.2.estimate < x.1.estimate))

/-- R126: the estimates are recomputed and a decrease re-examines the wait list. -/
def State.recountAndExamine (s : State) : State :=
  if anyDecrease s.tsv.subs s.recount.tsv.subs then s.recount.post .reexamine else s.recount

def State.setLoad (slot : Nat) (n : Option LoadNote) (s : State) : State := s.setLoads (s.tsv.loads.set slot n)

/-- R131: the sections, other than `keep`, whose stranded list holds a slot. -/
def State.strandedIn (s : State) (slot : Nat) (keep : Option Nat) : List Nat :=
  numbersBelow s.tsv.sects.length
    (fun i => some i != keep && (s.sect? i).any (fun r => r.stranded.contains slot))

/-- R131: a slot leaves the stranded lists of every section but `keep`. -/
def State.unstrand (slot : Nat) (keep : Option Nat) (s : State) : State :=
  (s.strandedIn slot keep).foldl
    (fun s i => s.modSect i (fun r => { r with stranded := r.stranded.filter (fun x => x != slot) })) s

/-- R131: the section a load notice strands its train in: its counting section, when that is not LIVE. -/
def State.newlyStranded (s : State) (slot : Nat) (n : LoadNote) : Option Nat :=
  match n.sect with
  | some i =>
    match s.sect? i with
    | some r => if n.running && r.state != .live && !r.stranded.contains slot then some i else none
    | none => none
  | none => none

/-- R131: a slot joins the stranded list of a section. -/
def State.strand (slot : Nat) (i : Option Nat) (s : State) : State :=
  match i with
  | some i => s.modSect i (fun r => { r with stranded := r.stranded ++ [slot] })
  | none => s

/-- R131, R151: what a load notice makes of its train's STRANDED: a train that joins a list is raised, and one that has
come from another list is not resolved first, so that its raise merges with the standing incident; a train that only leaves
a list is resolved. -/
def strandedNotice (train : Nat) (joins : Option Nat) (left : List Nat) : List Notice :=
  if joins.isSome then [.raise .stranded train]
  else if left.isEmpty then [] else [.resolve .stranded train]

/-- R85, R126, R131: a load notice: the estimates, the stranded lists it leaves and the one it joins. -/
def load (slot : Nat) (n : LoadNote) (s : State) : State :=
  ((((s.setLoad slot (some n)).unstrand slot n.sect).strand slot (s.newlyStranded slot n)).posts
    (strandedNotice n.train (s.newlyStranded slot n) (s.strandedIn slot n.sect))).recountAndExamine

/-- R88, R126, R131: the load notice of a slot that has left service. -/
def unload (slot train : Nat) (s : State) : State :=
  (((s.setLoad slot none).unstrand slot none).posts
    (strandedNotice train none (s.strandedIn slot none))).recountAndExamine

/-! ### Permits (R127 to R130) -/

/-- R127: the effective load of a substation. -/
def SubRec.effective (r : SubRec) : Nat :=
  match r.fresh, r.meas with
  | true, some (l, _) => max r.estimate l
  | _, _ => r.estimate

/-- R129: the section is LIVE with LOW clear. -/
def State.powered (s : State) (i : Nat) : Bool := (s.sect? i).any (fun r => r.state == .live && !r.low)

/-- R129: a start on a section fits. -/
def State.fits (s : State) (i : Nat) : Bool :=
  s.powered i && (s.feedSet i).all (fun f =>
    (s.tsv.subs[f]?).any (fun r => decide (r.effective + s.shareOf i s.params.startLoad f ≤ r.capacity)))

/-- R129: two sections share a substation. -/
def State.sharesSub (s : State) (i j : Nat) : Bool := (s.feedSet i).any (fun f => (s.feedSet j).contains f)

/-- The requests older than a train's in the wait list. -/
def olderThan (train : Nat) (l : List PermitRequest) : List PermitRequest := l.takeWhile (fun r => r.train != train)

/-- R129: a waiting train's request fits and shares no substation with an older one still waiting. -/
def State.grantable (s : State) (train : Nat) : Bool :=
  match s.tsv.waitList.find? (fun r => r.train == train) with
  | some r => s.fits r.sect && (olderThan train s.tsv.waitList).all (fun o => !s.sharesSub r.sect o.sect)
  | none => false

/-- R129, step 2: the granted train is counted at the start load in its present counting section. -/
def State.countStart (train : Nat) (s : State) : State :=
  s.setLoads (s.tsv.loads.map (fun n => n.map (fun n => if n.train = train then { n with phase := .starting } else n)))

/-- R129: the request leaves the list and a permit record is made; the train is counted at the start load. -/
def State.grant (r : PermitRequest) (s : State) : State :=
  (((s.setWaitList (s.tsv.waitList.filter (fun x => x.train != r.train))).setPermits
    (s.tsv.permits ++ [{ train := r.train, sect := r.sect, granted := s.clock.time }])).countStart r.train).recount

/-- R129: the walk goes on from the first of the given trains that can be granted. -/
def walk (trains : List Nat) (s : State) : State :=
  match trains.dropWhile (fun t => !s.grantable t) with
  | [] => s
  | t :: rest =>
    match s.tsv.waitList.find? (fun r => r.train == t) with
    | some r => (s.grant r).posts [.granted t s.clock.time, .walk rest]
    | none => s

/-- R129: a re-examination walks the list as it stands, oldest first. -/
def reexamine (s : State) : State := s.post (.walk (s.tsv.waitList.map (·.train)))

/-- R128: whether a train has a request waiting or a permit. -/
def State.hasPermit (s : State) (train : Nat) : Bool :=
  s.tsv.waitList.any (fun r => r.train == train) || s.tsv.permits.any (fun p => p.train == train)

/-- R128: a request from the regulator joins at the tail, or is removed at once when its section bears no start. -/
def permitRequest (train i : Nat) (s : State) : State :=
  if s.hasPermit train then s
  else if s.powered i then
    (s.setWaitList (s.tsv.waitList ++ [{ train := train, sect := i, joined := s.tick, reported := false }])).post
      .reexamine
  else s.posts [.requestRemoved train i (s.sectState i) ((s.sect? i).any (·.low)), .reexamine]

/-- R128: a withdrawal. -/
def permitWithdraw (train : Nat) (s : State) : State :=
  if s.tsv.waitList.any (fun r => r.train == train) then
    (s.setWaitList (s.tsv.waitList.filter (fun r => r.train != train))).post .reexamine
  else s

/-- R130: a permit record ends. -/
def permitEnded (train : Nat) (s : State) : State :=
  s.setPermits (s.tsv.permits.filter (fun p => p.train != train))

/-- R130: PERMIT_WAIT_LONG: the request has waited longer than the report time. -/
def State.permitWaitLong (train : Nat) (s : State) : State :=
  match s.tsv.waitList.find? (fun r => r.train == train) with
  | none => s
  | some r =>
    if r.reported then s
    else
      let s1 := s.reach (r.joined + s.params.permitWait * 1000 + 1)
      (s1.setWaitList (s1.tsv.waitList.map (fun x => if x.train = train then { x with reported := true } else x))).report
        .permitWaitLong (some (.train train)) (some r.sect) (some ((s1.tick - r.joined) / 1000))

/-! ### Isolation (R118 to R122) -/

/-- R120: OPEN is issued, unless the breaker's outstanding order is the supervisor's OPEN already. -/
def openBreaker (el : Nat) (s : State) : State :=
  if (s.entry? el).any (fun e => e.out.any (fun o => o.data == .openBreaker)) then s
  else s.issueOrder el .openBreaker

/-- R120: the group becomes ISOLATING, awaiting the breakers ordered OPEN; `after` follows the effects of R114. -/
def State.isolate (i : Nat) (kind : IsoKind) (ordered : List Nat) (mustRead : Bool) (after : List Notice)
    (s : State) : State :=
  ((s.setStates (s.group i) .isolating).setSeq (s.baseOf i) (some (.isolate kind ordered mustRead))).posts
    (ordered.map .openBreaker ++ s.changeNotices (s.group i) .isolating ++ after ++ [.isolationCheck (s.baseOf i)])

/-- R120: an isolation of kind HOST, on a LIVE or a TRIPPED section. -/
def State.isolateHost (i : Nat) (s : State) : State :=
  if s.sectState i = .tripped then
    s.isolate i .host ((s.groupBreakers i).filter (fun b => !s.readsOpen b)) true []
  else s.isolate i .host ((s.groupBreakers i).filter (fun b => !s.countsOpen b)) false []

/-- R120: every awaited breaker counts as open; after an isolation begun on a TRIPPED section every breaker reads OPEN. The
mirror is read at each check, so a breaker that counted as open and then went UNKNOWN or ORDERED counts no longer (log
entry 30). -/
def State.isolationDone (s : State) (base : Nat) (awaited : List Nat) (mustRead : Bool) : Bool :=
  if mustRead then (s.groupBreakers base ++ awaited).all s.readsOpen else awaited.all s.countsOpen

/-- R120: an isolation whose breakers are all open ends and the sections become DEAD. -/
def isolationCheck (base : Nat) (s : State) : State :=
  match s.seqOf base with
  | some (.isolate _ awaited mustRead) =>
    if s.isolationDone base awaited mustRead then (s.setSeq base none).changeTo (s.group base) .dead else s
  | _ => s

/-- R119, section 11.6: the causes of an abort. -/
inductive AbortCause where
  | orderFailed (el : Nat)
  | diverged (el : Nat)
  | breakerLost (el : Nat)
  | trip (el : Nat)
  | demand
  | hostIsolate
  deriving DecidableEq, Repr

def AbortCause.code : AbortCause → Nat
  | .orderFailed _ => 1 | .diverged _ => 2 | .breakerLost _ => 3 | .trip _ => 4 | .demand => 5 | .hostIsolate => 6

def AbortCause.element : AbortCause → Option Nat
  | .orderFailed e => some e
  | .diverged e => some e
  | .breakerLost e => some e
  | .trip e => some e
  | .demand => none
  | .hostIsolate => none

/-- R119: an energize is aborted: OPEN goes to each breaker it has ordered closed. -/
def State.abort (base : Nat) (c : AbortCause) (s : State) : State :=
  match s.seqOf base with
  | some (.energize named _ ordered _ _) =>
    s.isolate base .abort ordered false
      [.report .energizeAborted (some (.sect named)) (some c.code) c.element]
  | _ => s

/-- R118: a charge failure: the precharge feeder and a tie the sequence closed are opened, and the section is locked. -/
def State.chargeFailure (base named : Nat) (ordered : List Nat) (s : State) : State :=
  (s.isolate base .chargeFail ordered.reverse false [.raise .chargeFail named]).modSect named
    (fun r => { r with lockout := true })

/-- R122: a breaker's recorded value is TRIPPED, whatever its mirror state. -/
def State.recordsTripped (s : State) (el : Nat) : Bool :=
  (s.entry? el).any (fun e => e.value == some (.breaker .tripped))

/-- R122: a trip of a LIVE section: its effects, OPEN to every other breaker that is not open, and POWER_TRIP. -/
def State.trip (i : Nat) (s : State) : State :=
  (s.changeTo (s.group i) .tripped).posts
    (((s.groupBreakers i).filter (fun b => !s.countsOpen b && !s.recordsTripped b)).map .openBreaker ++
     (s.group i).map (fun j => .raise .powerTrip j))

/-! ### Derivation (R112, R113) -/

/-- What a derivation gives: a state, or the isolation of the last row. -/
inductive Derived where
  | state (st : SectState)
  | isolating
  deriving DecidableEq, Repr

/-- R112: the state of a section of an INDEPENDENT pair, from its feeders' values. -/
def deriveAlone (vs : List BreakerValue) : Derived :=
  if vs.contains .tripped then .state .tripped
  else if vs.all (fun v => v == .opened) then .state .dead
  else if vs.contains .closed then .state .live
  else .isolating

/-- R113: the state of a TIED or CROSS_FED pair, from the values of the even and the odd section's feeders and of the
tie, an absent tie counted as CLOSED. -/
def derivePair (mode : PairMode) (even odd : List BreakerValue) (tie : BreakerValue) : Derived :=
  let used := if mode = .tied then even ++ odd else even
  if (even ++ odd).contains .tripped || tie == .tripped then .state .tripped
  else if (even ++ odd).all (fun v => v == .opened) then .state .dead
  else if tie == .closed && used.contains .closed && !(even ++ odd).contains .precharged &&
      (mode != .crossFed || odd.all (fun v => v == .opened)) then .state .live
  else .isolating

/-- The values of breakers, if every one is known. -/
def State.values (s : State) (els : List Nat) : Option (List BreakerValue) := els.mapM s.breaker?

/-- R113: the value of a tie, CLOSED when absent; none when it is not known. -/
def State.tieValue (s : State) (tie : Option Nat) : Option BreakerValue :=
  match tie with
  | none => some .closed
  | some t => s.breaker? t

/-- R112, R113: what a section's breakers derive, if all of them are known. -/
def State.derived (s : State) (i : Nat) : Option Derived :=
  match s.modeOf i with
  | .independent => (s.values (s.feedersOf i)).map deriveAlone
  | mode =>
    (s.values (s.feedersOf (evenOf i))).bind fun even =>
      (s.values (s.feedersOf (evenOf i + 1))).bind fun odd =>
        (s.tieValue (s.tieOf i)).map fun tie => derivePair mode even odd tie

/-- R112: a section whose state is derived: UNKNOWN, DEAD, LIVE or TRIPPED with no sequence. -/
def State.derives (s : State) (i : Nat) : Bool :=
  (s.seqOf (s.baseOf i)).isNone && (s.sect? i).any (fun r => r.state != .precharge && r.state != .isolating)

/-- R112, R113, R121: a derived state takes effect. -/
def State.takeDerived (i : Nat) (d : Derived) (s : State) : State :=
  match d with
  | .isolating => s.isolate i .derived ((s.groupBreakers i).filter (fun b => s.breaker? b != some .opened)) false []
  | .state st =>
    if s.sectState i = st then s
    else if s.sectState i = .live ∧ st = .tripped then s.trip i
    else (s.changeTo (s.group i) st).posts ((s.group i).map .demandAct)

/-- R112, R113: a section's state is derived from its breakers as they stand. -/
def derive (i : Nat) (s : State) : State :=
  if s.derives i then
    match s.derived i with
    | some d => s.takeDerived i d
    | none => s
  else s

/-! ### Demands (R121) -/

/-- R121: the action of a demand by the section's state. -/
def demandAct (i : Nat) (s : State) : State :=
  match s.sect? i with
  | none => s
  | some r =>
    if !r.demand then s
    else match r.state with
      | .precharge => s.abort (s.baseOf i) .demand
      | .live => s.isolateHost i
      | .tripped => s.isolateHost i
      | _ => s

/-- R121: the whole set of demanded sections; newly set flags act in ascending order. -/
def demands (set : List Nat) (s : State) : State :=
  (s.setSects (s.tsv.sects.mapIdx (fun i r => { r with demand := set.contains i }))).posts
    ((numbersBelow s.tsv.sects.length (fun i => set.contains i && !((s.sect? i).any (·.demand)))).map .demandAct)

/-! ### The energize sequence (R116, R117) -/

/-- R115: the breakers an energize of a section orders. -/
def State.toClose (s : State) (i : Nat) : List Nat := (s.tieOf i).toList ++ s.usedFeeders i

/-- R116, step 2: CLOSE_PRECHARGE goes to the named section's first feeder. -/
def State.prechargeFirst (base named : Nat) (ordered : List Nat) (s : State) : State :=
  match s.feedersOf named with
  | [] => s
  | f :: _ =>
    (s.setSeq base (some (.energize named .prechargeClose (ordered ++ [f]) none none))).issueOrder f .closePrecharge

/-- R116: the first step of an energize: the tie, or the precharge close where there is none. -/
def State.firstStep (base named : Nat) (s : State) : State :=
  match s.tieOf named with
  | some t => (s.setSeq base (some (.energize named .tie [t] none none))).issueOrder t .closeFeed
  | none => s.prechargeFirst base named []

/-- R117: the next feeder is ordered closed. -/
def nextClose (base : Nat) (s : State) : State :=
  match s.seqOf base with
  | some (.energize named (.feedClose (f :: todo) awaited) ordered m v) =>
    ((s.setSeq base (some (.energize named (.feedClose todo (awaited ++ [f]))
        (if ordered.contains f then ordered else ordered ++ [f]) m v))).issueOrder f .closeFeed).post (.nextClose base)
  | _ => s

/-- R117: the charge is judged. -/
def State.chargeReached (s : State) (named : Nat) (voltage : Option Nat) : Bool :=
  match s.sectRows[named]? with
  | some r => !r.chargeCheck || voltage.any (fun v => decide (s.voltThreshold ≤ v))
  | none => false

/-- R117: PRECHARGE_TIMER_EXPIRY. -/
def State.prechargeExpiry (i : Nat) (s : State) : State :=
  let base := s.baseOf i
  match s.seqOf base with
  | some (.energize named (.precharge d) ordered m v) =>
    let s1 := s.reach d
    if s1.chargeReached named v then
      (s1.setSeq base (some (.energize named (.feedClose (s1.usedFeeders named) []) ordered m v))).post (.nextClose base)
    else s1.chargeFailure base named ordered
  | _ => s

/-- The section whose energize or isolation has a breaker among its group's, by the base of the group. -/
def State.baseWith (s : State) (el : Nat) : Option Nat :=
  (List.range s.tsv.sects.length).find? (fun i => s.baseOf i == i && (s.groupBreakers i).contains el)

/-- R116, R117: a close of the sequence reached its target. -/
def State.closeReached (base el named : Nat) (step : EnergizeStep) (ordered : List Nat) (m v : Option Nat)
    (s : State) : State :=
  match step with
  | .tie => s.prechargeFirst base named ordered
  | .prechargeClose =>
    s.setSeq base (some (.energize named
      (.precharge (s.inSeconds (((s.sectRows[named]?).map (·.precharge)).getD 0))) ordered (some s.tick) none))
  | .precharge _ => s
  | .feedClose todo awaited =>
    let left := awaited.filter (fun x => x != el)
    if todo.isEmpty && left.isEmpty then (s.setSeq base none).changeTo (s.group base) .live
    else s.setSeq base (some (.energize named (.feedClose todo left) ordered m v))

/-- R119: the cause of the abort that an order's result brings about. -/
def abortCauseOf (el : Nat) (r : Result) : AbortCause :=
  match r with
  | .diverged _ => .diverged el
  | _ => .orderFailed el

/-- R119: the breakers an aborted energize has ordered closed: not the one whose close failed at issue, unless that is
the feeder its CLOSE_PRECHARGE has closed before. -/
def State.closedBy (s : State) (named : Nat) (o : OutcomeMsg) (ordered : List Nat) : List Nat :=
  if o.atIssue && !(o.data == .closeFeed && (s.feedersOf named).head? == some o.el) then
    ordered.filter (fun x => x != o.el)
  else ordered

/-- R116, R117, R119: the outcome of a close order. -/
def State.closeOutcome (o : OutcomeMsg) (s : State) : State :=
  match s.baseWith o.el with
  | none => s
  | some base =>
    match s.seqOf base with
    | some (.energize named step ordered m v) =>
      if !ordered.contains o.el then s
      else if o.result.reached then s.closeReached base o.el named step ordered m v
      else
        (s.setSeq base (some (.energize named step (s.closedBy named o ordered) m v))).abort base
          (abortCauseOf o.el o.result)
    | _ => s

/-- R120: an OPEN that failed, or diverged to another value than TRIPPED, raises ORDER_FAILURE. -/
def openFailed (r : Result) : Bool :=
  match r with
  | .diverged v => v != .breaker .tripped
  | r => r.failed

/-- The outcome of a breaker order (R116, R117, R119, R120). -/
def State.breakerOutcome (o : OutcomeMsg) (s : State) : State :=
  match o.data with
  | .openBreaker => if openFailed o.result then s.post (.raise .orderFailure o.el) else s
  | _ => s.closeOutcome o

/-! ### Value notices (R112, R119, R122, R124, R127) -/

/-- R119: what a notice of one of a sequence's breakers aborts it with. A tripped breaker of the group aborts it even
where the mode does not use it (R122). A notice that shows TRIPPED and UNKNOWN or LOCAL together is a trip (log
entry 29). -/
def State.noticeAbort (s : State) (named : Nat) (v : ValueNotice) : Option AbortCause :=
  if v.cause = .order then none
  else if v.value = some (.breaker .tripped) then some (.trip v.el)
  else if (s.toClose named).contains v.el && (v.state == .unknown || v.authority == .localCtl) then
    some (.breakerLost v.el)
  else none

/-- R112, R113, R116, R120, R122: a breaker's value notice. -/
def State.breakerNotice (v : ValueNotice) (s : State) : State :=
  match s.baseWith v.el with
  | none => s
  | some base =>
    match s.seqOf base with
    | some (.energize named _ _ _ _) =>
      match s.noticeAbort named v with
      | some c => s.abort base c
      | none => s
    | some (.isolate _ _ _) => s.post (.isolationCheck base)
    | none =>
      if s.sectState base = .live ∧ v.value = some (.breaker .tripped) then s.trip base else s.post (.derive base)

/-- R127: the overload judgement of a measured load. -/
def State.judgeOverload (f load : Nat) (s : State) : State :=
  match s.tsv.subs[f]? with
  | none => s
  | some r =>
    if r.capacity < load ∧ r.overload = false then
      (s.setSubs (s.tsv.subs.set f { r with overload := true })).post (.raise .overload f)
    else if load * 10 ≤ r.capacity * 9 ∧ r.overload = true then
      (s.setSubs (s.tsv.subs.set f { r with overload := false })).post (.resolve .overload f)
    else s

/-- R127: one substation is measured. -/
def State.measure (f load moment : Nat) (s : State) : State :=
  ((s.setSubs (s.tsv.subs.modify f
    (fun r => { r with meas := some (load, moment), fresh := true, staleReported := false }))).judgeOverload f load).post
    .reexamine

/-- R127: METER_STALE. -/
def State.meterStale (f : Nat) (s : State) : State :=
  match s.tsv.subs[f]? with
  | none => s
  | some r =>
    match r.fresh, r.meas with
    | true, some (_, m) =>
      let s1 := (s.reach (m + Config.meterFreshMs)).report .meterStale (some (.substation f)) none none
      ((s1.setSubs (s1.tsv.subs.set f { r with fresh := false, staleReported := true })).judgeOverload f 0).post
        .reexamine
    | _, _ => s

/-- R124: the voltage timer after a report of a LIVE, watched section. -/
def timerAfter (low : Bool) (timer : VoltageTimer) (below : Bool) (now : Nat) : VoltageTimer :=
  match low, timer, below with
  | false, .stopped, true => .debounce (now + Config.voltageTimerMs)
  | false, .debounce _, false => .stopped
  | true, .stopped, false => .recovery (now + Config.voltageTimerMs)
  | true, .recovery _, true => .stopped
  | _, t, _ => t

/-- R117: the latest voltage of the named section's source, taken after the precharge moment. -/
def Sequence.taken (i v : Nat) : Sequence → Sequence
  | .energize named step ordered (some m) w =>
    .energize named step ordered (some m) (if named = i then some v else w)
  | q => q

/-- R110, R117, R124: one section's source reports its voltage. -/
def State.voltage (i v moment : Nat) (s : State) : State :=
  let watched := (s.sectRows[i]?).any (·.underCheck)
  (s.modSect i (fun r =>
    { r with lastVolt := some (v, moment),
             timer := if watched && r.state == .live then timerAfter r.low r.timer (decide (v < s.voltThreshold)) s.tick
                      else r.timer })).modSect (s.baseOf i)
    (fun r => { r with seq := r.seq.map (Sequence.taken i v) })

/-- The voltage a notice carries for a section, if its source is the meter. -/
def State.carriedFor (s : State) (v : ValueNotice) (i : Nat) : Option Nat :=
  match (s.sectRows[i]?).bind (·.source) with
  | some (m, ch) => if m = v.el then (v.carried[ch]?).join else none
  | none => none

/-- R127: a notice whose cause makes it a measurement. -/
def Cause.measures : Cause → Bool
  | .state => true
  | .event _ => true
  | _ => false

/-- R117, R124, R127: a meter's value notice. -/
def State.meterNotice (v : ValueNotice) (s : State) : State :=
  let s1 := (List.range s.tsv.sects.length).foldl
    (fun s i => match s.carriedFor v i with
      | some x => s.voltage i x v.moment
      | none => s) s
  match v.value with
  | some (.meter load _) =>
    if v.cause.measures then
      (List.range s1.tsv.subs.length).foldl
        (fun s f => if (s.tsv.subs[f]?).any (fun r => r.meter == v.el) then s.measure f load v.moment else s) s1
    else s1
  | _ => s1

/-- R124: LOW is set: the regulator is told, POWER_LOSS is raised and the section's requests are removed. -/
def State.setLow (i : Nat) (s : State) : State :=
  ((s.dropRequests i).modSect i (fun r => { r with low := true, timer := .stopped })).posts
    ([.sectChanged i .live true, .raise .powerLoss i] ++ s.removalNotices i .live true)

/-- R124: LOW is cleared after recovery. -/
def State.clearLow (i : Nat) (s : State) : State :=
  (s.modSect i (fun r => { r with low := false, timer := .stopped })).posts
    [.sectChanged i .live false, .resolve .powerLoss i, .reexamine]

/-- R124: VOLTAGE_TIMER_EXPIRY. -/
def State.voltageExpiry (i : Nat) (s : State) : State :=
  match s.sect? i with
  | none => s
  | some r =>
    match r.timer with
    | .debounce d => (s.reach d).setLow i
    | .recovery d => (s.reach d).clearLow i
    | .stopped => s

/-! ### Building (R110, R111) -/

/-- R110: a section record as it is built. -/
def SectRec.built (feeders : List Nat) : SectRec :=
  { state := .unknown, lockout := false, low := false, demand := false, feeders := feeders, seq := none,
    timer := .stopped, stranded := [], lastVolt := none }

/-- R110: a section record at a warm restart: the lockout flag is kept. -/
def SectRec.restarted (r : SectRec) : SectRec := { SectRec.built r.feeders with lockout := r.lockout }

/-- R111: the pair records: a lone pair's mode is INDEPENDENT and its tie is ignored. -/
def pairsBuilt (sects : Nat) (rows : List PairRow) : List PairRec :=
  rows.mapIdx (fun m r => if 2 * m + 1 < sects then { mode := r.mode, tie := r.tie }
    else { mode := .independent, tie := none })

/-- R111: a substation record as it is built. -/
def SubRec.built (r : SubstationRow) : SubRec :=
  { capacity := r.capacity, meter := r.meter, feeders := r.feeders, estimate := 0, meas := none, fresh := false,
    staleReported := true, overload := false }

/-- R111: a substation record at a warm restart. -/
def SubRec.restarted (r : SubRec) : SubRec :=
  { r with estimate := 0, meas := none, fresh := false, staleReported := true, overload := false }

/-- R110, R111, R128: the supervisor at a commit. -/
def State.builtSupervisor (s : State) : Supervisor :=
  { Supervisor.empty with
    sects := s.sectRows.map (fun r => SectRec.built r.feeders)
    pairs := pairsBuilt s.sectCount s.pairRows
    subs := s.subRows.map SubRec.built }

/-- R110, R111, R128: the supervisor at a warm restart: modes and lockouts are kept. -/
def Supervisor.restarted (t : Supervisor) : Supervisor :=
  { Supervisor.empty with
    sects := t.sects.map SectRec.restarted, pairs := t.pairs, subs := t.subs.map SubRec.restarted }

/-! ### Requests (R115, R120, R123, R125) -/

/-- The checks that open every request naming one section: length, service state, range, existence (R174). -/
def State.sectCheck (s : State) (d : List Byte) : Option RefusalCode :=
  if d.length ≠ 1 then some .badLength
  else if s.lds.service = .unconfigured then some .wrongState
  else if Config.maxSections ≤ at8 d 0 then some .badValue
  else if s.sectCount ≤ at8 d 0 then some .notFound
  else none

/-- R115: the section-state checks of SEC_ENERGIZE, in order. -/
def State.energizeCheck (s : State) (i : Nat) : Option RefusalCode :=
  if (s.group i).any (fun j => s.sectState j != .dead && s.sectState j != .tripped) then some .wrongState
  else if (s.group i).any (fun j => (s.sect? j).any (fun r => r.lockout || r.demand)) then some .locked
  else if s.baseOf i ≠ i then some .pairSlaved
  else if (s.toClose i).any (fun b => !((s.entry? b).any (fun e => e.state == .held))) ||
      (s.modeOf i == .crossFed && (s.feedersOf (evenOf i + 1)).any (fun b => !s.readsOpen b)) then some .notRemote
  else none

/-- R115: SEC_ENERGIZE. -/
def reqSecEnergize (tag : Byte) (d : List Byte) (s : State) : State :=
  let i := at8 d 0
  match s.sectCheck d with
  | some c => s.refuse tag c
  | none =>
    match s.energizeCheck i with
    | some c => s.refuse tag c
    | none =>
      ((s.changeTo (s.group i) .precharge).firstStep (s.baseOf i) i).post
        (.answer tag (.done []))

/-- R120: SEC_ISOLATE by the section's state. -/
def State.isolateByState (tag : Byte) (i : Nat) (s : State) : State :=
  match s.sectState i with
  | .unknown => s.refuse tag .wrongState
  | .precharge => (s.abort (s.baseOf i) .hostIsolate).post (.answer tag (.done []))
  | .live => (s.isolateHost i).post (.answer tag (.done []))
  | .tripped => (s.isolateHost i).post (.answer tag (.done []))
  | .dead => s.done tag []
  | .isolating =>
    match s.seqOf (s.baseOf i) with
    | some (.isolate _ awaited mustRead) =>
      (s.posts ((awaited.filter (fun b => !(if mustRead then s.readsOpen b else s.countsOpen b) &&
          !((s.entry? b).any (fun e => e.out.isSome)))).map .openBreaker)).post (.answer tag (.done []))
    | _ => s.done tag []

/-- R120: SEC_ISOLATE. -/
def reqSecIsolate (tag : Byte) (d : List Byte) (s : State) : State :=
  match s.sectCheck d with
  | some c => s.refuse tag c
  | none => s.isolateByState tag (at8 d 0)

/-- R123: SEC_UNLOCK. -/
def reqSecUnlock (tag : Byte) (d : List Byte) (s : State) : State :=
  let i := at8 d 0
  match s.sectCheck d with
  | some c => s.refuse tag c
  | none =>
    if (s.sect? i).any (·.lockout) then
      (s.modSect i (fun r => { r with lockout := false })).posts
        [.resolve .chargeFail i, .answer tag (.sectFlags i)]
    else s.post (.answer tag (.sectFlags i))

/-- R125: whether a pair's named mode exists: the pair has a section, and a tie to be TIED or CROSS_FED with. -/
def State.pairExists (s : State) (m : Nat) (mode : PairMode) : Bool :=
  match s.tsv.pairs[m]? with
  | none => false
  | some p => mode == .independent || p.tie.isSome

/-- R125: the sections of a pair. -/
def State.pairSects (s : State) (m : Nat) : List Nat := [2 * m, 2 * m + 1].filter (fun i => i < s.tsv.sects.length)

def State.setMode (m : Nat) (mode : PairMode) (s : State) : State :=
  s.setPairs (s.tsv.pairs.modify m (fun p => { p with mode := mode }))

/-- R125, step 1: the tie of a pair that becomes INDEPENDENT is opened, unless it counts as open. -/
def State.tieToOpen (s : State) (m : Nat) (mode : PairMode) : List Notice :=
  match mode, (s.tsv.pairs[m]?).bind (·.tie) with
  | .independent, some t => if s.countsOpen t then [] else [.openBreaker t]
  | _, _ => []

/-- R125: the mode changes. -/
def State.changeMode (tag : Byte) (m : Nat) (mode : PairMode) (s : State) : State :=
  ((((s.setMode m mode).posts (s.tieToOpen m mode)).recountAndExamine).posts
    ((s.pairSects m).map .derive)).post (.answer tag (.done []))

/-- R125: PAIR_MODE. -/
def reqPairMode (tag : Byte) (d : List Byte) (s : State) : State :=
  if d.length ≠ 2 then s.refuse tag .badLength
  else if s.lds.service = .unconfigured then s.refuse tag .wrongState
  else
    match pairModeOf (at8 d 1) with
    | none => s.refuse tag .badValue
    | some mode =>
      if 11 < at8 d 0 then s.refuse tag .badValue
      else if !s.pairExists (at8 d 0) mode then s.refuse tag .notFound
      else if (s.pairSects (at8 d 0)).any (fun i => s.sectState i != .dead) then s.refuse tag .wrongState
      else if s.modeOf (2 * at8 d 0) = mode then s.done tag []
      else s.changeMode tag (at8 d 0) mode

/-! ### SEC_QUERY (R132) -/

/-- The flags of a section as a set byte: lockout, LOW, demand (log entry 16). -/
def SectRec.flags (r : SectRec) : Nat := bitOf r.lockout 0 + bitOf r.low 1 + bitOf r.demand 2

/-- R123: a section's state and flags in a reply. -/
def State.sectFlagBytes (s : State) (i : Nat) : List Byte :=
  match s.sect? i with
  | some r => u8 r.state.code ++ u8 r.flags
  | none => []

/-- A breaker in a reply: its element, mirror state and value, 0xFF when absent. -/
def State.breakerBytes (s : State) (el : Nat) : List Byte :=
  match s.entry? el with
  | none => u8 el ++ u8 0 ++ u8 0xFF
  | some e =>
    u8 el ++ u8 e.state.code ++ opt8 (match e.value with
      | some (.breaker v) => some v.code
      | _ => none)

/-- Section 11.6, "Section sequence kind". -/
def Sequence.code : Sequence → Nat
  | .energize _ _ _ _ _ => 1
  | .isolate .host _ _ => 2
  | .isolate .abort _ _ => 3
  | .isolate .chargeFail _ _ => 4
  | .isolate .derived _ _ => 5

/-- The step of a sequence (log entry 16): R116's 1 to 3, 4 for the feed close, 0 for an isolation. -/
def Sequence.step : Sequence → Nat
  | .energize _ .tie _ _ _ => 1
  | .energize _ .prechargeClose _ _ _ => 2
  | .energize _ (.precharge _) _ _ _ => 3
  | .energize _ (.feedClose _ _) _ _ _ => 4
  | .isolate _ _ _ => 0

/-- R132: the breakers a sequence awaits. -/
def State.awaitedBy (s : State) : Sequence → List Nat
  | .energize _ .tie ordered _ _ => ordered
  | .energize _ .prechargeClose ordered _ _ => ordered.drop (ordered.length - 1)
  | .energize _ (.precharge _) _ _ _ => []
  | .energize _ (.feedClose _ awaited) _ _ _ => awaited
  | .isolate _ awaited mustRead => awaited.filter (fun b => !(if mustRead then s.readsOpen b else s.countsOpen b))

/-- R132: the precharge time remaining, in milliseconds. -/
def Sequence.remaining (now : Nat) : Sequence → Option Nat
  | .energize _ (.precharge d) _ _ _ => some (d - now)
  | _ => none

/-- R132: a section's sequence in a reply: its kind or 0, then its step, the breakers awaited and the time left. -/
def State.sequenceBytes (s : State) (i : Nat) : List Byte :=
  match s.seqOf (s.baseOf i) with
  | none => u8 0 ++ u8 0 ++ list8 [] ++ opt24 none
  | some q => u8 q.code ++ u8 q.step ++ list8 (s.awaitedBy q) ++ opt24 (q.remaining s.tick)

/-- R132: the voltage timer's use and time remaining. -/
def timerBytes (now : Nat) : VoltageTimer → List Byte
  | .stopped => u8 0 ++ opt24 none
  | .debounce d => u8 1 ++ opt24 (some (d - now))
  | .recovery d => u8 2 ++ opt24 (some (d - now))

/-- A measured quantity with its age in milliseconds, or absent. -/
def agedBytes (now : Nat) (x : Option (Nat × Nat)) : List Byte := opt16 (x.map (·.1)) ++ opt24 (x.map (fun x => now - x.2))

/-- R132: the pair of a section: number, in one byte (log entry 16), mode, tie, and the other section with its state. -/
def State.pairBytes (s : State) (i : Nat) : List Byte :=
  let other := if i % 2 = 0 then i + 1 else i - 1
  u8 (i / 2) ++ u8 (s.modeOf i).code ++
  (match (s.tsv.pairs[i / 2]?).bind (·.tie) with
    | some t => s.breakerBytes t
    | none => u8 0xFF ++ u8 0 ++ u8 0xFF) ++
  (match s.sect? other with
    | some r => u8 other ++ u8 r.state.code
    | none => u8 0xFF ++ u8 0xFF)

/-- R132: a substation of the feeding set. -/
def State.subBytes (s : State) (f : Nat) : List Byte :=
  match s.tsv.subs[f]? with
  | none => []
  | some r =>
    u16 r.capacity ++ u16 r.estimate ++ agedBytes s.tick r.meas ++ u8 (if r.fresh then 0 else 1) ++
    u16 r.effective ++ flag8 r.overload

/-- R132: SEC_QUERY's results. -/
def State.sectBytes (s : State) (i : Nat) (r : SectRec) : List Byte :=
  let permits := s.tsv.permits.filter (fun p => p.sect == i)
  s.sectFlagBytes i ++
  u8 r.feeders.length ++ r.feeders.flatMap s.breakerBytes ++
  s.sequenceBytes i ++
  timerBytes s.tick r.timer ++ agedBytes s.tick r.lastVolt ++
  list8 r.stranded ++
  s.pairBytes i ++
  u8 (s.feedSet i).length ++ (s.feedSet i).flatMap s.subBytes ++
  u8 (s.tsv.waitList.filter (fun q => q.sect == i)).length ++
  u8 permits.length ++ permits.flatMap (fun p => u16 p.train)

/-- R132: SEC_QUERY. -/
def reqSecQuery (tag : Byte) (d : List Byte) (s : State) : State :=
  match s.sectCheck d with
  | some c => s.refuse tag c
  | none =>
    match s.sect? (at8 d 0) with
    | some r => s.done tag (s.sectBytes (at8 d 0) r)
    | none => s.refuse tag .notFound

end Sys2Proof.Machine
end

