-- ==== Sys2Proof/Machine/Timetable.lean ====
section
/-! DEFINITION. The timetable window (04): its order, lookup, binding, release, departure and expiry, and the effects
of its four requests. -/
namespace Sys2Proof.Machine

/-- R60: the order of the window: ascending P, then ascending stop index. -/
def TtEntry.before (a b : TtEntry) : Bool := decide (a.p < b.p) || (a.p == b.p && decide (a.stop < b.stop))

/-- R60: an entry takes its place by its P. -/
def insertEntry (e : TtEntry) : List TtEntry → List TtEntry
  | [] => [e]
  | x :: rest => if e.before x then e :: x :: rest else x :: insertEntry e rest

def State.setEntries (es : List TtEntry) (s : State) : State := { s with window := { s.window with entries := es } }

/-- R66: the entry of a trip at a stop. -/
def State.ttLookup (s : State) (trip stop : Nat) : Option TtEntry :=
  s.window.entries.find? (fun e => e.trip == trip && e.stop == stop)

/-- The fields of an entry that a bound train holds (R72). -/
def TtEntry.matched (e : TtEntry) : Matched := { p := e.p, w := e.w, rp := e.rp }

/-- R67: the window's answer to a binding. -/
inductive BindAnswer where
  | noEntry
  | heldByOther
  | matched (m : Matched)
  deriving DecidableEq, Repr

/-- R68: the entries with a train's binding released. -/
def unbind (train : Nat) (es : List TtEntry) : List TtEntry :=
  es.map (fun e => if e.bound = some train then { e with bound := none } else e)

/-- R68: a train's binding is released; an entry it leaves beyond the stale limit expires directly after. -/
def State.ttRelease (train : Nat) (s : State) : State :=
  if s.window.entries.any (fun e => e.bound == some train) then
    (s.setEntries (unbind train s.window.entries)).post .expire
  else s

/-- R67: the answer to a binding of a train to the entry of a trip at a stop. -/
def State.bindAnswer (s : State) (train trip stop : Nat) : BindAnswer :=
  match s.ttLookup trip stop with
  | none => .noEntry
  | some e =>
    match e.bound with
    | none => .matched e.matched
    | some t => if t = train then .matched e.matched else .heldByOther

/-- R67: a PENDING entry becomes MATCHED, the train's earlier binding having been released. -/
def State.ttBind (train trip stop : Nat) (s : State) : State :=
  match s.ttLookup trip stop with
  | none => s
  | some e =>
    match e.bound with
    | none =>
      let s1 := s.ttRelease train
      s1.setEntries (s1.window.entries.map
        (fun x => if x.trip = trip ∧ x.stop = stop then { x with bound := some train } else x))
    | some _ => s

/-- R69: the entry a train is bound to at a stop. -/
def State.boundAt (s : State) (train stop : Nat) : Option TtEntry :=
  s.window.entries.find? (fun e => e.stop == stop && e.bound == some train)

/-- R69, R70: a confirmed departure: the bound entry leaves and the stop's record is overwritten. -/
def State.ttDepart (train stop : Nat) (trip : Option Nat) (d : Nat) (s : State) : State :=
  { s with window :=
      { entries := s.window.entries.filter (fun e => !(e.stop == stop && e.bound == some train))
        last := s.window.last.set stop
          (some { trip := trip, p := (s.boundAt train stop).map (·.p), d := d, train := train }) } }

/-- R71: whether an entry has expired at a line time. -/
def TtEntry.expired (stale time : Nat) (e : TtEntry) : Bool := e.bound.isNone && decide (e.p + stale < time)

/-- R71: the expired entries leave and are reported, in ascending order of P and then of stop index. -/
def expire (s : State) : State :=
  let gone := s.window.entries.filter (TtEntry.expired s.params.stale s.clock.time)
  gone.foldl
    (fun s e => s.report .entryExpired (some (.stop e.stop)) (some e.trip) (some e.p))
    (s.setEntries (s.window.entries.filter (fun e => !e.expired s.params.stale s.clock.time)))

/-! ### Requests (R62 to R65) -/

/-- R59: the ranges of an entry's fields for a line with its stops; `leaves` says that a run leaves the stop. -/
def entryInRange (stopCount : Nat) (leaves : Bool) (trip stop p w : Nat) (rp : Option Nat) : Bool :=
  inRange 1 9999 trip && decide (stop < stopCount) && decide (p ≤ Config.lastLineTime) && inRange 5 300 w &&
  (match rp with
    | none => true
    | some r => inRange 20 900 r && leaves)

/-- R62: one entry of a message of 10 bytes from place `i`; an Rp of 0 is absent (R186). -/
def readEntry (d : List Byte) (i : Nat) : TtEntry :=
  { trip := at16 d i, stop := at8 d (i + 2), p := at24 d (i + 3), w := at16 d (i + 6),
    rp := if at16 d (i + 8) = 0 then none else some (at16 d (i + 8)), bound := none }

/-- R59: whether an entry read from a message is in range. -/
def State.entryOk (s : State) (e : TtEntry) : Bool :=
  entryInRange s.stopCount (s.leavingRun e.stop).isSome e.trip e.stop e.p e.w e.rp

/-- R62: the position of the first entry that clashes, in message order, with an earlier one of the message or with
one of the window. -/
def firstClash (clash : TtEntry → TtEntry → Bool) (window : List TtEntry) : List TtEntry → List TtEntry → Nat → Option Nat
  | _, [], _ => none
  | seen, e :: rest, i =>
    if seen.any (clash e) || window.any (clash e) then some i
    else firstClash clash window (seen ++ [e]) rest (i + 1)

/-- R60: two entries of one trip and stop. -/
def sameTripStop (a b : TtEntry) : Bool := a.trip == b.trip && a.stop == b.stop

/-- R60: two entries of one stop and P. -/
def sameStopTime (a b : TtEntry) : Bool := a.stop == b.stop && a.p == b.p

/-- R62: TT_APPEND's place in the window for every entry of a message. -/
def insertAll (es : List TtEntry) (window : List TtEntry) : List TtEntry := es.foldl (fun w e => insertEntry e w) window

/-- R62: the free entries of the window. -/
def State.freeEntries (s : State) : Nat := Config.maxEntries - s.window.entries.length

/-- R63: the window with one entry's P, W and Rp replaced, in its new place. -/
def State.amendEntry (s : State) (old new : TtEntry) : List TtEntry :=
  insertEntry new (s.window.entries.filter (fun e => !sameTripStop e old))

/-- The bytes of an entry in a reply (R65): trip, stop, P, W, Rp, state, bound train. -/
def TtEntry.bytes (e : TtEntry) : List Byte :=
  u16 e.trip ++ u8 e.stop ++ u24 e.p ++ u16 e.w ++ optId e.rp ++ flag8 e.bound.isSome ++ optId e.bound

/-- The bytes of a last-departure record in a reply, or its absence (R65, log entry 16). -/
def lastBytes : Option LastDeparture → List Byte
  | none => List.replicate 11 0#8
  | some r => u8 1 ++ optId r.trip ++ opt24 r.p ++ u24 r.d ++ u16 r.train

/-- R62: the entries a TT_APPEND message carries. -/
def readEntries (d : List Byte) : List TtEntry := (List.range (at8 d 0)).map (fun j => readEntry d (1 + 10 * j))

/-- R62: the checks of the window itself, in order. -/
def State.appendCheck (s : State) (es : List TtEntry) : Option RefusalCode :=
  match firstClash sameTripStop s.window.entries [] es 0 with
  | some p => some (.duplicate (some p))
  | none =>
    match firstClash sameStopTime s.window.entries [] es 0 with
    | some p => some (.timeClash (some p))
    | none => if s.freeEntries < es.length then some (.tableFull (some s.freeEntries)) else none

/-- R62: TT_APPEND, its checks passed; entries beyond the stale limit expire after the reply. The number taken is one byte
and the free entries are two (log entry 16). -/
def State.append (tag : Byte) (es : List TtEntry) (s : State) : State :=
  ((s.setEntries (insertAll es s.window.entries)).done tag
    (u8 es.length ++ u16 (s.freeEntries - es.length))).post .expire

/-- R62: TT_APPEND. -/
def reqTtAppend (tag : Byte) (d : List Byte) (s : State) : State :=
  let es := readEntries d
  if d.length = 0 ∨ d.length ≠ 1 + 10 * at8 d 0 then s.refuse tag .badLength
  else if s.lds.service = .unconfigured then s.refuse tag .wrongState
  else if !inRange 1 16 (at8 d 0) || !es.all s.entryOk then s.refuse tag .badValue
  else
    match s.appendCheck es with
    | some c => s.refuse tag c
    | none => s.append tag es

/-- R63: TT_AMEND, its checks passed. -/
def State.amend (tag : Byte) (old e : TtEntry) (s : State) : State :=
  ((s.setEntries (s.amendEntry old e)).done tag e.bytes).post .expire

/-- R63: TT_AMEND. -/
def reqTtAmend (tag : Byte) (d : List Byte) (s : State) : State :=
  let e := readEntry d 0
  if d.length ≠ 10 then s.refuse tag .badLength
  else if s.lds.service = .unconfigured then s.refuse tag .wrongState
  else if !s.entryOk e then s.refuse tag .badValue
  else
    match s.ttLookup e.trip e.stop with
    | none => s.refuse tag .notFound
    | some old =>
      if old.bound.isSome then s.refuse tag .busy
      else if s.window.entries.any (fun x => sameStopTime x e && !sameTripStop x e) then s.refuse tag (.timeClash none)
      else s.amend tag old e

/-- R64: TT_CANCEL. -/
def reqTtCancel (tag : Byte) (d : List Byte) (s : State) : State :=
  let mine := s.window.entries.filter (fun e => e.trip == at16 d 0)
  if d.length ≠ 2 then s.refuse tag .badLength
  else if s.lds.service = .unconfigured then s.refuse tag .wrongState
  else if !inRange 1 9999 (at16 d 0) then s.refuse tag .badValue
  else if mine.isEmpty then s.refuse tag .notFound
  else
    (s.setEntries (s.window.entries.filter (fun e => e.trip != at16 d 0 || e.bound.isSome))).done tag
      (u16 (mine.filter (fun e => e.bound.isNone)).length ++ u16 (mine.filter (fun e => e.bound.isSome)).length)

/-- R65: the total of the entries selected, in two bytes, and up to 48 of them from the skip count on behind a byte that
counts them (log entry 16). -/
def selectedBytes (es : List TtEntry) (skip : Nat) : List Byte :=
  let out := (es.drop skip).take 48
  u16 es.length ++ u8 out.length ++ out.flatMap TtEntry.bytes

/-- R65: TT_QUERY. -/
def reqTtQuery (tag : Byte) (d : List Byte) (s : State) : State :=
  let n := at16 d 1
  let skip := at16 d 3
  if d.length ≠ 5 then s.refuse tag .badLength
  else if s.lds.service = .unconfigured then s.refuse tag .wrongState
  else if 1023 < skip then s.refuse tag .badValue
  else if at8 d 0 = 0 then
    if n < s.stopCount then
      s.done tag (selectedBytes (s.window.entries.filter (fun e => e.stop == n)) skip ++
        lastBytes ((s.window.last[n]?).join))
    else s.refuse tag .badValue
  else if at8 d 0 = 1 then
    if inRange 1 9999 n then s.done tag (selectedBytes (s.window.entries.filter (fun e => e.trip == n)) skip)
    else s.refuse tag .badValue
  else s.refuse tag .badValue

/-- R61, R70: the window of a committed description, empty, with an absent record for each stop. -/
def State.builtWindow (s : State) : Window := { entries := [], last := List.replicate s.stopCount none }

end Sys2Proof.Machine
end

