-- ==== Sys2Proof/Machine/Trains.lean ====
section
/-! DEFINITION. The train register (05): tentative events and their end, confirmed arrivals and departures, position
reports, reconciliation, load phases and load notices. -/
namespace Sys2Proof.Machine

/-! ### Load notices (R74, R85) -/

/-- R85: the position a train is counted at, which gives its counting section and decides its phase at the end of the
start window: the one before a tentative event while it stands. -/
def Train.countedPos (t : Train) : Position × Option Nat :=
  match t.saved with
  | some v => (v.pos, v.stop)
  | none => (t.pos, t.stop)

/-- R74: a train's counting section. -/
def State.countingSect (s : State) (t : Train) : Option Nat :=
  match t.countedPos with
  | (.atStop, some k) => s.platformSect k
  | (.turning, some k) => s.platformSect k
  | (.running, some k) => s.departureSect k
  | (.unlocated, some k) => s.departureSect k
  | (_, none) => none

/-- R85: the load notice of a train as it stands; RUNNING is told without its tentative departure (R131, log entry 28). -/
def State.loadNote (s : State) (t : Train) : LoadNote :=
  { train := t.id, phase := t.phase, level := t.level, sect := s.countingSect t,
    running := t.pos == .running && t.saved.isNone }

/-- R85: the register replaces a train's record and gives the supervisor a load notice. -/
def State.setTrainLoad (slot : Nat) (t : Train) (s : State) : State :=
  (s.setTrain slot t).post (.load slot (s.loadNote t))

/-- R79, step 2: a running start window ends at once and the supervisor is told. -/
def State.endStartWindow (t : Train) (s : State) : State :=
  if t.startDeadline.isSome then s.post (.permitEnded t.id) else s

/-- The permit mark after a start window has been cut short (R79, step 2). -/
def Train.windowCut (t : Train) : Train :=
  if t.startDeadline.isSome then { t with permit := false, startDeadline := none } else t

/-! ### Tentative events (R75 to R77) -/

/-- R75: the conditions under which a tentative arrival is applied. -/
def State.arrivalApplies (s : State) (t : Train) (stop : Nat) : Bool :=
  (match t.pos with
    | .running => t.saved.isNone
    | .unlocated => true
    | .turning => true
    | .atStop => false) && (s.occupant stop).isNone

/-- What an applied tentative event saves (R75, R76, R77). -/
def Train.save (t : Train) : Option Saved := some { pos := t.pos, stop := t.stop, arr := t.arr, dep := t.dep }

/-- R75, R76: a tentative event fills its link's slot and is applied or declined. -/
def tentativeEvent (link el : Nat) (arrival : Bool) (train : Nat) (s : State) : State :=
  let slot : TentativeSlot :=
    { el := el, arrival := arrival, train := train, stop := s.stopOfElement el, status := .declined }
  match slot.stop, s.slotOf train with
  | some k, some i =>
    match s.train? i with
    | none => s.setTentative link (some slot)
    | some t =>
      if arrival then
        if s.arrivalApplies t k then
          ((s.setTentative link (some { slot with status := .applied })).setTrain i
            { t with saved := t.save, pos := .atStop, stop := some k,
                     arr := some { time := s.clock.time, tentative := true } }).post (.standTentative i)
        else s.setTentative link (some slot)
      else if t.pos = .atStop ∧ t.stop = some k ∧ t.saved = none then
        (s.setTentative link (some { slot with status := .applied })).setTrain i
          { t with saved := t.save, pos := .running, dep := some { time := s.clock.time, tentative := true } }
      else s.setTentative link (some slot)
  | _, _ => s.setTentative link (some slot)

/-- R77: a train returned to its saved position, its times as they were. -/
def Train.restored (t : Train) : Train :=
  match t.saved with
  | some v => { t with pos := v.pos, stop := v.stop, arr := v.arr, dep := v.dep, saved := none }
  | none => t

/-- R77: every applied tentative event of a train is voided. -/
def State.voidEvents (train : Nat) (s : State) : State :=
  { s with reg := { s.reg with tentative := s.reg.tentative.map (fun x =>
      x.map (fun x => if x.train = train ∧ x.status = .applied then { x with status := .voided } else x)) } }

/-! ### Confirmed arrivals (R78, R79) -/

/-- R79, step 3: the binding a train is answered at a stop. -/
def State.arrivalBinding (s : State) (t : Train) (stop : Nat) : Option Matched :=
  match t.trip with
  | none => none
  | some trip =>
    match s.bindAnswer t.id trip stop with
    | .matched m => some m
    | .noEntry => none
    | .heldByOther => none

/-- R79, step 4: the arrival lateness. -/
def arrivalLateness (a : Nat) (m : Option Matched) : Int :=
  match m with
  | some m => clampLate ((a : Int) + m.w - m.p)
  | none => 0

/-- R79: the record of a train accepted at a stop, arrived at line time `a` and bound as `m` says. -/
def Train.arrived (t : Train) (stop a : Nat) (m : Option Matched) : Train :=
  { t.windowCut with
    pos := .atStop, stop := some stop, dir := directionOf stop, arr := some { time := a, tentative := false },
    depLate := none, level := 0, saved := none, entry := m, terminating := m.any (fun m => m.rp.isNone),
    arrLate := arrivalLateness a m, phase := .aux }

/-- R79: an accepted arrival. -/
def State.acceptArrival (slot : Nat) (t : Train) (stop a : Nat) (s : State) : State :=
  let m := s.arrivalBinding t stop
  let s1 := s.endStartWindow t
  let s2 := match t.trip with
    | some trip => s1.ttBind t.id trip stop
    | none => s1
  let t' := t.arrived stop a m
  (s2.setTrainLoad slot t').posts
    [.standArrived slot, .resolve .stranded t.id,
     .report .arrived (some (.train t.id)) (some stop) (some (lateCode t'.arrLate)), .trainArrived stop]

/-- R79: the conflict case: the train does not take the stop. -/
def State.conflict (slot : Nat) (t : Train) (stop : Nat) (s : State) : State :=
  let t' := { t.windowCut with pos := .unlocated, stop := some stop, saved := none, entry := none,
                               terminating := false, phase := .run, level := 0 }
  (((s.endStartWindow t).ttRelease t.id).setTrainLoad slot t').post (.raise .platformConflict stop)

/-- R78: POSITION_JUMP. -/
def jumpReport (train : Nat) (was : Option Nat) (stop : Nat) : Notice :=
  .report .positionJump (some (.train train)) was (some stop)

/-- R78, steps 6 and 7, with the report of an unexpected stop. -/
def State.settleArrival (slot : Nat) (t : Train) (stop : Nat) (s : State) : State :=
  if (s.occupant stop).isSome then s.conflict slot t stop
  else
    let s1 := match t.pos, t.stop with
      | .running, some k => if s.nextStop k = some stop then s else s.post (jumpReport t.id (some k) stop)
      | _, _ => s
    s1.acceptArrival slot t stop s.clock.time

/-! ### Confirmed departures (R80 to R82) -/

/-- R80, step 4: the phases whose departure is early. -/
def Phase.early : Phase → Bool
  | .dwelling => true
  | .waitingPermit => true
  | .held => true
  | _ => false

/-- R80, step 4: EARLY_DEPARTURE, read from the phase before the stand is dropped. -/
def State.earlyReport (s : State) (slot : Nat) (t : Train) (stop : Nat) : List Notice :=
  match (s.stand? slot).bind (·.phase) with
  | some ph =>
    if ph.early then [.report .earlyDeparture (some (.train t.id)) (some stop) (some ph.code)] else []
  | none => []

/-- R80, step 5, and R82: the record of a departed train. -/
def Train.departed (t : Train) (d : Nat) (late : Option Int) (deadline : Nat) : Train :=
  let t1 := { t with dep := some { time := d, tentative := false }, depLate := late, entry := none, saved := none,
                     startDeadline := if t.permit then some deadline else none }
  if t.terminating then
    { t1 with pos := .turning, terminating := false, trip := t.following.head?, following := t.following.tail,
              phase := if t.permit then .starting else .aux }
  else { t1 with pos := .running, phase := if t.permit then .starting else .run }

/-- R82: TRIP_ENDED. -/
def Train.tripEndReport (t : Train) : List Notice :=
  if t.terminating then [.report .tripEnded (some (.train t.id)) t.trip t.following.head?] else []

/-- R80, step 2: the departure lateness, from the P the window hands back. -/
def State.departureLateness (s : State) (t : Train) (stop d : Nat) : Option Int :=
  (s.boundAt t.id stop).map (fun e => clampLate ((d : Int) - e.p))

/-- R163: the publisher's clearing comes before the regulator's writes by the free value where one departure does both
at one station; elsewhere the order makes no difference and the clearing comes last. -/
def State.clearsFirst (s : State) (stop : Nat) (targets : List Nat) : Bool :=
  targets.contains (stationOf stop) && Config.clearsBeforeWrite s.freeCount

/-- R80, R82: the confirmed departure of a train from the stop it stood at, at line time `d`. -/
def State.confirmDeparture (slot : Nat) (t : Train) (stop d : Nat) (s : State) : State :=
  let late := s.departureLateness t stop d
  let p := (s.boundAt t.id stop).map (·.p)
  let first := s.clearsFirst stop (s.delayTargets late t.trip p)
  let t' := t.departed d late (s.inSeconds s.params.startWindow)
  let early := s.earlyReport slot t stop
  let clear : List Notice := [.trainDeparted t.id stop]
  let s1 := { (s.ttDepart t.id stop t.trip d).setTrain slot t' with freeCount := s.freeCount + 1 }
  s1.posts
    ((if first then clear else []) ++ [.standDeparted slot t.id late t.trip p] ++ early ++ t.tripEndReport ++
     [.load slot (s1.loadNote t'),
      .report .departed (some (.train t.id)) (some stop) (late.map lateCode)] ++ (if first then [] else clear))

/-- R78, step 5, and R81: the stand of a train ends without a departure: the binding is released, the stop loses its
occupant, a tentative time is put back and the regulator is told. Until its arrival or departure is accepted elsewhere the
train is UNLOCATED at that stop (log entry 33). -/
def State.giveUpStand (slot : Nat) (t : Train) (s : State) : State :=
  (((s.voidEvents t.id).ttRelease t.id).setTrain slot
    { t with pos := .unlocated, arr := t.restored.arr, dep := t.restored.dep, saved := none, entry := none,
             terminating := false }).post (.standEnded slot)

/-- R81: a departure taken as a report of position; `jump` says that POSITION_JUMP is reported. -/
def positionReport (train stop : Nat) (was : Option Nat) (jump : Bool) (s : State) : State :=
  match s.slotOf train with
  | none => s
  | some i =>
    match s.train? i with
    | none => s
    | some t =>
      let t' := { t.windowCut with pos := .running, stop := some stop, saved := none, entry := none,
                                   terminating := false, phase := .run, level := 0,
                                   dep := some { time := s.clock.time, tentative := false }, depLate := none }
      (((s.endStartWindow t).ttDepart t.id stop t.trip s.clock.time).setTrainLoad i t').posts
        ((if jump then [jumpReport t.id was stop] else []) ++
         [.report .departed (some (.train t.id)) (some stop) none, .trainDeparted t.id stop])

/-- UNKNOWN_TRAIN (R78, R81). -/
def State.unknownTrain (train stop : Nat) (s : State) : State :=
  s.report .unknownTrain (some (.train train)) (some stop) none

/-- R78: a confirmed arrival, judged afresh. Steps 3 to 5 do their work and the judgement goes on after it. -/
def State.judgeArrival (train stop : Nat) (s : State) : State :=
  match s.slotOf train with
  | none => s.unknownTrain train stop
  | some i =>
    match s.train? i with
    | none => s.unknownTrain train stop
    | some t =>
      match t.pos with
      | .atStop =>
        if t.stop = some stop then s
        else if t.saved.isSome then
          ((s.voidEvents train).setTrain i t.restored).posts
            [.standWithdrawn i, .confirmedEvent true train stop]
        else
          (s.giveUpStand i t).posts [jumpReport train t.stop stop, .confirmedEvent true train stop]
      | .running =>
        if t.saved.isSome then
          match t.stop, t.dep with
          | some k, some d =>
            ((s.voidEvents train).confirmDeparture i t k d.time).post (.confirmedEvent true train stop)
          | _, _ => s.settleArrival i t stop
        else s.settleArrival i t stop
      | .unlocated => s.settleArrival i t stop
      | .turning => s.settleArrival i t stop

/-- R81: a fresh confirmed departure. -/
def State.judgeDeparture (train stop : Nat) (s : State) : State :=
  match s.slotOf train with
  | none => s.unknownTrain train stop
  | some i =>
    match s.train? i with
    | none => s.unknownTrain train stop
    | some t =>
      match t.pos with
      | .atStop =>
        if t.stop = some stop then
          if t.saved.isSome then
            ((s.voidEvents train).acceptArrival i t stop ((t.arr.map (·.time)).getD s.clock.time)).post
              (.confirmedEvent false train stop)
          else s.confirmDeparture i t stop s.clock.time
        else (s.giveUpStand i t).post (.positionReport train stop t.stop true)
      | .running =>
        if t.stop = some stop then s
        else if t.saved.isSome then (s.giveUpStand i t).post (.positionReport train stop t.stop true)
        else s.post (.positionReport train stop t.stop true)
      | .unlocated => s.post (.positionReport train stop t.stop (t.stop != some stop))
      | .turning => s.post (.positionReport train stop t.stop true)

/-- R78, R81: a confirmed event judged afresh. -/
def confirmedEvent (arrival : Bool) (train stop : Nat) (s : State) : State :=
  if arrival then s.judgeArrival train stop else s.judgeDeparture train stop

/-- R77: the end of an applied event whose train is in a slot. -/
def State.endApplied (slot : Nat) (t : Train) (arrival confirmed : Bool) (s : State) : State :=
  if confirmed then
    if arrival then
      match t.stop, t.arr with
      | some k, some a => s.acceptArrival slot t k a.time
      | _, _ => s
    else
      match t.stop, t.dep with
      | some k, some d => s.confirmDeparture slot t k d.time
      | _, _ => s
  else if arrival then (s.setTrain slot t.restored).post (.standWithdrawn slot)
  else s.setTrain slot t.restored

/-- R77: a tentative event ends by confirmation or withdrawal, and its slot is empty. -/
def tentativeEnd (link : Nat) (confirmed : Bool) (s : State) : State :=
  match (s.reg.tentative[link]?).join with
  | none => s
  | some x =>
    let s1 := s.setTentative link none
    match x.status with
    | .applied =>
      match s1.slotOf x.train with
      | none => s1
      | some i =>
        match s1.train? i with
        | none => s1
        | some t => s1.endApplied i t x.arrival confirmed
    | _ =>
      match confirmed, x.stop with
      | true, some k => if inRange 1 999 x.train then s1.post (.confirmedEvent x.arrival x.train k) else s1
      | _, _ => s1

/-! ### Reconciliation and permits (R83, R84) -/

/-- R83: a value notice of a platform with cause STATE, compared with the register at the element's stop. -/
def State.reconcile (v : ValueNotice) (s : State) : State :=
  match v.cause, v.value, s.stopOfElement v.el with
  | .state, some (.platform (some x) _), some k =>
    if v.state = .held ∨ v.state = .reported then
      match (s.slotOf x).bind s.train? with
      | some t =>
        if t.stop = some k ∧ (t.pos = .atStop ∨ t.pos = .running ∨ t.pos = .turning) then s
        else s.post (.confirmedEvent true x k)
      | none => s.post (.confirmedEvent true x k)
    else s
  | _, _, _ => s

/-- R84: the regulator tells of a grant with its level. -/
def permitGiven (train level : Nat) (s : State) : State :=
  match s.slotOf train with
  | none => s
  | some i =>
    match s.train? i with
    | none => s
    | some t => s.setTrainLoad i { t with phase := .starting, permit := true, level := level }

/-- R84: the regulator tells that a permit was returned before departure. -/
def permitReturned (train : Nat) (s : State) : State :=
  match s.slotOf train with
  | none => s
  | some i =>
    match s.train? i with
    | none => s
    | some t => s.setTrainLoad i { t with phase := .aux, permit := false }

/-- R84: START_WINDOW_DEADLINE. A train that a tentative arrival makes AT_STOP counts as it was (R85), so a TURNING one
comes to AUX (R82). -/
def State.startWindowDeadline (slot : Nat) (s : State) : State :=
  match s.train? slot with
  | none => s
  | some t =>
    match t.startDeadline with
    | none => s
    | some d =>
      ((s.reach d).post (.permitEnded t.id)).setTrainLoad slot
        { t with phase := if t.countedPos.1 = .turning then .aux else .run, permit := false, startDeadline := none }

/-! ### Requests (R86 to R88) -/

/-- R86: the record of a train put into service. -/
def Train.fresh (id : Nat) (dir : Direction) (trip : Option Nat) : Train :=
  { id := id, dir := dir, pos := .unlocated, stop := none, trip := trip, entry := none, following := [],
    arr := none, dep := none, arrLate := 0, depLate := none, terminating := false, permit := false, phase := .run,
    level := 0, startDeadline := none, saved := none }

/-- R86: the lowest-numbered free slot. -/
def State.freeSlot (s : State) : Option Nat := s.reg.slots.findIdx? (fun t => t.isNone)

/-- R88, steps 1 to 4 of TRAIN_REMOVE; step 5 follows when they have run out. -/
def State.removeTrain (slot : Nat) (t : Train) (s : State) : State :=
  ((s.voidEvents t.id).ttRelease t.id).posts
    ([.trainGone slot t.id] ++ (if t.startDeadline.isSome then [.permitEnded t.id] else []) ++
     [.resolve .stranded t.id, .slotFreed slot t.id])

/-- R88, step 5: the slot is out of service and the supervisor takes a load notice with no counting section. -/
def slotFreed (slot train : Nat) (s : State) : State := (s.setSlot slot none).post (.unload slot train)

end Sys2Proof.Machine
end

