-- ==== Sys2Proof/Machine/Regulation.lean ====
section
/-! DEFINITION. The regulator (06): hold reasons and what their change does, the arithmetic of a plan, permits, platform
orders and their outcomes, the end of a stand, the service actions, and delay notices. -/
namespace Sys2Proof.Machine

/-! ### The plan (R95 to R97) -/

/-- R95, step 3: the schedule target. -/
def scheduleTarget (prm : Params) (a : Nat) (p : Option Nat) : Nat :=
  match p with
  | some p => max p (a + prm.wMin)
  | none => a + prm.wDefault

/-- R96, step 4: the planned headway. -/
def plannedHeadway (prm : Params) (p pPrev : Option Nat) : Nat :=
  match p, pPrev with
  | some p, some q => (clampInt 30 1800 ((p : Int) - q)).toNat
  | _, _ => prm.hNom

/-- R96, step 5: the headway target. -/
def headwayTarget (dPrev : Option Nat) (hPlan tSched : Nat) : Nat :=
  match dPrev with
  | some d => d + hPlan
  | none => tSched

/-- R97, step 6: the blend; the division by a positive number rounds toward minus infinity. -/
def blend (beta : Nat) (tSched : Nat) (delta : Int) : Int := tSched + (beta * delta + 4) / 8

/-- R97, step 7: the dwell. -/
def dwellOf (prm : Params) (a : Nat) (tTgt : Int) : Nat := (clampInt prm.wMin prm.wMax (tTgt - a)).toNat

/-- R95 to R97: a plan, from the parameters, the working β, the arrival time, the entry and the stop's record. -/
def planOf (prm : Params) (beta a : Nat) (m : Option Matched) (last : Option LastDeparture) : Plan :=
  let p := m.map (·.p)
  let pPrev := last.bind (·.p)
  let dPrev := last.map (·.d)
  let tSched := scheduleTarget prm a p
  let hPlan := plannedHeadway prm p pPrev
  let tHead := headwayTarget dPrev hPlan tSched
  let delta : Int := (tHead : Int) - tSched
  let tTgt := blend beta tSched delta
  let dwell := dwellOf prm a tTgt
  { a := a, p := p, w := (m.map (·.w)).getD prm.wDefault, rp := m.bind (·.rp), pPrev := pPrev, dPrev := dPrev,
    lateness := arrivalLateness a m, tSched := tSched, hPlan := hPlan, tHead := tHead, delta := delta, tTgt := tTgt,
    dwell := dwell, tDep := a + dwell }

/-- R94: the plan of an arrival at a stop, from the unit's parameters, working β and records as they stand. -/
def State.plan (s : State) (stop a : Nat) (m : Option Matched) : Plan :=
  planOf s.params (s.rgl.beta.getD 0) a m ((s.window.last[stop]?).join)

/-- R106: T_dep raised to a line time; D_w as it was. -/
def Plan.raised (p : Plan) (time : Nat) : Plan := { p with tDep := max p.tDep time }

/-! ### Run levels (R99) -/

/-- R99, step 1: the run time of level `j`. -/
def levelTime (lo hi j : Nat) : Nat := lo + j * (hi - lo) / 3

/-- R99, step 1: the highest level whose run time is at most the time available, or 0. -/
def runLevel (bounds : Option (Nat × Nat)) (p rp : Option Nat) (t : Nat) : Nat :=
  match bounds, p, rp with
  | some (lo, hi), some p, some r =>
    if levelTime lo hi 3 + t ≤ p + r then 3
    else if levelTime lo hi 2 + t ≤ p + r then 2
    else if levelTime lo hi 1 + t ≤ p + r then 1
    else 0
  | _, _, _ => 0

/-! ### Hold reasons (R91 to R93) -/

/-- R92: the INCIDENT reason at a stop, from the latest held station set. -/
def State.incidentReason (s : State) (stop : Nat) : Bool := s.rgl.heldStations.contains (stationOf stop)

/-- R92: the POWER reason on a section, from the latest section notice. -/
def State.powerReason (s : State) (sect : Nat) : Bool :=
  match s.rgl.sectView[sect]? with
  | some (.live, low) => low
  | _ => true

/-- The identity of the train of a slot; 0 for a free slot, which no stand has. -/
def State.idOf (s : State) (slot : Nat) : Nat := ((s.train? slot).map (·.id)).getD 0

/-- R93: a permit is returned: the supervisor is told, then the train register. -/
def returnPermit (train : Nat) : List Notice := [.permitEnded train, .permitReturned train]

/-- R99: a permit request joins the supervisor's wait list and the stand waits for the permit. -/
def State.requestPermit (slot : Nat) (st : Stand) (s : State) : State :=
  (s.putStand slot { st with phase := some .waitingPermit, permit := .requested }).post
    (.permitRequest (s.idOf slot) st.sect)

/-- R102: REVOKE is issued to the stand's platform. -/
def State.issueRevoke (slot : Nat) (st : Stand) (s : State) : State :=
  (s.putStand slot { st with order := .revoke s.nextToken }).issueOrder st.el (.revoke (s.idOf slot))

/-- R93: what the set of a stand's reasons does when it becomes non-empty. -/
def State.becameHeld (slot : Nat) (st : Stand) (s : State) : State :=
  match st.phase with
  | some .waitingPermit =>
    (s.putStand slot { st with phase := some .held, permit := .none }).post (.permitWithdraw (s.idOf slot))
  | some .released =>
    match st.order with
    | .releaseWaiting tok =>
      (s.putStand slot { st with phase := some .held, permit := .none, order := .dwell tok }).posts
        (returnPermit (s.idOf slot))
    | .revoke _ => s
    | _ => if st.revokeFailed then s else s.issueRevoke slot st
  | _ => s

/-- R93, R101: what the set of a stand's reasons does when it becomes empty. -/
def State.becameFree (slot : Nat) (st : Stand) (s : State) : State :=
  match st.phase with
  | some .held => s.requestPermit slot st
  | _ => s

/-- R93: a stand's reasons have changed to those of `st`; `before` says whether the set was non-empty. -/
def State.holdChange (slot : Nat) (before : Bool) (st : Stand) (s : State) : State :=
  let s1 := s.putStand slot st
  match before, s1.isHeld slot st with
  | false, true => s1.becameHeld slot st
  | true, false => s1.becameFree slot st
  | _, _ => s1

/-- R92: the two derived reasons of a stand, computed again. -/
def State.derivedReasons (s : State) (st : Stand) : Stand :=
  { st with incident := s.incidentReason st.stop, power := s.powerReason st.sect }

/-- R92: a stand's derived reasons are recomputed and act under R93. -/
def recompute (slot : Nat) (s : State) : State :=
  match s.stand? slot with
  | none => s
  | some st => s.holdChange slot (s.isHeld slot st) (s.derivedReasons st)

/-- The slots that have a stand, ascending. -/
def State.standSlots (s : State) : List Nat := numbersBelow Config.trainSlots (fun i => (s.stand? i).isSome)

/-- An act on every stand, by ascending slot. Every record has changed before any other block is told of it. -/
def State.eachStand (act : Nat → State → State) (s : State) : State := s.standSlots.foldl (fun s i => act i s) s

/-- R90: the latest state and LOW flag told of a section. -/
def State.viewSect (sect : Nat) (st : SectState) (low : Bool) (s : State) : State :=
  { s with rgl := { s.rgl with sectView := s.rgl.sectView.set sect (st, low) } }

/-- R90: the latest held station set told. -/
def State.viewHeld (set : List Nat) (s : State) : State := { s with rgl := { s.rgl with heldStations := set } }

/-- R92: the supervisor tells of a section's state and LOW flag. -/
def sectChanged (sect : Nat) (st : SectState) (low : Bool) (s : State) : State :=
  (s.viewSect sect st low).eachStand recompute

/-- R92: the incident manager tells of the set of held stations. -/
def heldStations (set : List Nat) (s : State) : State := (s.viewHeld set).eachStand recompute

/-- R92: the supervisor has removed a train's request; the POWER reason follows from the notice. -/
def requestRemoved (train : Nat) (st : SectState) (low : Bool) (s : State) : State :=
  match s.slotOf train with
  | none => s
  | some i =>
    match s.stand? i with
    | none => s
    | some x => s.holdChange i (s.isHeld i x) { x with power := !(st == .live && !low) }

/-- R91: TRAIN_HOLD's change. -/
def State.holdTrain (slot : Nat) (s : State) : State :=
  match s.stand? slot with
  | none => s.setHostHold slot true
  | some st => (s.setHostHold slot true).holdChange slot (s.isHeld slot st) st

/-- R91: TRAIN_UNHOLD's change; with neither HOST nor FIELD set it changes nothing. -/
def State.unholdTrain (slot : Nat) (s : State) : State :=
  match s.stand? slot with
  | none => s.setHostHold slot false
  | some st =>
    if s.hostHeld slot || st.field then
      (s.setHostHold slot false).holdChange slot (s.isHeld slot st) { st with field := false, relFails := 0 }
    else s

/-- R91: the four hold reasons of a train as a set byte. -/
def State.holdsOf (s : State) (slot : Nat) : Nat :=
  match s.stand? slot with
  | none => holdBits (s.hostHeld slot) false false false
  | some st => holdBits (s.hostHeld slot) st.field st.incident st.power

/-! ### Planning a stand (R94, R98) -/

/-- R90: a stand record as it is made, with its derived reasons. -/
def State.newStand (s : State) (stop : Nat) : Stand :=
  s.derivedReasons
    { stop := stop, el := (s.platformOf stop).getD 0, sect := (s.departureSect stop).getD 0, phase := none,
      field := false, incident := false, power := false, plan := none, permit := .none, order := .none,
      relFails := 0, revokeFailed := false, earlier := [] }

/-- R94, R66: the entry a tentative arrival is planned with: the one of its current trip at the stop, unbound. -/
def State.lookedUp (s : State) (t : Train) (stop : Nat) : Option Matched :=
  (t.trip.bind (fun trip => s.ttLookup trip stop)).map TtEntry.matched

/-- The arrival time of a train at its stop. -/
def Train.arrivedAt (t : Train) : Nat := (t.arr.map (·.time)).getD 0

/-- R94: the stand of a train that has just arrived tentatively. -/
def State.tentativeStand (s : State) (t : Train) (stop : Nat) : Stand :=
  match s.lds.service with
  | .inService =>
    { s.newStand stop with phase := some .planning, plan := some (s.plan stop t.arrivedAt (s.lookedUp t stop)) }
  | .suspended => { s.newStand stop with phase := some .noRegulation }
  | _ => s.newStand stop

/-- R94: a tentative arrival. -/
def standTentative (slot : Nat) (s : State) : State :=
  match s.train? slot with
  | none => s
  | some t =>
    match t.stop with
    | none => s
    | some k => s.putStand slot (s.tentativeStand t k)

/-- R94: a tentative arrival is withdrawn. -/
def standWithdrawn (slot : Nat) (s : State) : State := s.setStand slot none

/-- R98: the DWELL that the platform order of a stand stands for. -/
def PlatformOrder.dwells : PlatformOrder → List Nat
  | .dwell tok => [tok]
  | _ => []

/-- R98: the stand dwells by its plan: DWELL is issued, and T_dep is judged at once (log entry 19). The outcome of a DWELL
that is in flight since before a SUSPEND or an END is awaited beside it (log entry 20). -/
def State.startDwelling (slot train : Nat) (st : Stand) (pl : Plan) (s : State) : State :=
  ((s.putStand slot
    { st with phase := some .dwelling, plan := some pl, order := .dwell s.nextToken,
              earlier := st.earlier ++ st.order.dwells }).issueOrder
    st.el (.dwell train pl.tDep pl.dwell)).post (.due slot)

/-- R94: the confirmed arrival of a train at the stop of a stand. -/
def State.arrivedStand (slot : Nat) (t : Train) (st : Stand) (s : State) : State :=
  match s.lds.service with
  | .inService =>
    if t.terminating then s.putStand slot { st with phase := some .terminating, plan := none }
    else s.startDwelling slot t.id st (s.plan st.stop t.arrivedAt t.entry)
  | .suspended => s.putStand slot { st with phase := some .noRegulation }
  | _ => s.putStand slot st

/-- R94: a confirmed arrival, with the stand of its tentative arrival or a fresh one. -/
def standArrived (slot : Nat) (s : State) : State :=
  match s.train? slot with
  | none => s
  | some t =>
    match t.stop with
    | none => s
    | some k => s.arrivedStand slot t ((s.stand? slot).getD (s.newStand k))

/-- R98: whether T_dep is reached at a line time. -/
def Plan.reached (p : Plan) (time : Nat) : Bool := decide (p.tDep ≤ time) || time == Config.lastLineTime

/-- R98: a DWELLING stand whose T_dep is reached becomes HELD or requests a permit. -/
def due (slot : Nat) (s : State) : State :=
  match s.stand? slot with
  | none => s
  | some st =>
    match st.phase, st.plan with
    | some .dwelling, some p =>
      if p.reached s.clock.time then
        if s.isHeld slot st then s.putStand slot { st with phase := some .held } else s.requestPermit slot st
      else s
    | _, _ => s

/-! ### Grants and outcomes (R98 to R103) -/

/-- R99, step 4: RELEASE is issued to the stand's platform. -/
def State.issueRelease (slot level : Nat) (st : Stand) (s : State) : State :=
  (s.putStand slot { st with order := .release s.nextToken }).issueOrder st.el (.release (s.idOf slot) level)

/-- R99: a grant taken by a stand in WAITING_PERMIT, at line time `t`. -/
def State.takeGrant (slot train t : Nat) (st : Stand) (s : State) : State :=
  let level := runLevel (s.runBounds st.stop) (st.plan.bind (·.p)) (st.plan.bind (·.rp)) t
  let st1 := { st with permit := .granted level, phase := some .released }
  let told := s.post (.permitGiven train level)
  match st.order with
  | .none => told.issueRelease slot level st1
  | .dwell tok => told.putStand slot { st1 with order := .releaseWaiting tok }
  | _ => told.putStand slot st1

/-- R99: the supervisor has granted a train its permit. -/
def granted (train t : Nat) (s : State) : State :=
  match s.slotOf train with
  | none => s.posts (returnPermit train)
  | some i =>
    match s.stand? i with
    | none => s.posts (returnPermit train)
    | some st =>
      if st.phase = some .waitingPermit then s.takeGrant i train t st else s.posts (returnPermit train)

/-- The order a stand awaits the outcome of. -/
def PlatformOrder.token : PlatformOrder → Option Nat
  | .none => Option.none
  | .dwell t => some t
  | .releaseWaiting t => some t
  | .release t => some t
  | .revoke t => some t

/-- R104, R105: the slot whose stand awaits an order; an outcome that no stand awaits is ignored. -/
def State.awaiting (s : State) (token : Nat) : Option Nat :=
  s.rgl.stands.findIdx? (fun st => st.any (fun st => st.order.token == some token))

/-- R98: DWELL_ORDER_FAILED. -/
def dwellReport (train stop : Nat) (r : Result) : List Notice :=
  match r with
  | .complete => []
  | .already => []
  | .superseded => []
  | _ => [.report .dwellOrderFailed (some (.train train)) (some r.code) (some stop)]

/-- R98: the outcome of a DWELL; a waiting release is then sent. -/
def State.dwellOutcome (slot : Nat) (st : Stand) (r : Result) (s : State) : State :=
  let s1 := s.posts (dwellReport (s.idOf slot) st.stop r)
  match st.order, st.permit with
  | .releaseWaiting _, .granted level =>
    if st.phase = some .released then s1.issueRelease slot level st
    else s1.putStand slot { st with order := .none }
  | _, _ => s1.putStand slot { st with order := .none }

/-- R100: where a stand goes after a release failure: a new request, HELD, or NO_REGULATION in SUSPENDED (R107). -/
def State.afterFailure (slot : Nat) (st : Stand) (s : State) : State :=
  if s.lds.service = .suspended then s.putStand slot { st with phase := some .noRegulation }
  else if s.isHeld slot st then s.putStand slot { st with phase := some .held }
  else s.requestPermit slot st

/-- R100: a release failure. -/
def State.releaseFailure (slot : Nat) (st : Stand) (r : Result) (s : State) : State :=
  let n := st.relFails + 1
  let st' := { st with permit := .none, order := .none, relFails := n, field := st.field || decide (2 ≤ n) }
  (s.posts (returnPermit (s.idOf slot) ++
    [.report .releaseFailed (some (.train (s.idOf slot))) (some r.code) (some n)])).afterFailure slot st'

/-- R100: the outcome of a RELEASE. -/
def State.releaseOutcome (slot : Nat) (st : Stand) (r : Result) (s : State) : State :=
  match r with
  | .complete => s.putStand slot { st with order := .none, relFails := 0 }
  | .already => s.putStand slot { st with order := .none, relFails := 0 }
  | .superseded => s
  | _ => s.releaseFailure slot st r

/-- R102, R107: a REVOKE that reached its target. -/
def State.revokeReached (slot : Nat) (st : Stand) (s : State) : State :=
  let st' := { st with permit := .none, order := .none }
  (s.posts (returnPermit (s.idOf slot))).afterFailure slot st'

/-- R102, R103: the outcome of a REVOKE. -/
def State.revokeOutcome (slot : Nat) (st : Stand) (r : Result) (s : State) : State :=
  if r.reached then s.revokeReached slot st
  else (s.putStand slot { st with revokeFailed := true, order := .none }).post (.raise .orderFailure st.el)

/-- R98: the slot whose stand awaits a DWELL that a later one has followed. -/
def State.awaitingEarlier (s : State) (token : Nat) : Option Nat :=
  s.rgl.stands.findIdx? (fun st => st.any (fun st => st.earlier.contains token))

/-- R98: the outcome of a DWELL that a later one has followed: it is reported, and the platform order has already moved
on. -/
def State.earlierOutcome (o : OutcomeMsg) (s : State) : State :=
  match s.awaitingEarlier o.token with
  | none => s
  | some i =>
    match s.stand? i with
    | none => s
    | some st =>
      (s.posts (dwellReport (s.idOf i) st.stop o.result)).putStand i
        { st with earlier := st.earlier.filter (fun t => t != o.token) }

/-- R98, R100, R102, R103: the outcome of a platform order. -/
def State.platformOutcome (o : OutcomeMsg) (s : State) : State :=
  match s.awaiting o.token with
  | none => s.earlierOutcome o
  | some i =>
    match s.stand? i with
    | none => s
    | some st =>
      match st.order with
      | .none => s
      | .dwell _ => s.dwellOutcome i st o.result
      | .releaseWaiting _ => s.dwellOutcome i st o.result
      | .release _ => s.releaseOutcome i st o.result
      | .revoke _ => s.revokeOutcome i st o.result

/-! ### The end of a stand (R104, R105) -/

/-- R108: a notice's minutes. -/
def delayMinutes (late : Int) : Nat := min 99 ((late.toNat + 59) / 60)

/-- R108: the delay notices a departure writes or withdraws. -/
def State.delayNotices (s : State) (train : Nat) (late : Option Int) (trip p : Option Nat) : List Notice :=
  match late, s.rgl.threshold with
  | some l, some th =>
    if !s.lds.service.active then []
    else if (th : Int) ≤ l then
      (s.delayTargets late trip p).map
        (fun k => .delayWrite k { text := s.params.delayText, minutes := delayMinutes l, train := train })
    else if l < (th / 2 : Nat) then [.delayWithdraw train]
    else []
  | _, _ => []

/-- R104, step 1: what a departure does by the stand's phase. -/
def State.departByPhase (s : State) (slot train : Nat) (st : Stand) : List Notice :=
  match st.phase with
  | some .waitingPermit => [.permitWithdraw train]
  | some .released =>
    match st.order with
    | .revoke _ => [.report .holdTooLate (some (.train train)) (some st.stop) (some (s.holdsOf slot))]
    | _ => []
  | _ => []

/-- R104: a confirmed departure ends the stand. -/
def standDeparted (slot train : Nat) (late : Option Int) (trip p : Option Nat) (s : State) : State :=
  (s.setStand slot none).posts
    ((match s.stand? slot with
      | some st => s.departByPhase slot train st
      | none => []) ++ s.delayNotices train late trip p)

/-- R105: a waiting request is withdrawn, or a granted permit returned. -/
def Stand.giveBack (st : Stand) (train : Nat) : List Notice :=
  match st.permit with
  | .none => []
  | .requested => [.permitWithdraw train]
  | .granted _ => returnPermit train

/-- R105: a stand ends without a departure. -/
def State.endStandRecord (slot train : Nat) (s : State) : State :=
  match s.stand? slot with
  | none => s
  | some st => (s.setStand slot none).posts (st.giveBack train)

/-- R105: a position jump. -/
def standEnded (slot : Nat) (s : State) : State := s.endStandRecord slot (s.idOf slot)

/-- R105: TRAIN_REMOVE. -/
def trainGone (slot train : Nat) (s : State) : State :=
  ((s.endStandRecord slot train).setHostHold slot false).post (.delayWithdraw train)

/-! ### Service actions (R106, R107) -/

/-- R106: a stand as START finds it: a permit kept at END is returned, and the reasons are recomputed. -/
def State.freshStart (s : State) (st : Stand) : Stand :=
  match st.permit with
  | .granted _ =>
    { s.derivedReasons st with permit := .none, order := .none, relFails := 0, revokeFailed := false,
                               earlier := [] }
  | _ => s.derivedReasons st

/-- R106: a standing train is planned at START or RESUME, T_dep raised to the present line time. -/
def State.planStanding (slot : Nat) (t : Train) (st : Stand) (s : State) : State :=
  if t.arr.any (·.tentative) then
    s.putStand slot { st with
      phase := some .planning,
      plan := some ((s.plan st.stop t.arrivedAt (s.lookedUp t st.stop)).raised s.clock.time) }
  else if t.terminating then s.putStand slot { st with phase := some .terminating, plan := none }
  else s.startDwelling slot t.id st ((s.plan st.stop t.arrivedAt t.entry).raised s.clock.time)

/-- R106: SERVICE START. -/
def startStand (slot : Nat) (s : State) : State :=
  match s.stand? slot, s.train? slot with
  | some st, some t =>
    State.planStanding slot t (s.freshStart st)
      (match st.permit with
        | .granted _ => s.posts (returnPermit t.id)
        | _ => s)
  | _, _ => s

/-- R106: SERVICE RESUME. -/
def resumeStand (slot : Nat) (s : State) : State :=
  match s.stand? slot, s.train? slot with
  | some st, some t =>
    if t.arr.any (·.tentative) || t.terminating || st.phase == some .noRegulation then s.planStanding slot t st
    else s
  | _, _ => s

/-- R107: a waiting release dropped, or an issued order left as it stands. -/
def PlatformOrder.dropWaiting : PlatformOrder → PlatformOrder
  | .releaseWaiting tok => .dwell tok
  | o => o

/-- Whether the release of a RELEASED stand is still waiting to be sent. -/
def PlatformOrder.isWaiting : PlatformOrder → Bool
  | .releaseWaiting _ => true
  | _ => false

/-- R107: a stand that gives up its permit or its request and goes on to `phase`. -/
def State.standDown (slot : Nat) (st : Stand) (phase : Option Phase) (s : State) : State :=
  (s.putStand slot { st with phase := phase, permit := .none, order := st.order.dropWaiting }).posts
    (st.giveBack (s.idOf slot))

/-- R107: SERVICE SUSPEND. A DWELL in flight of a DWELLING stand runs on and its outcome is ignored; one still awaited in
another phase has its outcome taken as R98 gives (log entry 20). -/
def suspendStand (slot : Nat) (s : State) : State :=
  match s.stand? slot with
  | none => s
  | some st =>
    match st.phase with
    | some .dwelling => s.putStand slot { st with phase := some .noRegulation, order := .none, earlier := [] }
    | some .waitingPermit => s.standDown slot st (some .noRegulation)
    | some .released => if st.order.isWaiting then s.standDown slot st (some .noRegulation) else s
    | some .held => s.putStand slot { st with phase := some .noRegulation }
    | _ => s

/-- R107: SERVICE END. The permit of a stand whose RELEASE is issued is kept, and its outcomes are ignored; a DWELL still
awaited in another phase has its outcome taken as R98 gives (log entry 20). -/
def endStand (slot : Nat) (s : State) : State :=
  match s.stand? slot with
  | none => s
  | some st =>
    match st.phase with
    | some .planning => s.putStand slot { st with phase := none, plan := none }
    | some .waitingPermit => s.standDown slot st none
    | some .released =>
      if st.order.isWaiting then s.standDown slot st none
      else s.putStand slot { st with phase := none, order := .none, earlier := [] }
    | _ => s.putStand slot { st with phase := none }

/-! ### Working values (R90, R109) -/

/-- R109: the working values are replaced. -/
def State.setWorking (beta threshold : Nat) (s : State) : State :=
  { s with rgl := { s.rgl with beta := some beta, threshold := some threshold } }

end Sys2Proof.Machine
end

