-- ==== Sys2Proof/Machine/TrainRequests.lean ====
section
/-! DEFINITION. The requests of the train register and the regulator: TRAIN_ADD, TRAIN_ASSIGN, TRAIN_REMOVE, TRAIN_HOLD,
TRAIN_UNHOLD, TRAIN_QUERY and REG_SET (05, 06). -/
namespace Sys2Proof.Machine

/-- R186: a direction byte. -/
def directionByte (n : Nat) : Option Direction :=
  match n with
  | 0 => some .up
  | 1 => some .down
  | _ => none

/-- R86: the lowest free slot takes the train, and the supervisor its load notice. -/
def State.addTrain (tag : Byte) (slot : Nat) (t : Train) (s : State) : State :=
  (s.setTrainLoad slot t).post (.answer tag (.done (u8 slot)))

/-- R86: TRAIN_ADD. -/
def reqTrainAdd (tag : Byte) (d : List Byte) (s : State) : State :=
  if d.length ≠ 5 then s.refuse tag .badLength
  else if s.lds.service = .unconfigured then s.refuse tag .wrongState
  else
    match directionByte (at8 d 2) with
    | none => s.refuse tag .badValue
    | some dir =>
      if !inRange 1 999 (at16 d 0) || decide (9999 < at16 d 3) then s.refuse tag .badValue
      else if (s.slotOf (at16 d 0)).isSome then s.refuse tag (.duplicate none)
      else
        match s.freeSlot with
        | none => s.refuse tag (.tableFull none)
        | some slot =>
          s.addTrain tag slot (Train.fresh (at16 d 0) dir (if at16 d 3 = 0 then none else some (at16 d 3)))

/-- R87: a trip joins a train: CURRENT, FOLLOWING or a refusal. -/
def State.assignTrip (tag : Byte) (slot : Nat) (t : Train) (trip : Nat) (s : State) : State :=
  if t.trip = some trip ∨ t.following.contains trip = true then s.refuse tag (.duplicate none)
  else
    match t.trip with
    | none => (s.setTrain slot { t with trip := some trip }).done tag (u8 0)
    | some _ =>
      if t.following.length < 2 then
        (s.setTrain slot { t with following := t.following ++ [trip] }).done tag (u8 1)
      else s.refuse tag (.tableFull none)

/-- R87: TRAIN_ASSIGN. -/
def reqTrainAssign (tag : Byte) (d : List Byte) (s : State) : State :=
  if d.length ≠ 4 then s.refuse tag .badLength
  else if s.lds.service = .unconfigured then s.refuse tag .wrongState
  else if !inRange 1 999 (at16 d 0) || !inRange 1 9999 (at16 d 2) then s.refuse tag .badValue
  else
    match s.slotOf (at16 d 0) with
    | none => s.refuse tag .notFound
    | some i =>
      match s.train? i with
      | none => s.refuse tag .notFound
      | some t => s.assignTrip tag i t (at16 d 2)

/-- R88, R91: the checks of a request that names a train alone, and the slot it names. -/
def State.withTrain (tag : Byte) (d : List Byte) (s : State) (act : Nat → State) : State :=
  if d.length ≠ 2 then s.refuse tag .badLength
  else if s.lds.service = .unconfigured then s.refuse tag .wrongState
  else if !inRange 1 999 (at16 d 0) then s.refuse tag .badValue
  else
    match s.slotOf (at16 d 0) with
    | none => s.refuse tag .notFound
    | some i => act i

/-- R88: TRAIN_REMOVE. -/
def reqTrainRemove (tag : Byte) (d : List Byte) (s : State) : State :=
  s.withTrain tag d fun i =>
    match s.train? i with
    | none => s.refuse tag .notFound
    | some t => (s.removeTrain i t).post (.answer tag (.done []))

/-- R91: TRAIN_HOLD. -/
def reqTrainHold (tag : Byte) (d : List Byte) (s : State) : State :=
  s.withTrain tag d fun i => (s.holdTrain i).post (.answer tag (.holds (at16 d 0)))

/-- R91: TRAIN_UNHOLD. -/
def reqTrainUnhold (tag : Byte) (d : List Byte) (s : State) : State :=
  s.withTrain tag d fun i => (s.unholdTrain i).post (.answer tag (.holds (at16 d 0)))

/-- R109: the working values in a reply; β takes one byte and the threshold, as R186 has it, two (log entry 16). -/
def State.workingBytes (s : State) : List Byte := u8 (s.rgl.beta.getD 0) ++ u16 (s.rgl.threshold.getD 0)

/-- R109: REG_SET. -/
def reqRegSet (tag : Byte) (d : List Byte) (s : State) : State :=
  if d.length ≠ 3 then s.refuse tag .badLength
  else if 8 < at8 d 0 ∨ inRange 60 900 (at16 d 1) = false then s.refuse tag .badValue
  else (s.setWorking (at8 d 0) (at16 d 1)).done tag (s.setWorking (at8 d 0) (at16 d 1)).workingBytes

/-! ### TRAIN_QUERY (R89) -/

def Direction.code : Direction → Nat
  | .up => 0 | .down => 1

/-- Section 11.6, "Position state". -/
def Position.code : Position → Nat
  | .unlocated => 1 | .atStop => 2 | .running => 3 | .turning => 4

/-- Section 11.6, "Load phase". -/
def LoadPhase.code : LoadPhase → Nat
  | .aux => 0 | .starting => 1 | .run => 2

/-- A line time with its tentative flag, or absent. -/
def stampBytes (x : Option Stamp) : List Byte := opt24 (x.map (·.time)) ++ flag8 (x.any (·.tentative))

/-- The matched entry with its LAST mark, or absent. -/
def matchedBytes : Option Matched → List Byte
  | none => u8 0 ++ u24 0 ++ u16 0 ++ u16 0 ++ u8 0
  | some m => u8 1 ++ u24 m.p ++ u16 m.w ++ optId m.rp ++ flag8 m.rp.isNone

/-- R90: a plan, or 38 bytes of 0. R186's table gives no width for H_plan, Δ and the times of a plan it does not name: the
model sends H_plan in two bytes, as H_nom in LD_PARAMS, Δ plus 0x800000 in three, and the times, as line times, in three
(log entry 16). -/
def planBytes : Option Plan → List Byte
  | none => List.replicate 38 0#8
  | some p =>
    u8 1 ++ u24 p.a ++ opt24 p.p ++ u16 p.w ++ optId p.rp ++ opt24 p.pPrev ++ opt24 p.dPrev ++
    u16 (lateCode p.lateness) ++ u24 p.tSched ++ u16 p.hPlan ++ u24 p.tHead ++ u24 (p.delta + 0x800000).toNat ++
    u24 p.tTgt.toNat ++ u16 p.dwell ++ u24 p.tDep

/-- R89: whether an applied tentative event of a train stands. -/
def State.hasApplied (s : State) (train : Nat) : Bool :=
  s.reg.tentative.any (fun x => x.any (fun x => x.train == train && x.status == .applied))

/-- R89: the regulator's part: phase, 0 for none (log entry 16), hold reasons and plan. Section 11.6 codes the permit of a
stand too, and no rule names a reply that carries it: the model sends it in none (log entry 44). -/
def State.standBytes (s : State) (slot : Nat) : List Byte :=
  u8 ((((s.stand? slot).bind (·.phase)).map Phase.code).getD 0) ++ u8 (s.holdsOf slot) ++
  planBytes ((s.stand? slot).bind (·.plan))

/-- R89: every field of a train's record, in the order of R72. The start window's deadline, a moment of the tick, is carried
as the milliseconds from now to it, and the run level takes one byte (log entry 16). -/
def State.trainBytes (s : State) (slot : Nat) (t : Train) : List Byte :=
  u16 t.id ++ u8 t.dir.code ++ u8 t.pos.code ++ opt8 t.stop ++ optId t.trip ++ matchedBytes t.entry ++
  u8 t.following.length ++ t.following.flatMap u16 ++ stampBytes t.arr ++ stampBytes t.dep ++
  u16 (lateCode t.arrLate) ++ opt16 (t.depLate.map lateCode) ++ flag8 t.terminating ++ flag8 t.permit ++
  u8 t.phase.code ++ u8 t.level ++ opt24 (t.startDeadline.map (fun x => x - s.tick)) ++
  flag8 (s.hasApplied t.id) ++ s.standBytes slot

/-- R89: a slot's answer; OUT_OF_SERVICE is answered with that state alone. -/
def State.slotAnswer (tag : Byte) (slot : Nat) (s : State) : State :=
  match s.train? slot with
  | none => s.done tag (u8 0)
  | some t => s.done tag (s.trainBytes slot t)

/-- R89: TRAIN_QUERY. -/
def reqTrainQuery (tag : Byte) (d : List Byte) (s : State) : State :=
  let n := at16 d 1
  if d.length ≠ 3 then s.refuse tag .badLength
  else if s.lds.service = .unconfigured then s.refuse tag .wrongState
  else if at8 d 0 = 0 then
    if inRange 1 999 n then
      match s.slotOf n with
      | none => s.refuse tag .notFound
      | some i => s.slotAnswer tag i
    else s.refuse tag .badValue
  else if at8 d 0 = 1 then
    if n < Config.trainSlots then s.slotAnswer tag n else s.refuse tag .badValue
  else s.refuse tag .badValue

end Sys2Proof.Machine
end

