-- ==== Sys2Proof/Machine/Description.lean ====
section
/-! DEFINITION. The line description (01): the eight table messages with their ranges, the checks of LD_COMMIT, the
building of every block's records, and the withdrawal. -/
namespace Sys2Proof.Machine

/-! ### The table messages (R3 to R10, R186) -/

/-- R3: one station of LD_STATIONS from place `i`. -/
def readStation (d : List Byte) (i : Nat) : StationRow :=
  { sect := at8 d i, up := at8 d (i + 1), down := at8 d (i + 2), display := atOpt8 d (i + 3) }

def readStations (d : List Byte) : List StationRow := (List.range (at8 d 0)).map (fun j => readStation d (1 + 4 * j))

/-- R3. -/
def stationsOk (l : List StationRow) : Bool :=
  inRange 2 Config.maxStations l.length && l.all (fun r => decide (r.sect < Config.maxSections))

/-- R4: one run of LD_RUNS from place `i`. -/
def readRun (d : List Byte) (i : Nat) : RunRow :=
  { sect := at8 d i, upMin := at16 d (i + 1), upMax := at16 d (i + 3), downMin := at16 d (i + 5),
    downMax := at16 d (i + 7) }

def readRuns (d : List Byte) : List RunRow := (List.range (at8 d 0)).map (fun j => readRun d (1 + 9 * j))

/-- R4. -/
def runsOk (l : List RunRow) : Bool :=
  inRange 1 31 l.length && l.all (fun r => decide (r.sect < Config.maxSections) && inRange 20 900 r.upMin &&
    inRange 20 900 r.upMax && inRange 20 900 r.downMin && inRange 20 900 r.downMax)

/-- R5: one section of LD_SECTIONS from place `i`; feeder places beyond the count are not read, and 0xFF in one within it is
element 255 (log entry 43). -/
def readSection (d : List Byte) (i : Nat) : SectionRow :=
  { feeders := (atList8 d (i + 1) 2).take (at8 d i), precharge := at8 d (i + 3), chargeCheck := hasBit (at8 d (i + 4)) 0,
    underCheck := hasBit (at8 d (i + 4)) 1, source := (atOpt8 d (i + 5)).map (fun m => (m, at8 d (i + 6))) }

/-- R5, R186: the ranges of one section from place `i`; the channel is judged where the meter is present. -/
def sectionOk (d : List Byte) (i : Nat) : Bool :=
  decide (at8 d i ≤ 2) && inRange 1 10 (at8 d (i + 3)) && decide (at8 d (i + 4) < 4) &&
  ((atOpt8 d (i + 5)).isNone || decide (at8 d (i + 6) < 4))

/-- R5: how many pairs `n` sections make. -/
def pairCount (n : Nat) : Nat := (n + 1) / 2

/-- R5: one pair of LD_SECTIONS from place `i`. -/
def readPair (d : List Byte) (i : Nat) : PairRow :=
  { tie := atOpt8 d i, mode := (pairModeOf (at8 d (i + 1))).getD .independent }

def readSections (d : List Byte) : SectionsTable :=
  { sects := (List.range (at8 d 0)).map (fun j => readSection d (1 + 7 * j))
    pairs := (List.range (pairCount (at8 d 0))).map (fun m => readPair d (1 + 7 * at8 d 0 + 2 * m)) }

/-- R5. -/
def sectionsOk (d : List Byte) : Bool :=
  inRange 1 Config.maxSections (at8 d 0) && (List.range (at8 d 0)).all (fun j => sectionOk d (1 + 7 * j)) &&
  (List.range (pairCount (at8 d 0))).all (fun m => (pairModeOf (at8 d (1 + 7 * at8 d 0 + 2 * m + 1))).isSome)

/-- R6: one substation of LD_SUBSTATIONS from place `i`; feeder places beyond the count are not read, and 0xFF in one within
it is element 255 (log entry 43). -/
def readSubstation (d : List Byte) (i : Nat) : SubstationRow :=
  { capacity := at16 d i, meter := at8 d (i + 2), feeders := (atList8 d (i + 4) 8).take (at8 d (i + 3)) }

def readSubstations (d : List Byte) : List SubstationRow :=
  (List.range (at8 d 0)).map (fun j => readSubstation d (1 + 12 * j))

/-- R6. -/
def substationsOk (d : List Byte) : Bool :=
  inRange 1 Config.maxSubstations (at8 d 0) &&
  (List.range (at8 d 0)).all (fun j => inRange 10 400 (at16 d (1 + 12 * j)) && inRange 1 8 (at8 d (1 + 12 * j + 3)))

/-- R7: one element of LD_ELEMENTS from place `i`. -/
def readElement (d : List Byte) (i : Nat) : ElementRow :=
  { kind := (elemKindOf (at8 d i)).getD none, link := at8 d (i + 1), addr := at8 d (i + 2) }

def readElements (d : List Byte) : List ElementRow := (List.range (at16 d 0)).map (fun j => readElement d (2 + 3 * j))

/-- R7: the ranges of one element from place `i`; an UNUSED entry's link and address are not judged. -/
def elementOk (d : List Byte) (i : Nat) : Bool :=
  match elemKindOf (at8 d i) with
  | none => false
  | some none => true
  | some (some _) => decide (at8 d (i + 1) < Config.linkCount) && inRange 1 254 (at8 d (i + 2))

/-- R7. -/
def elementsOk (d : List Byte) : Bool :=
  inRange 1 Config.maxElements (at16 d 0) && (List.range (at16 d 0)).all (fun j => elementOk d (2 + 3 * j))

/-- R8: one link of LD_LINKS from place `i`. -/
def readLink (d : List Byte) (i : Nat) : Option LinkCfg :=
  if at8 d i = 1 then some { rate := at8 d (i + 1), timeout := at16 d (i + 2), level := at8 d (i + 4) } else none

def readLinks (d : List Byte) : List (Option LinkCfg) :=
  (List.range Config.linkCount).map (fun j => readLink d (5 * j))

/-- R8: the ranges of one link from place `i`; the fields of an unused link are not judged. -/
def linkOk (d : List Byte) (i : Nat) : Bool :=
  at8 d i == 0 ||
  (at8 d i == 1 && decide (at8 d (i + 1) ≤ 4) && inRange 100 2000 (at16 d (i + 2)) &&
   [4, 8, 12, 14].contains (at8 d (i + 4)))

/-- R8. -/
def linksOk (d : List Byte) : Bool := (List.range Config.linkCount).all (fun j => linkOk d (5 * j))

/-- R9: the lists of `n` zones and what is left of the data; none when the data is too short. -/
def readZones : Nat → List Byte → Option (List (List Nat) × List Byte)
  | 0, d => some ([], d)
  | _ + 1, [] => none
  | n + 1, c :: d =>
    if d.length < c.toNat then none
    else (readZones n (d.drop c.toNat)).map (fun x => ((d.take c.toNat).map (·.toNat) :: x.1, x.2))

/-- R9: the zones of a message whose length matches its counts. -/
def zonesOf (d : List Byte) : Option (List (List Nat)) :=
  match d with
  | [] => none
  | z :: rest =>
    match readZones z.toNat rest with
    | some (l, []) => some l
    | _ => none

/-- R9. -/
def zonesOk (l : List (List Nat)) : Bool :=
  inRange 1 Config.maxZones l.length &&
  l.all (fun z => decide (z.length ≤ 32) && z.all (fun i => decide (i < Config.maxStations)))

/-- R10: the parameters of LD_PARAMS. -/
def readParams (d : List Byte) : Params :=
  { wMin := at16 d 0, wMax := at16 d 2, wDefault := at16 d 4, beta := at8 d 6, hNom := at16 d 7, threshold := at16 d 9,
    stopsAhead := at8 d 11, delayText := at16 d 12, startWindow := at16 d 14, startLoad := at16 d 16,
    runLoad := [at16 d 18, at16 d 20, at16 d 22, at16 d 24], auxLoad := at16 d 26, permitWait := at16 d 28,
    stale := at16 d 30, nominal := at16 d 32, breakerExec := at16 d 34, platformExec := at16 d 36,
    displayExec := at16 d 38, autoTexts := (List.range 8).map (fun j => at16 d (40 + 2 * j)) }

/-- R10: each level's load is not above that of the level before it. -/
def notRising : List Nat → Bool
  | a :: b :: rest => decide (b ≤ a) && notRising (b :: rest)
  | _ => true

/-- R10: the ranges and the relations between the parameters. -/
def Params.ok (p : Params) : Bool :=
  inRange 10 60 p.wMin && inRange 30 300 p.wMax && decide (p.wMin ≤ p.wMax) && inRange p.wMin p.wMax p.wDefault &&
  decide (p.beta ≤ 8) && inRange 60 900 p.hNom && inRange 60 900 p.threshold && inRange 1 4 p.stopsAhead &&
  inRange 1 1023 p.delayText && inRange 5 60 p.startWindow && inRange 5 60 p.startLoad &&
  p.runLoad.all (fun x => decide (x ≤ 40)) && notRising p.runLoad && decide (p.auxLoad ≤ 10) &&
  inRange 30 600 p.permitWait && inRange 300 3600 p.stale && inRange 600 1500 p.nominal &&
  inRange 1 20 p.breakerExec && inRange 1 5 p.platformExec && inRange 1 30 p.displayExec &&
  p.autoTexts.all (fun x => decide (x ≤ 1023))

/-! ### Withdrawal (R12, R22, R26, R36) -/

/-- R22: a telegram being assembled joins the receive queue as FRAGMENT. The queue and the flags are emptied by the same
event (R36), so the host port sees no cause in them (R12, R182). -/
def State.abandonLine (i : Nat) (s : State) : State :=
  match s.links[i]? with
  | none => s
  | some l =>
    match l.asm with
    | .busy _ _ _ _ => s.rxAnnotate i .fragment
    | .hunting => s

/-- R12, R36: a link becomes DISABLED with everything emptied but its carrier, and reports it. -/
def State.disableLink (i : Nat) (s : State) : State :=
  match s.links[i]? with
  | none => s
  | some l =>
    if l.state = .disabled then s
    else
      ((s.abandonLine i).setLink i (LinkRec.reset l.carrier)).report .linkState (some (.link i)) (some l.state.code)
        (some LinkState.disabled.code)

/-- SERVICE_STATE (R11, R12, R13). -/
def State.serviceReport (old new : ServiceState) (s : State) : State :=
  s.report .serviceState none (some old.code) (some new.code)

/-- R12: what every block but the links drops. -/
def State.dropBuilt (s : State) : State :=
  { s with mirror := [], window := Window.empty, reg := Register.empty,
           rgl := Regulator.cleared s.rgl.beta s.rgl.threshold 0, tsv := Supervisor.empty,
           inc := IncidentMgr.cleared s.inc.next, anp := Publisher.cleared s.anp.staging }

/-- R12: the committed description is withdrawn. -/
def State.withdraw (s : State) : State :=
  let s1 := (s.setLds { s.lds with service := .unconfigured, committed := false }).serviceReport s.lds.service
    .unconfigured
  ((List.range Config.linkCount).foldl (fun s i => s.disableLink i) s1).dropBuilt

/-- R1, R2: a table is loaded or replaced and the committed flag is clear; in CONFIGURED the description is
withdrawn. -/
def State.alterStore (tag : Byte) (f : Lds → Lds) (s : State) : State :=
  let s1 := s.setLds { f s.lds with committed := false }
  match s.lds.service with
  | .configured => s1.withdraw.post (.answer tag (.done []))
  | _ => s1.post (.answer tag (.done []))

/-- R2: a table message: its length, the service state, its ranges. -/
def State.tableMessage (tag : Byte) (lengthOk valueOk : Bool) (f : Lds → Lds) (s : State) : State :=
  if !lengthOk then s.refuse tag .badLength
  else if s.lds.service.active then s.refuse tag .wrongState
  else if !valueOk then s.refuse tag .badValue
  else s.alterStore tag f

/-- R1: LD_BEGIN empties the store. -/
def reqLdBegin (tag : Byte) (d : List Byte) (s : State) : State :=
  s.tableMessage tag (d.length == 0) true (fun l => { Lds.empty with service := l.service })

/-- R3. -/
def reqLdStations (tag : Byte) (d : List Byte) (s : State) : State :=
  s.tableMessage tag (d.length != 0 && d.length == 1 + 4 * at8 d 0) (stationsOk (readStations d))
    (fun l => { l with stations := some (readStations d) })

/-- R4. -/
def reqLdRuns (tag : Byte) (d : List Byte) (s : State) : State :=
  s.tableMessage tag (d.length != 0 && d.length == 1 + 9 * at8 d 0) (runsOk (readRuns d))
    (fun l => { l with runs := some (readRuns d) })

/-- R5. -/
def reqLdSections (tag : Byte) (d : List Byte) (s : State) : State :=
  s.tableMessage tag (d.length != 0 && d.length == 1 + 7 * at8 d 0 + 2 * pairCount (at8 d 0)) (sectionsOk d)
    (fun l => { l with sections := some (readSections d) })

/-- R6. -/
def reqLdSubstations (tag : Byte) (d : List Byte) (s : State) : State :=
  s.tableMessage tag (d.length != 0 && d.length == 1 + 12 * at8 d 0) (substationsOk d)
    (fun l => { l with substations := some (readSubstations d) })

/-- R7. -/
def reqLdElements (tag : Byte) (d : List Byte) (s : State) : State :=
  s.tableMessage tag (decide (2 ≤ d.length) && d.length == 2 + 3 * at16 d 0) (elementsOk d)
    (fun l => { l with elements := some (readElements d) })

/-- R8. -/
def reqLdLinks (tag : Byte) (d : List Byte) (s : State) : State :=
  s.tableMessage tag (d.length == 40) (linksOk d) (fun l => { l with links := some (readLinks d) })

/-- R9. -/
def reqLdZones (tag : Byte) (d : List Byte) (s : State) : State :=
  match zonesOf d with
  | none => s.refuse tag .badLength
  | some z => s.tableMessage tag true (zonesOk z) (fun l => { l with zones := some z })

/-- R10. -/
def reqLdParams (tag : Byte) (d : List Byte) (s : State) : State :=
  s.tableMessage tag (d.length == 56) (readParams d).ok (fun l => { l with params := some (readParams d) })

/-! ### The checks of LD_COMMIT (R11) -/

/-- R11, R187: which of the eight tables is absent first, by its code. -/
def Lds.missing (l : Lds) : Option Nat :=
  if l.stations.isNone then some 1
  else if l.runs.isNone then some 2
  else if l.sections.isNone then some 3
  else if l.substations.isNone then some 4
  else if l.elements.isNone then some 5
  else if l.links.isNone then some 6
  else if l.zones.isNone then some 7
  else if l.params.isNone then some 8
  else none

/-- The kind of an element of the Elements table; none beyond its count and for UNUSED. -/
def State.kindOf (s : State) (el : Nat) : Option ElemKind := (s.elemRows[el]?).bind (·.kind)

/-- Whether an element number is below E. -/
def State.elBelow (s : State) (el : Nat) : Bool := decide (el < s.elemRows.length)

/-- R11: an element met a second time: one of `mine` is among `seen`, or earlier in `mine`. -/
def twoRoles (seen mine : List Nat) : Bool := mine.any (fun e => seen.contains e) || !decide mine.Nodup

/-- R11: the roles of a station in the walk: UP platform, DOWN platform, display. -/
def StationRow.roles (r : StationRow) : List Nat := [r.up, r.down] ++ r.display.toList

/-- R11: one station's checks. -/
def State.stationCheck (s : State) (i : Nat) (r : StationRow) : Option Nat :=
  if s.sectCount ≤ r.sect || !r.roles.all s.elBelow then some 2
  else if s.kindOf r.up != some .platform || s.kindOf r.down != some .platform ||
      r.display.any (fun e => s.kindOf e != some .display) then some 3
  else if twoRoles ((s.stations.take i).flatMap StationRow.roles) r.roles then some 4
  else none

/-- R11: one run's checks. -/
def State.runCheck (s : State) (r : RunRow) : Option Nat :=
  if s.sectCount ≤ r.sect then some 2
  else if r.upMax < r.upMin || r.downMax < r.downMin then some 6
  else none

/-- R5, R11: whether a section is the lone section of its pair. -/
def State.isLone (s : State) (i : Nat) : Bool := i % 2 == 0 && i + 1 == s.sectCount

/-- R5: the tie of a section's pair; a lone pair's is ignored. -/
def State.pairTie (s : State) (i : Nat) : Option Nat :=
  if s.isLone i then none else (s.pairRows[i / 2]?).bind (·.tie)

/-- R11: the roles of a section in the walk: its feeders, then the tie of its pair at the even section. -/
def State.sectRoles (s : State) (i : Nat) (r : SectionRow) : List Nat :=
  r.feeders ++ (if i % 2 = 0 then (s.pairTie i).toList else [])

/-- R11: the roles of every section before the `n`th. -/
def State.rolesBefore (s : State) (n : Nat) : List Nat :=
  s.stations.flatMap StationRow.roles ++
  (List.range n).flatMap (fun j => ((s.sectRows[j]?).map (s.sectRoles j)).getD [])

/-- R11: whether a feeder is in some substation's list. -/
def State.supplied (s : State) (el : Nat) : Bool := s.subRows.any (fun r => r.feeders.contains el)

/-- R11: one section's checks. -/
def State.sectionCheck (s : State) (i : Nat) (r : SectionRow) : Option Nat :=
  if r.feeders.isEmpty then some 7
  else if !(r.feeders ++ (s.pairTie i).toList ++ (r.source.map (·.1)).toList).all s.elBelow then some 2
  else if (r.feeders ++ (s.pairTie i).toList).any (fun e => s.kindOf e != some .breaker) ||
      r.source.any (fun x => s.kindOf x.1 != some .meter) then some 3
  else if twoRoles (s.rolesBefore i) (s.sectRoles i r) then some 4
  else if (r.chargeCheck || r.underCheck) && r.source.isNone then some 8
  else if s.isLone i && ((s.pairRows[i / 2]?).any (fun p => p.mode != .independent)) then some 9
  else if r.feeders.any (fun e => !s.supplied e) then some 10
  else none

/-- R11: whether an element is a section feeder. -/
def State.isFeeder (s : State) (el : Nat) : Bool := s.sectRows.any (fun r => r.feeders.contains el)

/-- R11: one substation's checks. -/
def State.substationCheck (s : State) (i : Nat) (r : SubstationRow) : Option Nat :=
  if !s.elBelow r.meter || !r.feeders.all s.elBelow then some 2
  else if s.kindOf r.meter != some .meter || r.feeders.any (fun e => !s.isFeeder e) then some 3
  else if (s.rolesBefore s.sectCount ++ (s.subRows.take i).map (·.meter)).contains r.meter ||
      r.feeders.any (fun e => (s.subRows.take i).any (fun x => x.feeders.contains e)) then some 4
  else none

/-- R11: one element's checks. -/
def State.elementCheck (s : State) (i : Nat) (r : ElementRow) : Option Nat :=
  if r.kind.isNone then none
  else if ((s.linkRows[r.link]?).join).isNone then some 11
  else if (s.elemRows.take i).any (fun x => x.kind.isSome && x.link == r.link && x.addr == r.addr) then some 12
  else none

/-- R11: one zone's checks: the place they name and the check. -/
def State.zoneCheck (s : State) (z : Nat) (l : List Nat) : Option (Nat × Nat) :=
  if l.any (fun i => decide (s.stationCount ≤ i)) then some (z, 2)
  else
    ((List.range s.stationCount).find? (fun i => l.contains i && (s.zones.take z).any (fun x => x.contains i))).map
      (fun i => (i, 13))

/-- R11: a station that no zone lists. -/
def State.noZone (s : State) : Option Nat := (List.range s.stationCount).find? (fun i => (s.zoneOf i).isNone)

/-- The first finding of a table, by ascending index. -/
def firstOf (table : Nat) (rows : List α) (check : Nat → α → Option Nat) : Option RefusalCode :=
  ((rows.mapIdx (fun i r => (check i r).map (fun c => RefusalCode.inconsistent table i c))).findSome? id)

/-- R11: the checks of the Runs table. -/
def State.runsCheck (s : State) : Option RefusalCode :=
  if s.runs.length + 1 ≠ s.stationCount then some (.inconsistent 2 0 5)
  else firstOf 2 s.runs (fun _ r => s.runCheck r)

/-- R11: the checks of the Zones table. -/
def State.zonesCheck (s : State) : Option RefusalCode :=
  match (s.zones.mapIdx s.zoneCheck).findSome? id with
  | some (i, c) => some (.inconsistent 7 i c)
  | none => s.noZone.map (fun i => .inconsistent 7 i 14)

/-- R11: the first offending place of the loaded tables. -/
def State.commitCheck (s : State) : Option RefusalCode :=
  match s.lds.missing with
  | some t => some (.inconsistent t 0 1)
  | none =>
    [firstOf 1 s.stations s.stationCheck, s.runsCheck, firstOf 3 s.sectRows s.sectionCheck,
     firstOf 4 s.subRows s.substationCheck, firstOf 5 s.elemRows s.elementCheck, s.zonesCheck].findSome? id

/-! ### Commit (R11, R36, R37, R90, R110, R111, R150, R152) -/

/-- R36: a used link takes its configuration and becomes UP or DOWN by its carrier. LINK_STATE is reported before LINK_LOSS is
raised (log entry 46). -/
def State.commitLink (s : State) (i : Nat) : State :=
  match s.links[i]?, (s.linkRows[i]?).join with
  | some l, some c =>
    if l.carrier then
      ((s.setLink i { l with cfg := some c, state := .up }).post (linkReport i l.state .up)).pollSweep i
    else (s.setLink i { l with cfg := some c, state := .down }).posts [linkReport i l.state .down, .raise .linkLoss i]
  | _, _ => s

/-- R11: every block but the links builds its records. -/
def State.buildBlocks (s : State) : State :=
  { s with mirror := s.builtMirror, window := s.builtWindow,
           rgl := Regulator.cleared (some s.params.beta) (some s.params.threshold) s.sectCount,
           tsv := s.builtSupervisor, inc := IncidentMgr.cleared s.inc.next, anp := s.builtPublisher }

/-- R112: every section is derived from its breakers as they stand. -/
def State.deriveAll (s : State) : State := s.posts ((List.range s.tsv.sects.length).map .derive)

/-- R11: LD_COMMIT, its checks passed. -/
def State.commit (tag : Byte) (s : State) : State :=
  let s1 := (s.setLds { s.lds with service := .configured, committed := true }).serviceReport .unconfigured .configured
  (((List.range Config.linkCount).foldl State.commitLink s1.buildBlocks).deriveAll).post (.answer tag (.done []))

/-- R11: LD_COMMIT. -/
def reqLdCommit (tag : Byte) (d : List Byte) (s : State) : State :=
  if d.length ≠ 0 then s.refuse tag .badLength
  else
    match s.lds.service with
    | .inService => s.refuse tag .wrongState
    | .suspended => s.refuse tag .wrongState
    | .configured => s.done tag []
    | .unconfigured =>
      match s.commitCheck with
      | some c => s.refuse tag c
      | none => s.commit tag

end Sys2Proof.Machine
end

