-- ==== Sys2Proof/Machine/Service.lean ====
section
/-! DEFINITION. The service states, the line clock, the warm restart and IDENTIFY (01). -/
namespace Sys2Proof.Machine

/-! ### SERVICE (R13) -/

/-- R13: the four actions. -/
inductive ServiceAction where
  | start | suspend | resume | finish
  deriving DecidableEq, Repr

/-- Section 11.4: an action byte. -/
def actionOf (n : Nat) : Option ServiceAction :=
  match n with
  | 1 => some .start
  | 2 => some .suspend
  | 3 => some .resume
  | 4 => some .finish
  | _ => none

/-- R13: the new state of an action, where the table gives a row. -/
def State.serviceAfter (s : State) (a : ServiceAction) : Option ServiceState :=
  match a, s.lds.service with
  | .start, .configured => if s.clock.running then some .inService else none
  | .suspend, .inService => some .suspended
  | .resume, .suspended => some .inService
  | .finish, .inService => some .configured
  | .finish, .suspended => some .configured
  | _, _ => none

/-- R13, R106, R107, R166: the effect at the change. -/
def State.serviceEffect (a : ServiceAction) (s : State) : State :=
  match a with
  | .start => (s.startDisplays.post .pollAll).eachStand startStand
  | .suspend => s.eachStand suspendStand
  | .resume => s.eachStand resumeStand
  | .finish => s.eachStand endStand

/-- R13: an action taken. -/
def State.serviceChange (tag : Byte) (a : ServiceAction) (new : ServiceState) (s : State) : State :=
  (((s.setService new).serviceReport s.lds.service new).serviceEffect a).post (.answer tag (.done []))

/-- R13: an action judged. An action code that names none has no state condition. -/
def reqService (tag : Byte) (d : List Byte) (s : State) : State :=
  if d.length ≠ 1 then s.refuse tag .badLength
  else
    match actionOf (at8 d 0) with
    | none => s.refuse tag .badValue
    | some a =>
      match s.serviceAfter a with
      | none => s.refuse tag .wrongState
      | some new => s.serviceChange tag a new

/-! ### The line clock (R14, R15) -/

/-- R14: SERVICE_DAY_LIMIT is reported once when line time becomes 107,999. -/
def State.limitReport (s : State) : State :=
  if s.clock.time = Config.lastLineTime ∧ s.clock.limitReported = false then
    State.report .serviceDayLimit none none none { s with clock := { s.clock with limitReported := true } }
  else s

/-- R14: a new line time is seen by the regulator and by the timetable window. -/
def State.timeSeen (s : State) : State := s.posts (s.standSlots.map .due ++ [.expire])

/-- R14: line time rises by one. -/
def State.countUp (s : State) : State :=
  let s1 := (s.setTime (s.clock.time + 1)).limitReport
  (if s1.clock.time % 60 = 0 then s1.minuteBoundary else s1).timeSeen

/-- R14: LINE_TIME_COUNT: the present second of counting ends. -/
def State.lineTimeCount (s : State) : State :=
  if s.clock.running then
    let s1 := s.reach s.clock.secondEnd
    let s2 := { s1 with clock := { s1.clock with secondEnd := s1.clock.secondEnd + 1000 } }
    if s2.clock.time < Config.lastLineTime then s2.countUp else s2
  else s

/-- The distance of two line times. -/
def apart (a b : Nat) : Nat := (a - b) + (b - a)

/-- R15: a value taken becomes line time and counting restarts. -/
def State.setClock (t : Nat) (s : State) : State :=
  { s with clock := { time := t, running := true, limitReported := s.clock.limitReported && t == Config.lastLineTime,
                      secondEnd := s.tick + 1000 } }

/-- R15: SET_LINE_TIME. -/
def reqSetLineTime (tag : Byte) (d : List Byte) (s : State) : State :=
  if d.length ≠ 3 then s.refuse tag .badLength
  else if Config.lastLineTime < at24 d 0 then s.refuse tag .badValue
  else if s.lds.service.active ∧ 30 < apart (at24 d 0) s.clock.time then s.refuse tag .clockStep
  else ((s.setClock (at24 d 0)).limitReport.timeSeen).post (.answer tag (.done []))

/-! ### WARM_RESTART (R16, R36, R37, R61, R72, R90, R110, R111, R150, R168, R182) -/

/-- R182: the host port at a warm restart. -/
def HostPort.restarted (h : HostPort) : HostPort := { h with reports := [], flags := Conditions.restart }

/-- R36: a link record at a warm restart, before it moves by its carrier: its configuration and carrier are kept. -/
def LinkRec.restarted (l : LinkRec) : LinkRec := { LinkRec.reset l.carrier with cfg := l.cfg }

/-- R16: every block at its warm restart values. The causes are judged afresh, so that a latched flag whose cause is
found standing is set at once (R182). -/
def State.restartBlocks (s : State) : State :=
  { s with
    lds := { s.lds with service := if s.lds.committed then .configured else .unconfigured }
    links := s.links.map LinkRec.restarted
    mirror := s.mirror.map MirrorEntry.toUnknown
    window := if s.lds.committed then s.builtWindow else Window.empty
    reg := Register.empty
    rgl := Regulator.cleared s.rgl.beta s.rgl.threshold (if s.lds.committed then s.sectCount else 0)
    tsv := s.tsv.restarted
    inc := s.inc.restarted s.tick
    anp := s.anp.restarted
    hpt := { s.hpt with causes := Causes.none } }

/-- R36: a used link becomes UP or DOWN by its carrier, without a report. -/
def State.restartLink (s : State) (i : Nat) : State :=
  match s.links[i]? with
  | none => s
  | some l =>
    if l.cfg.isNone then s
    else if l.carrier then (s.setLink i { l with state := .up }).pollSweep i
    else (s.setLink i { l with state := .down }).post (.raise .linkLoss i)

/-- R16: the restart takes effect. -/
def State.restart (s : State) : State :=
  let s1 := { s with hpt := s.hpt.restarted }
  let s2 := ((List.range Config.linkCount).foldl (fun s i => s.abandonLine i) s1).restartBlocks
  ((List.range Config.linkCount).foldl State.restartLink (s2.post .deriveEffects)).deriveAll

/-- R16: WARM_RESTART is answered DONE and then takes effect. -/
def reqWarmRestart (tag : Byte) (d : List Byte) (s : State) : State :=
  if d.length ≠ 0 then s.refuse tag .badLength else (s.done tag []).restart

/-! ### IDENTIFY (R17) -/

/-- R17: which of the eight tables are loaded, as a set byte. -/
def Lds.loaded (l : Lds) : Nat :=
  bitOf l.stations.isSome 0 + bitOf l.runs.isSome 1 + bitOf l.sections.isSome 2 + bitOf l.substations.isSome 3 +
  bitOf l.elements.isSome 4 + bitOf l.links.isSome 5 + bitOf l.zones.isSome 6 + bitOf l.params.isSome 7

/-- R17: the capacities. -/
def capacityBytes : List Byte :=
  u8 Config.maxStations ++ u8 Config.maxSections ++ u8 Config.maxSubstations ++ u8 Config.maxZones ++
  u16 Config.maxElements ++ u8 Config.linkCount ++ u8 Config.trainSlots ++ u16 Config.maxEntries ++
  u8 Config.maxIncidents ++ u8 Config.maxHostIncidents ++ u8 Config.maxReports ++ u16 Config.maxBody

/-- R17: IDENTIFY's results; the committed, running and limit-reported flags are one byte each (log entry 16). -/
def State.identity (s : State) : List Byte :=
  u16 Config.vendorCode ++ u16 Config.partCode ++ u8 Config.revisionLetter ++ capacityBytes ++
  u8 s.lds.service.code ++ flag8 s.lds.committed ++ u8 s.lds.loaded ++
  u24 s.clock.time ++ flag8 s.clock.running ++ flag8 s.clock.limitReported

/-- R17: IDENTIFY. -/
def reqIdentify (tag : Byte) (d : List Byte) (s : State) : State :=
  if d.length ≠ 0 then s.refuse tag .badLength else s.done tag s.identity

end Sys2Proof.Machine
end

