-- ==== Sys2Proof/WellFormed.lean ====
section
/-! DEFINITION. Which commands name things the unit has: a link 0..7, an element 0..255, a train slot 0..39 and so on
(R17, R18, R37, R72, R110, R111, R133), and whether an UNKNOWN_KIND names an unknown kind. The meanings fault on every
other command (log entry 3). -/
namespace Sys2Proof

/-- R18: the links are FL0..FL7. -/
def linkExists (l : Nat) : Bool := l < Config.linkCount

/-- R7: element numbers are 0..255. -/
def elementExists (e : Nat) : Bool := e < Config.maxElements

/-- R72: train slots are 0..39. -/
def slotExists (i : Nat) : Bool := i < Config.trainSlots

/-- R5: section numbers are 0..23. -/
def sectionExists (i : Nat) : Bool := i < Config.maxSections

/-- R6: substation numbers are 0..11. -/
def substationExists (i : Nat) : Bool := i < Config.maxSubstations

/-- R72: train identities run 1..999. -/
def trainIdExists (t : Nat) : Bool := 1 ≤ t && t ≤ 999

/-- R133: incident numbers run 1..65,535. -/
def incidentExists (n : Nat) : Bool := 1 ≤ n && n ≤ 65535

/-- The check of a command before it may be sent to the unit. -/
def Instr.wellFormed : Instr → Bool
  | .powerOnReset _ _ => true
  | .carrierReturn l => linkExists l
  | .carrierLoss l => linkExists l
  | .tentativeForward l _ => linkExists l
  | .fieldTelegramComplete l _ => linkExists l
  | .telegramLengthDamaged l _ => linkExists l
  | .leadByteFragment l _ => linkExists l
  | .fieldGapTimeout l => linkExists l
  | .mirrorTakeEntry l => linkExists l
  | .telegramSent l => linkExists l
  | .answerTimeout e => elementExists e
  | .execTimeout e => elementExists e
  | .noPush e => elementExists e
  | .elementSilent e => elementExists e
  | .lineTimeCount => true
  | .startWindowDeadline i => slotExists i
  | .prechargeTimerExpiry i => sectionExists i
  | .voltageTimerExpiry i => sectionExists i
  | .meterStale i => substationExists i
  | .permitWaitLong t => trainIdExists t
  | .escalationDeadline n => incidentExists n
  | .hostFrameDiscard _ => true
  | .hostGapTimeout => true
  | .replySent => true
  | .unknownKind k _ _ => !kindIsKnown k
  | .identify _ _ => true
  | .ldBegin _ _ => true
  | .ldStations _ _ => true
  | .ldRuns _ _ => true
  | .ldSections _ _ => true
  | .ldSubstations _ _ => true
  | .ldElements _ _ => true
  | .ldLinks _ _ => true
  | .ldZones _ _ => true
  | .ldParams _ _ => true
  | .ldCommit _ _ => true
  | .setLineTime _ _ => true
  | .serviceStart _ => true
  | .serviceSuspend _ => true
  | .serviceResume _ => true
  | .serviceEnd _ => true
  | .warmRestart _ _ => true
  | .ttAppend _ _ => true
  | .ttAmend _ _ => true
  | .ttCancel _ _ => true
  | .ttQuery _ _ => true
  | .trainAdd _ _ => true
  | .trainAssign _ _ => true
  | .trainRemove _ _ => true
  | .trainHold _ _ => true
  | .trainUnhold _ _ => true
  | .trainQuery _ _ => true
  | .regSet _ _ => true
  | .secEnergize _ _ => true
  | .secIsolate _ _ => true
  | .secUnlock _ _ => true
  | .pairMode _ _ => true
  | .secQuery _ _ => true
  | .incRaise _ _ => true
  | .incAmend _ _ => true
  | .incAck _ _ => true
  | .incClose _ _ => true
  | .incQuery _ _ => true
  | .annStage _ _ => true
  | .annBind _ _ => true
  | .annClear _ _ => true
  | .annRelease _ _ => true
  | .annTrigger _ _ => true
  | .annQuery _ _ => true
  | .linkModeLoopback _ _ => true
  | .linkModeNormal _ _ => true
  | .linkQuery _ _ => true
  | .elementQuery _ _ => true
  | .elementPoll _ _ => true
  | .fetchReports _ _ => true
  | .readConditions _ _ => true
  | .setMasks _ _ => true
  | .fieldCharacterTaken l _ => linkExists l
  | .hostCharacterTaken _ => true

end Sys2Proof
end

