-- ==== Sys2Proof/Machine/Notices.lean ====
section
/-! DEFINITION. How a command runs to its end: which block takes each notice, the agenda run out notice by notice, the
composing of replies, the dispatch of a frame by its kind byte, and the taking of a request. -/
namespace Sys2Proof.Machine

/-! ### Who takes a notice (00_scope.md, Paths) -/

/-- R54: the outcome of an order goes to the block that originated it. -/
def takeOutcome (o : OutcomeMsg) (s : State) : State :=
  match o.data.origin with
  | .regulator => s.platformOutcome o
  | .supervisor => s.breakerOutcome o
  | .publisher => s.showOutcome o

/-- R42: a value notice goes to the user block of the element's kind. -/
def takeValue (v : ValueNotice) (s : State) : State :=
  match v.kind with
  | .breaker => s.breakerNotice v
  | .meter => s.meterNotice v
  | .platform => s.reconcile v
  | .display => s.shownNotice v

/-- The results of a DONE reply, from the state as the request has left it (R172). -/
def State.answerData (s : State) : Answer → List Byte
  | .done data => data
  | .holds train => u8 (((s.slotOf train).map s.holdsOf).getD 0)
  | .released changed before => u8 changed ++ u8 (s.orderCount - before)
  | .sectFlags i => s.sectFlagBytes i
  | .incident number => ((s.incident? number).map (Incident.bytes s.tick)).getD []

/-- R172: the reply of a request is composed once its effects have run out. -/
def takeAnswer (tag : Byte) (a : Answer) (s : State) : State := s.done tag (s.answerData a)

/-- The effect of a notice at the block that takes it. -/
def handle (n : Notice) (s : State) : State :=
  match n with
  | .issue el d token => issue el d token s
  | .follow el c d r => follow el c d r s
  | .evicted el token => evicted el token s
  | .pollAll => pollAll s
  | .outcome o => takeOutcome o s
  | .value v => takeValue v s
  | .report k subject d1 d2 => s.report k subject d1 d2
  | .answer tag a => takeAnswer tag a s
  | .expire => expire s
  | .tentativeEvent link el arrival train => tentativeEvent link el arrival train s
  | .tentativeEnd link confirmed => tentativeEnd link confirmed s
  | .confirmedEvent arrival train stop => confirmedEvent arrival train stop s
  | .positionReport train stop was jump => positionReport train stop was jump s
  | .permitGiven train level => permitGiven train level s
  | .permitReturned train => permitReturned train s
  | .slotFreed slot train => slotFreed slot train s
  | .standTentative slot => standTentative slot s
  | .standWithdrawn slot => standWithdrawn slot s
  | .standArrived slot => standArrived slot s
  | .standDeparted slot train late trip p => standDeparted slot train late trip p s
  | .standEnded slot => standEnded slot s
  | .trainGone slot train => trainGone slot train s
  | .due slot => due slot s
  | .granted train t => granted train t s
  | .requestRemoved train _ st low => requestRemoved train st low s
  | .sectChanged sect st low => sectChanged sect st low s
  | .heldStations set => heldStations set s
  | .permitRequest train sect => permitRequest train sect s
  | .permitWithdraw train => permitWithdraw train s
  | .permitEnded train => permitEnded train s
  | .reexamine => reexamine s
  | .walk trains => walk trains s
  | .load slot n => load slot n s
  | .unload slot train => unload slot train s
  | .openBreaker el => openBreaker el s
  | .nextClose base => nextClose base s
  | .isolationCheck base => isolationCheck base s
  | .derive base => derive base s
  | .leftLive sect => leftLive sect s
  | .becameLive sect => becameLive sect s
  | .demands set => demands set s
  | .demandAct sect => demandAct sect s
  | .raise k key => raise k key s
  | .resolve k key => resolve k key s
  | .deriveEffects => deriveEffects s
  | .handHeld => handHeld s
  | .handDemands => handDemands s
  | .handContent station => handContent station s
  | .incidentContent station c => incidentContent station c s
  | .delayWrite station n => delayWrite station n s
  | .delayWithdraw train => delayWithdraw train s
  | .trainDeparted train stop => trainDeparted train stop s
  | .trainArrived stop => trainArrived stop s
  | .releaseStation station => releaseStation station s
  | .judge station => judge station s
  | .showRaised station => showRaised station s

/-! ### Running out (log entry 6) -/

def State.setAgenda (l : List Notice) (s : State) : State := { s with agenda := l }

/-- Notices that wait behind those the state already holds. -/
def State.behind (rest : List Notice) (s : State) : State := s.setAgenda (s.agenda ++ rest)

/-- The first notice is taken, with all it brings about before the notices behind it; the host port latches the causes
that have appeared (R178). -/
def State.takeNotice (n : Notice) (rest : List Notice) (s : State) : State :=
  ((handle n (s.setAgenda [])).latch).behind rest

/-- The agenda runs out, within a number of notices. -/
def State.run : Nat → State → State
  | 0, s => s
  | k + 1, s =>
    match s.agenda with
    | [] => s
    | n :: rest => State.run k (s.takeNotice n rest)

/-- The state a command leaves once every notice has been taken; nothing stays undelivered. -/
def settle (s : State) : State := ((s.latch).run Config.cascadeBound).setAgenda []

/-! ### Requests (R170 to R174) -/

/-- R174: UNKNOWN_KIND. -/
def reqUnknownKind (tag : Byte) (s : State) : State := s.refuse tag .unknownKind

/-- R172: the request a kind byte names (section 11.6). -/
def dispatch (kind tag : Byte) (d : List Byte) (s : State) : State :=
  match kind.toNat with
  | 0x10 => reqIdentify tag d s
  | 0x11 => reqLdBegin tag d s
  | 0x12 => reqLdStations tag d s
  | 0x13 => reqLdSections tag d s
  | 0x14 => reqLdElements tag d s
  | 0x15 => reqLdRuns tag d s
  | 0x16 => reqLdParams tag d s
  | 0x17 => reqLdCommit tag d s
  | 0x18 => reqSetLineTime tag d s
  | 0x19 => reqService tag d s
  | 0x1A => reqWarmRestart tag d s
  | 0x1B => reqLdSubstations tag d s
  | 0x1C => reqLdLinks tag d s
  | 0x1D => reqLdZones tag d s
  | 0x20 => reqTtAppend tag d s
  | 0x21 => reqTtAmend tag d s
  | 0x22 => reqTtCancel tag d s
  | 0x23 => reqTtQuery tag d s
  | 0x30 => reqTrainAdd tag d s
  | 0x31 => reqTrainAssign tag d s
  | 0x32 => reqTrainRemove tag d s
  | 0x33 => reqTrainHold tag d s
  | 0x34 => reqTrainUnhold tag d s
  | 0x35 => reqTrainQuery tag d s
  | 0x36 => reqRegSet tag d s
  | 0x40 => reqSecEnergize tag d s
  | 0x41 => reqSecIsolate tag d s
  | 0x42 => reqSecUnlock tag d s
  | 0x43 => reqPairMode tag d s
  | 0x44 => reqSecQuery tag d s
  | 0x50 => reqIncRaise tag d s
  | 0x51 => reqIncAmend tag d s
  | 0x52 => reqIncAck tag d s
  | 0x53 => reqIncClose tag d s
  | 0x54 => reqIncQuery tag d s
  | 0x60 => reqAnnStage tag d s
  | 0x61 => reqAnnBind tag d s
  | 0x62 => reqAnnClear tag d s
  | 0x63 => reqAnnRelease tag d s
  | 0x64 => reqAnnTrigger tag d s
  | 0x65 => reqAnnQuery tag d s
  | 0x70 => reqLinkMode tag d s
  | 0x71 => reqLinkQuery tag d s
  | 0x72 => reqElementQuery tag d s
  | 0x73 => reqElementPoll tag d s
  | 0x80 => reqFetchReports tag d s
  | 0x81 => reqReadConditions tag d s
  | 0x82 => reqSetMasks tag d s
  | _ => reqUnknownKind tag s

/-- R171, R172: a checked frame has completed: it is discarded where the reply queue is full, and is a request
otherwise. -/
def State.takeFrame (body : State → State) (s : State) : State :=
  if s.repliesFull then s.flagFrameError else body s

/-- R170 to R172: the frame receiver takes a character of the host line. -/
def State.takeHostChar (c : HostChar) (s : State) : State :=
  match recvTake s.hpt.receiver c.judged s.tick with
  | (r, .quiet) => s.setReceiver r
  | (r, .discard) => (s.setReceiver r).flagFrameError
  | (r, .complete kind tag data) => (s.setReceiver r).takeFrame (dispatch kind tag data)

/-! ### The outcomes of commands -/

/-- R170: whether a frame's length can count the kind, the tag and these data. -/
def dataFits (data : List Byte) : Bool := data.length + 2 ≤ Config.maxBody

/-- A request row: its frame ends and leaves the receiver hunting (log entry 23). A frame whose length lies outside
2..1,022 is discarded with HOST_FRAME_ERROR (R170, R171); any other is complete. -/
def request (data : List Byte) (body : State → State) (s : State) : Host.Outcome State Fault Refusal :=
  .next (settle (if dataFits data then (s.setReceiver .hunting).takeFrame body
    else (s.setReceiver .hunting).flagFrameError))

/-- A row that names an object: a fault where the unit has no such object (log entry 3). -/
def onObject (present : Bool) (missing : Fault) (effect : State → State) (s : State) : Host.Outcome State Fault Refusal :=
  if present then .next (settle (effect s)) else .fault missing

/-- A row whose event has a condition: without it nothing happens (log entry 2). -/
def State.onlyIf (condition : Bool) (effect : State → State) (s : State) : State := if condition then effect s else s

end Sys2Proof.Machine
end

