-- ==== Sys2Proof/Machine/FieldCommands.lean ====
section
/-! DEFINITION. The meanings of the rows of the field side: carrier, characters, gaps, telegrams sent, the mirror's
taking of an entry, and the requests to links and elements (02, 03). -/
namespace Sys2Proof.Machine

/-- R31: CARRIER_RETURN. -/
def execCarrierReturn (link : Nat) (s : State) : Host.Outcome State Fault Refusal :=
  onObject (linkExists link) .noSuchLink (State.carrierReturn link) s

/-- R32: CARRIER_LOSS. -/
def execCarrierLoss (link : Nat) (s : State) : Host.Outcome State Fault Refusal :=
  onObject (linkExists link) .noSuchLink (State.carrierLoss link) s

/-- R24: TENTATIVE_FORWARD: the character that brings the last payload byte of a platform event. -/
def execTentativeForward (link : Nat) (c : FieldChar) (s : State) : Host.Outcome State Fault Refusal :=
  onObject (linkExists link) .noSuchLink (State.onlyIf (s.forwards link c) (State.takeChar link c)) s

/-- R21, R25: FIELD_TELEGRAM_COMPLETE: the character that brings the second check byte. -/
def execFieldTelegramComplete (link : Nat) (c : FieldChar) (s : State) : Host.Outcome State Fault Refusal :=
  onObject (linkExists link) .noSuchLink (State.onlyIf (s.completes link c) (State.takeChar link c)) s

/-- R21: TELEGRAM_LENGTH_DAMAGED: the character that brings a length byte above 24. -/
def execTelegramLengthDamaged (link : Nat) (c : FieldChar) (s : State) : Host.Outcome State Fault Refusal :=
  onObject (linkExists link) .noSuchLink (State.onlyIf (s.overlong link c) (State.takeChar link c)) s

/-- R20, R22: LEAD_BYTE_FRAGMENT: the character that shows a lead byte within a telegram. -/
def execLeadByteFragment (link : Nat) (c : FieldChar) (s : State) : Host.Outcome State Fault Refusal :=
  onObject (linkExists link) .noSuchLink (State.onlyIf (s.fragments link c) (State.takeChar link c)) s

/-- R19, R20: FIELD_CHARACTER_TAKEN, whatever the character brings about. -/
def execFieldCharacterTaken (link : Nat) (c : FieldChar) (s : State) : Host.Outcome State Fault Refusal :=
  onObject (linkExists link) .noSuchLink (State.takeChar link c) s

/-- R22: FIELD_GAP_TIMEOUT. -/
def execFieldGapTimeout (link : Nat) (s : State) : Host.Outcome State Fault Refusal :=
  onObject (linkExists link) .noSuchLink (State.gapTimeout link) s

/-- R23: MIRROR_TAKE_ENTRY. -/
def execMirrorTakeEntry (link : Nat) (s : State) : Host.Outcome State Fault Refusal :=
  onObject (linkExists link) .noSuchLink (State.takeEntry link) s

/-- R29: TELEGRAM_SENT. -/
def execTelegramSent (link : Nat) (s : State) : Host.Outcome State Fault Refusal :=
  onObject (linkExists link) .noSuchLink (State.telegramSent link) s

/-- R33: LINK_MODE naming LOOPBACK. -/
def execLinkModeLoopback (tag link : Byte) (s : State) : Host.Outcome State Fault Refusal :=
  request [link, 1#8] (reqLinkMode tag [link, 1#8]) s

/-- R33, R34: LINK_MODE naming NORMAL. -/
def execLinkModeNormal (tag link : Byte) (s : State) : Host.Outcome State Fault Refusal :=
  request [link, 0#8] (reqLinkMode tag [link, 0#8]) s

/-- R35: LINK_QUERY. -/
def execLinkQuery (tag : Byte) (d : List Byte) (s : State) : Host.Outcome State Fault Refusal :=
  request d (reqLinkQuery tag d) s

/-- R57: ELEMENT_QUERY. -/
def execElementQuery (tag : Byte) (d : List Byte) (s : State) : Host.Outcome State Fault Refusal :=
  request d (reqElementQuery tag d) s

/-- R58: ELEMENT_POLL. -/
def execElementPoll (tag : Byte) (d : List Byte) (s : State) : Host.Outcome State Fault Refusal :=
  request d (reqElementPoll tag d) s

end Sys2Proof.Machine
end

