-- ==== Sys2Proof/Machine/HostCommands.lean ====
section
/-! DEFINITION. The meanings of the rows of the host line and the host port (10). -/
namespace Sys2Proof.Machine

/-- R170: HOST_CHARACTER_TAKEN, whatever the character brings about. -/
def execHostCharacterTaken (c : HostChar) (s : State) : Host.Outcome State Fault Refusal :=
  .next (settle (s.takeHostChar c))

/-- R171: HOST_FRAME_DISCARD: the character that brings about a discard. -/
def execHostFrameDiscard (c : HostChar) (s : State) : Host.Outcome State Fault Refusal :=
  .next (settle (s.onlyIf (s.discards c) (State.takeHostChar c)))

/-- R171: HOST_GAP_TIMEOUT. -/
def execHostGapTimeout (s : State) : Host.Outcome State Fault Refusal := .next (settle s.hostGap)

/-- R173: REPLY_SENT. -/
def execReplySent (s : State) : Host.Outcome State Fault Refusal := .next (settle s.replySent)

/-- R174: UNKNOWN_KIND; a kind that names a request is a fault of the command (log entry 3). -/
def execUnknownKind (kind tag : Byte) (d : List Byte) (s : State) : Host.Outcome State Fault Refusal :=
  if kindIsKnown kind then .fault .kindIsKnown else request d (reqUnknownKind tag) s

/-- R177: FETCH_REPORTS. -/
def execFetchReports (tag : Byte) (d : List Byte) (s : State) : Host.Outcome State Fault Refusal :=
  request d (reqFetchReports tag d) s

/-- R179: READ_CONDITIONS. -/
def execReadConditions (tag : Byte) (d : List Byte) (s : State) : Host.Outcome State Fault Refusal :=
  request d (reqReadConditions tag d) s

/-- R180: SET_MASKS. -/
def execSetMasks (tag : Byte) (d : List Byte) (s : State) : Host.Outcome State Fault Refusal :=
  request d (reqSetMasks tag d) s

end Sys2Proof.Machine
end

