-- ==== Sys2Proof/Machine/JobCommands.lean ====
section
/-! DEFINITION. The meanings of the rows of the four jobs and of the records beside them: the timetable window, the train
register, the regulator, the traction supervisor, the incident manager and the announcement publisher (04 to 09). -/
namespace Sys2Proof.Machine

/-- R62: TT_APPEND. -/
def execTtAppend (tag : Byte) (d : List Byte) (s : State) : Host.Outcome State Fault Refusal :=
  request d (reqTtAppend tag d) s

/-- R63: TT_AMEND. -/
def execTtAmend (tag : Byte) (d : List Byte) (s : State) : Host.Outcome State Fault Refusal :=
  request d (reqTtAmend tag d) s

/-- R64: TT_CANCEL. -/
def execTtCancel (tag : Byte) (d : List Byte) (s : State) : Host.Outcome State Fault Refusal :=
  request d (reqTtCancel tag d) s

/-- R65: TT_QUERY. -/
def execTtQuery (tag : Byte) (d : List Byte) (s : State) : Host.Outcome State Fault Refusal :=
  request d (reqTtQuery tag d) s

/-- R86: TRAIN_ADD. -/
def execTrainAdd (tag : Byte) (d : List Byte) (s : State) : Host.Outcome State Fault Refusal :=
  request d (reqTrainAdd tag d) s

/-- R87: TRAIN_ASSIGN. -/
def execTrainAssign (tag : Byte) (d : List Byte) (s : State) : Host.Outcome State Fault Refusal :=
  request d (reqTrainAssign tag d) s

/-- R88: TRAIN_REMOVE. -/
def execTrainRemove (tag : Byte) (d : List Byte) (s : State) : Host.Outcome State Fault Refusal :=
  request d (reqTrainRemove tag d) s

/-- R91: TRAIN_HOLD. -/
def execTrainHold (tag : Byte) (d : List Byte) (s : State) : Host.Outcome State Fault Refusal :=
  request d (reqTrainHold tag d) s

/-- R91: TRAIN_UNHOLD. -/
def execTrainUnhold (tag : Byte) (d : List Byte) (s : State) : Host.Outcome State Fault Refusal :=
  request d (reqTrainUnhold tag d) s

/-- R89: TRAIN_QUERY. -/
def execTrainQuery (tag : Byte) (d : List Byte) (s : State) : Host.Outcome State Fault Refusal :=
  request d (reqTrainQuery tag d) s

/-- R109: REG_SET. -/
def execRegSet (tag : Byte) (d : List Byte) (s : State) : Host.Outcome State Fault Refusal :=
  request d (reqRegSet tag d) s

/-- R115: SEC_ENERGIZE. -/
def execSecEnergize (tag : Byte) (d : List Byte) (s : State) : Host.Outcome State Fault Refusal :=
  request d (reqSecEnergize tag d) s

/-- R120: SEC_ISOLATE. -/
def execSecIsolate (tag : Byte) (d : List Byte) (s : State) : Host.Outcome State Fault Refusal :=
  request d (reqSecIsolate tag d) s

/-- R123: SEC_UNLOCK. -/
def execSecUnlock (tag : Byte) (d : List Byte) (s : State) : Host.Outcome State Fault Refusal :=
  request d (reqSecUnlock tag d) s

/-- R125: PAIR_MODE. -/
def execPairMode (tag : Byte) (d : List Byte) (s : State) : Host.Outcome State Fault Refusal :=
  request d (reqPairMode tag d) s

/-- R132: SEC_QUERY. -/
def execSecQuery (tag : Byte) (d : List Byte) (s : State) : Host.Outcome State Fault Refusal :=
  request d (reqSecQuery tag d) s

/-- R139: INC_RAISE. -/
def execIncRaise (tag : Byte) (d : List Byte) (s : State) : Host.Outcome State Fault Refusal :=
  request d (reqIncRaise tag d) s

/-- R140: INC_AMEND. -/
def execIncAmend (tag : Byte) (d : List Byte) (s : State) : Host.Outcome State Fault Refusal :=
  request d (reqIncAmend tag d) s

/-- R141: INC_ACK. -/
def execIncAck (tag : Byte) (d : List Byte) (s : State) : Host.Outcome State Fault Refusal :=
  request d (reqIncAck tag d) s

/-- R142: INC_CLOSE. -/
def execIncClose (tag : Byte) (d : List Byte) (s : State) : Host.Outcome State Fault Refusal :=
  request d (reqIncClose tag d) s

/-- R143: INC_QUERY. -/
def execIncQuery (tag : Byte) (d : List Byte) (s : State) : Host.Outcome State Fault Refusal :=
  request d (reqIncQuery tag d) s

/-- R154: ANN_STAGE. -/
def execAnnStage (tag : Byte) (d : List Byte) (s : State) : Host.Outcome State Fault Refusal :=
  request d (reqAnnStage tag d) s

/-- R155: ANN_BIND. -/
def execAnnBind (tag : Byte) (d : List Byte) (s : State) : Host.Outcome State Fault Refusal :=
  request d (reqAnnBind tag d) s

/-- R156: ANN_CLEAR. -/
def execAnnClear (tag : Byte) (d : List Byte) (s : State) : Host.Outcome State Fault Refusal :=
  request d (reqAnnClear tag d) s

/-- R157: ANN_RELEASE. -/
def execAnnRelease (tag : Byte) (d : List Byte) (s : State) : Host.Outcome State Fault Refusal :=
  request d (reqAnnRelease tag d) s

/-- R158: ANN_TRIGGER. -/
def execAnnTrigger (tag : Byte) (d : List Byte) (s : State) : Host.Outcome State Fault Refusal :=
  request d (reqAnnTrigger tag d) s

/-- R167: ANN_QUERY. -/
def execAnnQuery (tag : Byte) (d : List Byte) (s : State) : Host.Outcome State Fault Refusal :=
  request d (reqAnnQuery tag d) s

end Sys2Proof.Machine
end

