-- ==== Sys2Proof/Machine/LineCommands.lean ====
section
/-! DEFINITION. The meanings of the rows of the line description, the service state, the clock, the resets and the
identification (01). -/
namespace Sys2Proof.Machine

/-- R169: the host rate the two straps select, `true` for High. -/
def rateOf (first second : Bool) : HostRate :=
  match first, second with
  | false, false => .r115200
  | false, true => .r460800
  | true, false => .r921600
  | true, true => .r115200

/-- R16: POWER_ON_RESET, from the assertion of RESET to its end, when the straps are sampled (log entry 22). The carrier
inputs stand as they did. -/
def execPowerOnReset (first second : Bool) (s : State) : Host.Outcome State Fault Refusal :=
  .next (State.powerOn s.pending (s.links.map (·.carrier)) (rateOf first second))

/-- R17: IDENTIFY. -/
def execIdentify (tag : Byte) (d : List Byte) (s : State) : Host.Outcome State Fault Refusal :=
  request d (reqIdentify tag d) s

/-- R1: LD_BEGIN. -/
def execLdBegin (tag : Byte) (d : List Byte) (s : State) : Host.Outcome State Fault Refusal :=
  request d (reqLdBegin tag d) s

/-- R3: LD_STATIONS. -/
def execLdStations (tag : Byte) (d : List Byte) (s : State) : Host.Outcome State Fault Refusal :=
  request d (reqLdStations tag d) s

/-- R4: LD_RUNS. -/
def execLdRuns (tag : Byte) (d : List Byte) (s : State) : Host.Outcome State Fault Refusal :=
  request d (reqLdRuns tag d) s

/-- R5: LD_SECTIONS. -/
def execLdSections (tag : Byte) (d : List Byte) (s : State) : Host.Outcome State Fault Refusal :=
  request d (reqLdSections tag d) s

/-- R6: LD_SUBSTATIONS. -/
def execLdSubstations (tag : Byte) (d : List Byte) (s : State) : Host.Outcome State Fault Refusal :=
  request d (reqLdSubstations tag d) s

/-- R7: LD_ELEMENTS. -/
def execLdElements (tag : Byte) (d : List Byte) (s : State) : Host.Outcome State Fault Refusal :=
  request d (reqLdElements tag d) s

/-- R8: LD_LINKS. -/
def execLdLinks (tag : Byte) (d : List Byte) (s : State) : Host.Outcome State Fault Refusal :=
  request d (reqLdLinks tag d) s

/-- R9: LD_ZONES. -/
def execLdZones (tag : Byte) (d : List Byte) (s : State) : Host.Outcome State Fault Refusal :=
  request d (reqLdZones tag d) s

/-- R10: LD_PARAMS. -/
def execLdParams (tag : Byte) (d : List Byte) (s : State) : Host.Outcome State Fault Refusal :=
  request d (reqLdParams tag d) s

/-- R11: LD_COMMIT. -/
def execLdCommit (tag : Byte) (d : List Byte) (s : State) : Host.Outcome State Fault Refusal :=
  request d (reqLdCommit tag d) s

/-- R15: SET_LINE_TIME. -/
def execSetLineTime (tag : Byte) (d : List Byte) (s : State) : Host.Outcome State Fault Refusal :=
  request d (reqSetLineTime tag d) s

/-- R13, R106: SERVICE naming START. -/
def execServiceStart (tag : Byte) (s : State) : Host.Outcome State Fault Refusal :=
  request [1#8] (reqService tag [1#8]) s

/-- R13, R107: SERVICE naming SUSPEND. -/
def execServiceSuspend (tag : Byte) (s : State) : Host.Outcome State Fault Refusal :=
  request [2#8] (reqService tag [2#8]) s

/-- R13, R106: SERVICE naming RESUME. -/
def execServiceResume (tag : Byte) (s : State) : Host.Outcome State Fault Refusal :=
  request [3#8] (reqService tag [3#8]) s

/-- R13, R107: SERVICE naming END. -/
def execServiceEnd (tag : Byte) (s : State) : Host.Outcome State Fault Refusal :=
  request [4#8] (reqService tag [4#8]) s

/-- R16: WARM_RESTART. -/
def execWarmRestart (tag : Byte) (d : List Byte) (s : State) : Host.Outcome State Fault Refusal :=
  request d (reqWarmRestart tag d) s

end Sys2Proof.Machine
end

