-- ==== Sys2Proof/Machine/TimerCommands.lean ====
section
/-! DEFINITION. The meanings of the rows of the unit's own timers. Each has its effect where the timer it names runs;
elsewhere nothing happens (log entries 2 and 4). -/
namespace Sys2Proof.Machine

/-- R48: ANSWER_TIMEOUT. -/
def execAnswerTimeout (element : Nat) (s : State) : Host.Outcome State Fault Refusal :=
  onObject (elementExists element) .noSuchElement (State.answerTimeout element) s

/-- R49: EXEC_TIMEOUT. -/
def execExecTimeout (element : Nat) (s : State) : Host.Outcome State Fault Refusal :=
  onObject (elementExists element) .noSuchElement (State.execTimeout element) s

/-- R50: NO_PUSH. -/
def execNoPush (element : Nat) (s : State) : Host.Outcome State Fault Refusal :=
  onObject (elementExists element) .noSuchElement (State.noPush element) s

/-- R56: ELEMENT_SILENT. -/
def execElementSilent (element : Nat) (s : State) : Host.Outcome State Fault Refusal :=
  onObject (elementExists element) .noSuchElement (State.elementSilent element) s

/-- R14: LINE_TIME_COUNT. -/
def execLineTimeCount (s : State) : Host.Outcome State Fault Refusal := .next (settle s.lineTimeCount)

/-- R84: START_WINDOW_DEADLINE. -/
def execStartWindowDeadline (slot : Nat) (s : State) : Host.Outcome State Fault Refusal :=
  onObject (slotExists slot) .noSuchSlot (State.startWindowDeadline slot) s

/-- R117: PRECHARGE_TIMER_EXPIRY. -/
def execPrechargeTimerExpiry (sect : Nat) (s : State) : Host.Outcome State Fault Refusal :=
  onObject (sectionExists sect) .noSuchSection (State.prechargeExpiry sect) s

/-- R124: VOLTAGE_TIMER_EXPIRY. -/
def execVoltageTimerExpiry (sect : Nat) (s : State) : Host.Outcome State Fault Refusal :=
  onObject (sectionExists sect) .noSuchSection (State.voltageExpiry sect) s

/-- R127: METER_STALE. -/
def execMeterStale (substation : Nat) (s : State) : Host.Outcome State Fault Refusal :=
  onObject (substationExists substation) .noSuchSubstation (State.meterStale substation) s

/-- R130: PERMIT_WAIT_LONG. -/
def execPermitWaitLong (train : Nat) (s : State) : Host.Outcome State Fault Refusal :=
  onObject (trainIdExists train) .noSuchTrain (State.permitWaitLong train) s

/-- R144: ESCALATION_DEADLINE. -/
def execEscalationDeadline (number : Nat) (s : State) : Host.Outcome State Fault Refusal :=
  onObject (incidentExists number) .noSuchIncident (State.escalationDeadline number) s

end Sys2Proof.Machine
end

