-- ==== Sys2Proof/Machine/Dispatch.lean ====
section
/-! DEFINITION. The effect of a command on everything but the queue: one arm per row of the table. -/
namespace Sys2Proof.Machine

def exec (i : Instr) (s : State) : Host.Outcome State Fault Refusal :=
  match i with
  | .powerOnReset firstStrap secondStrap => Sys2Proof.Machine.execPowerOnReset firstStrap secondStrap s
  | .carrierReturn link => Sys2Proof.Machine.execCarrierReturn link s
  | .carrierLoss link => Sys2Proof.Machine.execCarrierLoss link s
  | .tentativeForward link c => Sys2Proof.Machine.execTentativeForward link c s
  | .fieldTelegramComplete link c => Sys2Proof.Machine.execFieldTelegramComplete link c s
  | .telegramLengthDamaged link c => Sys2Proof.Machine.execTelegramLengthDamaged link c s
  | .leadByteFragment link c => Sys2Proof.Machine.execLeadByteFragment link c s
  | .fieldGapTimeout link => Sys2Proof.Machine.execFieldGapTimeout link s
  | .mirrorTakeEntry link => Sys2Proof.Machine.execMirrorTakeEntry link s
  | .telegramSent link => Sys2Proof.Machine.execTelegramSent link s
  | .answerTimeout element => Sys2Proof.Machine.execAnswerTimeout element s
  | .execTimeout element => Sys2Proof.Machine.execExecTimeout element s
  | .noPush element => Sys2Proof.Machine.execNoPush element s
  | .elementSilent element => Sys2Proof.Machine.execElementSilent element s
  | .lineTimeCount => Sys2Proof.Machine.execLineTimeCount s
  | .startWindowDeadline slot => Sys2Proof.Machine.execStartWindowDeadline slot s
  | .prechargeTimerExpiry sect => Sys2Proof.Machine.execPrechargeTimerExpiry sect s
  | .voltageTimerExpiry sect => Sys2Proof.Machine.execVoltageTimerExpiry sect s
  | .meterStale substation => Sys2Proof.Machine.execMeterStale substation s
  | .permitWaitLong train => Sys2Proof.Machine.execPermitWaitLong train s
  | .escalationDeadline number => Sys2Proof.Machine.execEscalationDeadline number s
  | .hostFrameDiscard c => Sys2Proof.Machine.execHostFrameDiscard c s
  | .hostGapTimeout => Sys2Proof.Machine.execHostGapTimeout s
  | .replySent => Sys2Proof.Machine.execReplySent s
  | .unknownKind kind tag data => Sys2Proof.Machine.execUnknownKind kind tag data s
  | .identify tag data => Sys2Proof.Machine.execIdentify tag data s
  | .ldBegin tag data => Sys2Proof.Machine.execLdBegin tag data s
  | .ldStations tag data => Sys2Proof.Machine.execLdStations tag data s
  | .ldRuns tag data => Sys2Proof.Machine.execLdRuns tag data s
  | .ldSections tag data => Sys2Proof.Machine.execLdSections tag data s
  | .ldSubstations tag data => Sys2Proof.Machine.execLdSubstations tag data s
  | .ldElements tag data => Sys2Proof.Machine.execLdElements tag data s
  | .ldLinks tag data => Sys2Proof.Machine.execLdLinks tag data s
  | .ldZones tag data => Sys2Proof.Machine.execLdZones tag data s
  | .ldParams tag data => Sys2Proof.Machine.execLdParams tag data s
  | .ldCommit tag data => Sys2Proof.Machine.execLdCommit tag data s
  | .setLineTime tag data => Sys2Proof.Machine.execSetLineTime tag data s
  | .serviceStart tag => Sys2Proof.Machine.execServiceStart tag s
  | .serviceSuspend tag => Sys2Proof.Machine.execServiceSuspend tag s
  | .serviceResume tag => Sys2Proof.Machine.execServiceResume tag s
  | .serviceEnd tag => Sys2Proof.Machine.execServiceEnd tag s
  | .warmRestart tag data => Sys2Proof.Machine.execWarmRestart tag data s
  | .ttAppend tag data => Sys2Proof.Machine.execTtAppend tag data s
  | .ttAmend tag data => Sys2Proof.Machine.execTtAmend tag data s
  | .ttCancel tag data => Sys2Proof.Machine.execTtCancel tag data s
  | .ttQuery tag data => Sys2Proof.Machine.execTtQuery tag data s
  | .trainAdd tag data => Sys2Proof.Machine.execTrainAdd tag data s
  | .trainAssign tag data => Sys2Proof.Machine.execTrainAssign tag data s
  | .trainRemove tag data => Sys2Proof.Machine.execTrainRemove tag data s
  | .trainHold tag data => Sys2Proof.Machine.execTrainHold tag data s
  | .trainUnhold tag data => Sys2Proof.Machine.execTrainUnhold tag data s
  | .trainQuery tag data => Sys2Proof.Machine.execTrainQuery tag data s
  | .regSet tag data => Sys2Proof.Machine.execRegSet tag data s
  | .secEnergize tag data => Sys2Proof.Machine.execSecEnergize tag data s
  | .secIsolate tag data => Sys2Proof.Machine.execSecIsolate tag data s
  | .secUnlock tag data => Sys2Proof.Machine.execSecUnlock tag data s
  | .pairMode tag data => Sys2Proof.Machine.execPairMode tag data s
  | .secQuery tag data => Sys2Proof.Machine.execSecQuery tag data s
  | .incRaise tag data => Sys2Proof.Machine.execIncRaise tag data s
  | .incAmend tag data => Sys2Proof.Machine.execIncAmend tag data s
  | .incAck tag data => Sys2Proof.Machine.execIncAck tag data s
  | .incClose tag data => Sys2Proof.Machine.execIncClose tag data s
  | .incQuery tag data => Sys2Proof.Machine.execIncQuery tag data s
  | .annStage tag data => Sys2Proof.Machine.execAnnStage tag data s
  | .annBind tag data => Sys2Proof.Machine.execAnnBind tag data s
  | .annClear tag data => Sys2Proof.Machine.execAnnClear tag data s
  | .annRelease tag data => Sys2Proof.Machine.execAnnRelease tag data s
  | .annTrigger tag data => Sys2Proof.Machine.execAnnTrigger tag data s
  | .annQuery tag data => Sys2Proof.Machine.execAnnQuery tag data s
  | .linkModeLoopback tag link => Sys2Proof.Machine.execLinkModeLoopback tag link s
  | .linkModeNormal tag link => Sys2Proof.Machine.execLinkModeNormal tag link s
  | .linkQuery tag data => Sys2Proof.Machine.execLinkQuery tag data s
  | .elementQuery tag data => Sys2Proof.Machine.execElementQuery tag data s
  | .elementPoll tag data => Sys2Proof.Machine.execElementPoll tag data s
  | .fetchReports tag data => Sys2Proof.Machine.execFetchReports tag data s
  | .readConditions tag data => Sys2Proof.Machine.execReadConditions tag data s
  | .setMasks tag data => Sys2Proof.Machine.execSetMasks tag data s
  | .fieldCharacterTaken link c => Sys2Proof.Machine.execFieldCharacterTaken link c s
  | .hostCharacterTaken c => Sys2Proof.Machine.execHostCharacterTaken c s

end Sys2Proof.Machine
end

