-- ==== Sys2Proof/Machine/Step.lean ====
section
/-! DEFINITION. One step of the unit: the command at the front of the queue, or, where none waits, one millisecond of
the tick; and the placing of a command that a word spells. -/
namespace Sys2Proof.Machine

/-- The queue's rest as the queue. -/
def State.setPending (l : List Instr) (s : State) : State := { s with pending := l }

/-- Log entry 4: one millisecond of the tick passes. No timer acts of itself: its expiry is a command. -/
def State.idle (s : State) : State := { s with tick := s.tick + 1 }

/-- One step. -/
def step (s : State) : Host.Outcome State Fault Refusal :=
  match s.pending with
  | [] => .next s.idle
  | c :: rest => exec c (s.setPending rest)

/-- The command a word of the table spells is put at the front of the queue; no word spells one (log entry 1). -/
def State.withFetchWord (s : State) (nbits w : Nat) : State :=
  match decodeTableWord nbits w with
  | some c => s.setPending (c :: s.pending)
  | none => s

end Sys2Proof.Machine
end

