-- ==== Sys2Proof/Safety.lean ====
section
/-! DEFINITION. What every state of a run satisfies: the bounds the spec gives the queues, tables and line time, and the
shape of the records that R17, R18 and R72 fix. -/
namespace Sys2Proof.Machine

/-- R176: the report queue holds at most 64 reports. -/
def State.reportsBounded (s : State) : Prop := s.hpt.reports.length ≤ Config.maxReports

/-- R14: line time lies within 0..107,999. -/
def State.timeBounded (s : State) : Prop := s.clock.time ≤ Config.lastLineTime

/-- R23, R28: a link's receive queue holds at most 16 entries and its transmit queue at most 12. -/
def LinkRec.bounded (l : LinkRec) : Prop := l.rx.length ≤ Config.maxReceive ∧ l.tx.length ≤ Config.maxTransmit

/-- R18, R23, R28: there are eight links, each with its queues within their bounds. -/
def State.linksBounded (s : State) : Prop := s.links.length = Config.linkCount ∧ ∀ l ∈ s.links, l.bounded

/-- R72, R90: the slot tables keep their length. -/
def State.slotsShaped (s : State) : Prop :=
  s.reg.slots.length = Config.trainSlots ∧ s.reg.tentative.length = Config.linkCount ∧
  s.rgl.stands.length = Config.trainSlots ∧ s.rgl.hostHold.length = Config.trainSlots ∧
  s.tsv.loads.length = Config.trainSlots

/-- R133: the incident table holds at most 32 incidents. -/
def State.incidentsBounded (s : State) : Prop := s.inc.table.length ≤ Config.maxIncidents

/-- R60: the timetable window holds at most 1,024 entries. -/
def State.windowBounded (s : State) : Prop := s.window.entries.length ≤ Config.maxEntries

/-- Log entry 6: between commands no notice is under way. -/
def State.quiet (s : State) : Prop := s.agenda = []

/-- R178: the causes the host port holds are those that stand. -/
def State.causesCurrent (s : State) : Prop := s.hpt.causes = s.causesNow

/-- What every command leaves: no notice under way and the causes current. -/
def State.settled (s : State) : Prop := s.quiet ∧ s.causesCurrent

/-- R171, R172: a settled unit that will take the next frame: its reply queue has room. -/
def State.ready (s : State) : Prop := s.settled ∧ s.hpt.replies.length < Config.maxReplies

/-- The unit as a request finds it: its frame has completed and the receiver hunts (R170). -/
def State.framed (s : State) : State := s.setReceiver .hunting

/-- The bytes of a host frame from its length to its check, before doubling (R183). -/
def frameBytes (kind tag : Byte) (data : List Byte) : List Byte :=
  let body := u16 (data.length + 2) ++ [kind, tag] ++ data
  body ++ u16 (crcOf body).toNat

/-- The frame receiver over several characters: where it ends and what the last one brings about. -/
def recvAll (r : Receiver) (now : Nat) : List Byte → Receiver × RecvEvent
  | [] => (r, .quiet)
  | [b] => recvTake r (.good b) now
  | b :: rest => recvAll (recvTake r (.good b) now).1 now rest

/-- The assembler over several good characters: where it ends and what the last one brings about. -/
def asmAll (a : Assembler) (now : Nat) : List Byte → Assembler × AsmEvent
  | [] => (a, .quiet)
  | [b] => asmTake a (.good b) now
  | b :: rest => asmAll (asmTake a (.good b) now).1 now rest

/-- R172: the reply queue holds at most 16 replies. -/
def State.repliesBounded (s : State) : Prop := s.hpt.replies.length ≤ Config.maxReplies

/-- R60: each entry stands before every later one, and no two entries share a trip and stop or a stop and P. -/
def windowLawful (es : List TtEntry) : Prop :=
  es.Pairwise (fun a b => a.before b = true ∧ sameTripStop a b = false ∧ sameStopTime a b = false)

/-- R3, R5, R11, R17, R37: the station and section tables and the records built from them are within the unit's
capacities, every section has a feeder, and the mirror has one entry for an element. -/
def State.tablesBounded (s : State) : Prop :=
  s.stationCount ≤ Config.maxStations ∧ s.sectCount ≤ Config.maxSections ∧ s.tsv.sects.length ≤ Config.maxSections ∧
  s.anp.stations.length ≤ Config.maxStations ∧ (∀ r ∈ s.tsv.sects, r.feeders ≠ []) ∧ (s.mirror.map (·.el)).Nodup

/-- Section 11.6: the frame a request command stands for: its kind byte, its tag and its data. -/
def frameOf : Instr → Option (Byte × Byte × List Byte)
  | .unknownKind k t d => if kindIsKnown k then none else some (k, t, d)
  | .identify t d => some (0x10#8, t, d)
  | .ldBegin t d => some (0x11#8, t, d)
  | .ldStations t d => some (0x12#8, t, d)
  | .ldSections t d => some (0x13#8, t, d)
  | .ldElements t d => some (0x14#8, t, d)
  | .ldRuns t d => some (0x15#8, t, d)
  | .ldParams t d => some (0x16#8, t, d)
  | .ldCommit t d => some (0x17#8, t, d)
  | .setLineTime t d => some (0x18#8, t, d)
  | .serviceStart t => some (0x19#8, t, [1#8])
  | .serviceSuspend t => some (0x19#8, t, [2#8])
  | .serviceResume t => some (0x19#8, t, [3#8])
  | .serviceEnd t => some (0x19#8, t, [4#8])
  | .warmRestart t d => some (0x1A#8, t, d)
  | .ldSubstations t d => some (0x1B#8, t, d)
  | .ldLinks t d => some (0x1C#8, t, d)
  | .ldZones t d => some (0x1D#8, t, d)
  | .ttAppend t d => some (0x20#8, t, d)
  | .ttAmend t d => some (0x21#8, t, d)
  | .ttCancel t d => some (0x22#8, t, d)
  | .ttQuery t d => some (0x23#8, t, d)
  | .trainAdd t d => some (0x30#8, t, d)
  | .trainAssign t d => some (0x31#8, t, d)
  | .trainRemove t d => some (0x32#8, t, d)
  | .trainHold t d => some (0x33#8, t, d)
  | .trainUnhold t d => some (0x34#8, t, d)
  | .trainQuery t d => some (0x35#8, t, d)
  | .regSet t d => some (0x36#8, t, d)
  | .secEnergize t d => some (0x40#8, t, d)
  | .secIsolate t d => some (0x41#8, t, d)
  | .secUnlock t d => some (0x42#8, t, d)
  | .pairMode t d => some (0x43#8, t, d)
  | .secQuery t d => some (0x44#8, t, d)
  | .incRaise t d => some (0x50#8, t, d)
  | .incAmend t d => some (0x51#8, t, d)
  | .incAck t d => some (0x52#8, t, d)
  | .incClose t d => some (0x53#8, t, d)
  | .incQuery t d => some (0x54#8, t, d)
  | .annStage t d => some (0x60#8, t, d)
  | .annBind t d => some (0x61#8, t, d)
  | .annClear t d => some (0x62#8, t, d)
  | .annRelease t d => some (0x63#8, t, d)
  | .annTrigger t d => some (0x64#8, t, d)
  | .annQuery t d => some (0x65#8, t, d)
  | .linkModeLoopback t l => some (0x70#8, t, [l, 1#8])
  | .linkModeNormal t l => some (0x70#8, t, [l, 0#8])
  | .linkQuery t d => some (0x71#8, t, d)
  | .elementQuery t d => some (0x72#8, t, d)
  | .elementPoll t d => some (0x73#8, t, d)
  | .fetchReports t d => some (0x80#8, t, d)
  | .readConditions t d => some (0x81#8, t, d)
  | .setMasks t d => some (0x82#8, t, d)
  | _ => none

/-- R155, R186: the data of a set from place `i` fits its count byte. -/
def setLengthOk (d : List Byte) (i : Nat) : Bool :=
  decide (i < d.length) && d.length == i + 1 + (if at8 d i = 0xFF then 0 else at8 d i)

/-- R174, section 11.4: whether a request's data has the length of its fields, counts included. -/
def lengthOk (kind : Byte) (d : List Byte) : Bool :=
  match kind.toNat with
  | 0x10 | 0x11 | 0x17 | 0x1A | 0x81 => d.length == 0
  | 0x12 => d.length != 0 && d.length == 1 + 4 * at8 d 0
  | 0x13 => d.length != 0 && d.length == 1 + 7 * at8 d 0 + 2 * ((at8 d 0 + 1) / 2)
  | 0x14 => decide (2 ≤ d.length) && d.length == 2 + 3 * at16 d 0
  | 0x15 => d.length != 0 && d.length == 1 + 9 * at8 d 0
  | 0x16 => d.length == 56
  | 0x1B => d.length != 0 && d.length == 1 + 12 * at8 d 0
  | 0x1C => d.length == 40
  | 0x1D => (zonesOf d).isSome
  | 0x20 => d.length != 0 && d.length == 1 + 10 * at8 d 0
  | 0x21 => d.length == 10
  | 0x23 | 0x30 => d.length == 5
  | 0x31 => d.length == 4
  | 0x18 | 0x35 | 0x36 | 0x64 | 0x82 => d.length == 3
  | 0x22 | 0x32 | 0x33 | 0x34 | 0x43 | 0x52 | 0x53 | 0x54 | 0x70 => d.length == 2
  | 0x19 | 0x40 | 0x41 | 0x42 | 0x44 | 0x65 | 0x71 | 0x72 | 0x73 | 0x80 => d.length == 1
  | 0x50 | 0x51 => decide (12 ≤ d.length) && d.length == 12 + at8 d 11
  | 0x60 => d.length == 7
  | 0x61 | 0x63 => setLengthOk d 0
  | 0x62 => setLengthOk d 1
  | _ => true

/-- R174: the requests whose service-state condition is a committed description. -/
def needsDescription (kind : Byte) : Bool :=
  [0x20, 0x21, 0x22, 0x23, 0x30, 0x31, 0x32, 0x33, 0x34, 0x35, 0x40, 0x41, 0x42, 0x43, 0x44, 0x50, 0x51, 0x52, 0x53,
   0x54, 0x61, 0x62, 0x63, 0x64, 0x65, 0x70].contains kind.toNat

/-- R1, R2: LD_BEGIN and the eight table messages. -/
def loadsTable (kind : Byte) : Bool := [0x11, 0x12, 0x13, 0x14, 0x15, 0x16, 0x1B, 0x1C, 0x1D].contains kind.toNat

/-- The commands that may change the description, the service state or the line clock, or complete any frame. -/
def changesLine : Instr → Bool
  | .powerOnReset _ _ | .lineTimeCount | .hostCharacterTaken _ | .ldBegin _ _ | .ldStations _ _ | .ldRuns _ _
  | .ldSections _ _ | .ldSubstations _ _ | .ldElements _ _ | .ldLinks _ _ | .ldZones _ _ | .ldParams _ _
  | .ldCommit _ _ | .setLineTime _ _ | .serviceStart _ | .serviceSuspend _ | .serviceResume _ | .serviceEnd _
  | .warmRestart _ _ => true
  | _ => false

/-- One station of LD_STATIONS as the host sends it (R3). -/
def StationRow.bytes (r : StationRow) : List Byte := u8 r.sect ++ u8 r.up ++ u8 r.down ++ opt8 r.display

/-- One run of LD_RUNS as the host sends it (R4). -/
def RunRow.bytes (r : RunRow) : List Byte := u8 r.sect ++ u16 r.upMin ++ u16 r.upMax ++ u16 r.downMin ++ u16 r.downMax

/-- A timetable entry as TT_APPEND carries it (R62): trip, stop, P, W and Rp, 0 when absent. -/
def TtEntry.sent (e : TtEntry) : List Byte := u16 e.trip ++ u8 e.stop ++ u24 e.p ++ u16 e.w ++ optId e.rp

end Sys2Proof.Machine
end

