-- ==== Sys2Proof/Certificates/Slice0/Obligations.lean ====
section
/-! DEFINITION. The statements for the provers. Each says what the unit does; the spec's rules it rests on, and the log
entries where a clause is the model's choice, are named in its docstring. -/

open Sys2Proof Sys2Proof.Machine

/-! ### The queue, the step, every command -/

/-- One step takes the command at the front of the queue and runs it on the state with the queue's rest. -/
def Obligations.StepRunsTheFront : Prop :=
  ∀ (c : Instr) (rest : List Instr) (s : State),
    step (s.setPending (c :: rest)) = exec c (s.setPending rest)

/-- Log entry 4 (DESIGN CHOICE): with no command waiting, one millisecond of the tick passes and nothing else changes.
-/
def Obligations.EmptyQueueLetsOneMillisecondPass : Prop :=
  ∀ s : State, s.pending = [] → step s = .next { s with tick := s.tick + 1 }

/-- R172, 95_what_each_step_holds.md: every command that names what the unit has is answered by a next state. Log entry
3 (DESIGN CHOICE): a command that names nothing the unit has is a fault. No command takes from the queue of waiting
commands or adds to it. -/
def Obligations.CommandsCompleteOrFaultAndKeepTheQueue : Prop :=
  (∀ (c : Instr) (s : State), c.wellFormed = true → ∃ t, exec c s = .next t) ∧
  (∀ (c : Instr) (s : State), c.wellFormed = false → ∃ f, exec c s = .fault f) ∧
  (∀ (c : Instr) (s t : State), exec c s = .next t → t.pending = s.pending)

/-- The unit right after power-on reset: R1, R14, R18, R36, R37, R61, R70, R72, R90, R110, R111, R126, R128, R129, R133,
R134, R150, R152, R154, R158, R168, R182. The carriers and the strap levels, the tick and the end of the present second
are the model's choice (log entries 4 and 21). R16, R18, R169, R182: POWER_ON_RESET sets every block to its power-on
values, keeps the carriers as the inputs show them and takes the host rate from the straps: Low Low 115,200, Low High
460,800, High Low 921,600, High High 115,200. -/
def Obligations.ResetAndPowerOnValues : Prop :=
  (∀ s : State, s = State.reset →
   s.pending = [] ∧ s.tick = 0 ∧
   s.lds.service = .unconfigured ∧ s.lds.committed = false ∧ s.lds.stations = none ∧ s.lds.runs = none ∧
   s.lds.sections = none ∧ s.lds.substations = none ∧ s.lds.elements = none ∧ s.lds.links = none ∧
   s.lds.zones = none ∧ s.lds.params = none ∧
   s.clock.time = 0 ∧ s.clock.running = false ∧ s.clock.limitReported = false ∧ s.clock.secondEnd = 0 ∧
   s.links.length = 8 ∧
   (∀ l ∈ s.links, l.state = .disabled ∧ l.carrier = false ∧ l.cfg = none ∧ l.asm = .hunting ∧ l.tentative = none ∧
     l.rx = [] ∧ l.congested = false ∧ l.tx = [] ∧ l.sender = none ∧ l.polls = [] ∧ l.errCheck = false ∧
     l.errDamaged = false ∧ l.errFragment = false ∧ l.errOverrun = false) ∧
   s.mirror = [] ∧ s.window.entries = [] ∧ s.window.last = [] ∧
   s.reg.slots = List.replicate 40 none ∧ s.reg.tentative = List.replicate 8 none ∧
   s.rgl.hostHold = List.replicate 40 false ∧ s.rgl.stands = List.replicate 40 none ∧ s.rgl.beta = none ∧
   s.rgl.threshold = none ∧ s.rgl.heldStations = [] ∧ s.rgl.sectView = [] ∧
   s.tsv.sects = [] ∧ s.tsv.pairs = [] ∧ s.tsv.subs = [] ∧ s.tsv.waitList = [] ∧ s.tsv.permits = [] ∧
   s.tsv.loads = List.replicate 40 none ∧
   s.inc.table = [] ∧ s.inc.next = 1 ∧ s.inc.lastHeld = [] ∧ s.inc.lastDemand = [] ∧ s.inc.lastContent = [] ∧
   s.anp.staging.text = 0 ∧ s.anp.staging.p1 = 0 ∧ s.anp.staging.p2 = 0 ∧ s.anp.staging.layer = .service ∧
   s.anp.stations = [] ∧ s.anp.triggers = [] ∧
   s.hpt.rate = .r115200 ∧ s.hpt.receiver = .hunting ∧ s.hpt.replies = [] ∧ s.hpt.reports = [] ∧
   s.hpt.flags.toNat = 1 ∧ s.hpt.causes.toNat = 0 ∧ s.hpt.condMask.toNat = 0 ∧ s.hpt.classMask.toNat = 0 ∧
   s.hpt.attention = true ∧ s.attn = true) ∧
  (∀ (a b : Bool) (s : State), s.linksBounded → ∃ t, exec (.powerOnReset a b) s = .next t ∧
     t.hpt.rate = (if a = true ∧ b = false then .r921600 else if a = false ∧ b = true then .r460800 else .r115200) ∧
     t.links.map (·.carrier) = s.links.map (·.carrier) ∧
     { t with
         hpt := { t.hpt with rate := .r115200 }
         links := t.links.map (fun l => { l with carrier := false })
         pending := [] } = State.reset)

/-- The unit right after reset satisfies every invariant stated below. -/
def Obligations.ResetSatisfiesTheInvariants : Prop :=
  State.reset.settled ∧ State.reset.reportsBounded ∧ State.reset.timeBounded ∧ State.reset.linksBounded ∧
  State.reset.slotsShaped ∧ State.reset.incidentsBounded ∧ State.reset.windowBounded ∧ State.reset.repliesBounded ∧
  windowLawful State.reset.window.entries ∧ State.reset.tablesBounded

/-- R14, R17, R23, R28, R60, R133, R176: every step keeps the bounds of the queues, the tables and line time. R72, R90,
R126: every step keeps the forty slots and the eight tentative slots. R3, R5, R11, R17: every step keeps the station and
section tables, and the records built from them, within their capacities, a feeder in every section and one mirror entry
for an element. -/
def Obligations.EveryStepKeepsTheBounds : Prop :=
  (∀ s t : State,
     s.reportsBounded → s.timeBounded → s.linksBounded → s.incidentsBounded → s.windowBounded → step s = .next t →
     t.reportsBounded ∧ t.timeBounded ∧ t.linksBounded ∧ t.incidentsBounded ∧ t.windowBounded) ∧
  (∀ s t : State, s.slotsShaped → step s = .next t → t.slotsShaped) ∧
  (∀ s t : State, s.tablesBounded → step s = .next t → t.tablesBounded)

/-- R178 and log entry 6: every step leaves no notice undelivered and the causes the host port holds as they stand.
R172: every step keeps the reply queue within sixteen replies. -/
def Obligations.EveryStepLeavesTheUnitSettled : Prop :=
  (∀ s t : State, s.settled → step s = .next t → t.settled) ∧
  (∀ s t : State, s.settled → s.repliesBounded → step s = .next t → t.repliesBounded)

/-- R60: every step keeps the order of the timetable window and the keys of its entries apart. -/
def Obligations.EveryStepKeepsTheWindowLawful : Prop :=
  ∀ s t : State, windowLawful s.window.entries → step s = .next t → windowLawful t.window.entries

/-- R14, R16, R109, R154, R158, R180, R182: what no other command touches: the description, the service state, the line
clock and the triggers are changed only by the requests that load, commit, serve, time and restart and by the line
clock's count; the rate by no request; the masks by SET_MASKS, the staging record by ANN_STAGE, the working values by
REG_SET and LD_COMMIT. POWER_ON_RESET and a host character, which may complete any frame, are set apart. -/
def Obligations.OnlyTheirCommandsChangeTheSettings : Prop :=
  ∀ (c : Instr) (s t : State), exec c s = .next t → (∀ a b, c ≠ .powerOnReset a b) → (∀ x, c ≠ .hostCharacterTaken x) →
    (changesLine c = false → t.lds = s.lds ∧ t.clock = s.clock ∧
      ((∀ g d, c ≠ .annTrigger g d) → t.anp.triggers = s.anp.triggers)) ∧
    t.hpt.rate = s.hpt.rate ∧
    ((∀ g d, c ≠ .setMasks g d) → t.hpt.condMask = s.hpt.condMask ∧ t.hpt.classMask = s.hpt.classMask ∧
      t.hpt.attention = s.hpt.attention) ∧
    ((∀ g d, c ≠ .annStage g d) → t.anp.staging = s.anp.staging) ∧
    ((∀ g d, c ≠ .regSet g d) → (∀ g d, c ≠ .ldCommit g d) →
      t.rgl.beta = s.rgl.beta ∧ t.rgl.threshold = s.rgl.threshold)

/-! ### Telegrams and frames (11) -/

/-- R20, R21, R184: a telegram of at most 24 payload bytes, sent with its lead bytes doubled, is assembled to itself
with a matching check word. -/
def Obligations.TelegramsAreReadAsTheyAreSent : Prop :=
  ∀ (t : Telegram) (now : Nat), t.payload.length ≤ 24 →
    ∃ bytes, asmAll .hunting now t.characters = (.hunting, .complete bytes false) ∧
      checkMatches bytes = true ∧ telegramOf bytes = t

/-- R170, R183: a host frame of at most 1,020 data bytes, sent with its lead bytes doubled, is received as its kind, tag
and data. -/
def Obligations.FramesAreReadAsTheyAreSent : Prop :=
  ∀ (kind tag : Byte) (data : List Byte) (now : Nat), data.length ≤ 1020 →
    recvAll .hunting now (hostLead :: doubled hostLead (frameBytes kind tag data)) =
      (.hunting, .complete kind tag data)

/-- R3, R4, R62: the rows of the Stations and Runs tables and of TT_APPEND are read field by field as they are sent. -/
def Obligations.RowsAreReadFieldByField : Prop :=
  (∀ l : List StationRow, l.length < 256 →
    (∀ r ∈ l, r.sect < 256 ∧ r.up < 256 ∧ r.down < 256 ∧ ∀ e ∈ r.display, e < 255) →
    readStations (u8 l.length ++ l.flatMap StationRow.bytes) = l) ∧
  (∀ l : List RunRow, l.length < 256 →
    (∀ r ∈ l, r.sect < 256 ∧ r.upMin < 65536 ∧ r.upMax < 65536 ∧ r.downMin < 65536 ∧ r.downMax < 65536) →
    readRuns (u8 l.length ++ l.flatMap RunRow.bytes) = l) ∧
  (∀ l : List TtEntry, l.length < 256 →
    (∀ e ∈ l, e.trip < 65536 ∧ e.stop < 256 ∧ e.p < 16777216 ∧ e.w < 65536 ∧ (∀ r ∈ e.rp, 0 < r ∧ r < 65536) ∧
      e.bound = none) →
    readEntries (u8 l.length ++ l.flatMap TtEntry.sent) = l)

/-! ### The host port (10) -/

/-- R169, R170, R171: outside a frame the receiver waits for a lead byte; within one, a framing failure or a break, and
a lead byte that is not doubled, discard the frame with HOST_FRAME_ERROR, the latter beginning a new one. R170, R171,
R183: within a frame a byte, or a doubled lead byte, joins it; a length outside 2..1,022 and a CRC that does not match
discard it with HOST_FRAME_ERROR; a character that discards nothing has no effect under HOST_FRAME_DISCARD (log entry
2). R171: a gap of more than 50 ms within a frame discards it; outside a frame it does nothing. The tick is brought to
the first whole millisecond beyond the gap (log entries 4 and 5). R170, R171: a request whose data would give its frame
a length above 1,022 is discarded with HOST_FRAME_ERROR and changes nothing else (the frame has ended, log entry 23). -/
def Obligations.HostReceiverFollowsTheLeadByte : Prop :=
  (∀ (s : State) (bad : HostChar), s.settled → (bad = .lineBreak ∨ ∃ v, bad = .bits v false) →
     (s.hpt.receiver = .hunting →
       exec (.hostCharacterTaken (.bits 0xC3#8 true)) s = .next (s.setReceiver (.busy [] false s.tick)) ∧
       (∀ v : Byte, v ≠ 0xC3#8 → exec (.hostCharacterTaken (.bits v true)) s = .next s) ∧
       exec (.hostCharacterTaken bad) s = .next s) ∧
     (∀ (bytes : List Byte) (last : Nat), s.hpt.receiver = .busy bytes false last →
       exec (.hostCharacterTaken (.bits 0xC3#8 true)) s = .next (s.setReceiver (.busy bytes true s.tick))) ∧
     (∀ (bytes : List Byte) (lead : Bool) (last : Nat), s.hpt.receiver = .busy bytes lead last →
       exec (.hostCharacterTaken bad) s = .next (s.setReceiver .hunting).flagFrameError ∧
       exec (.hostFrameDiscard bad) s = .next (s.setReceiver .hunting).flagFrameError) ∧
     (∀ (bytes : List Byte) (last : Nat) (v : Byte), s.hpt.receiver = .busy bytes true last → v ≠ 0xC3#8 →
       exec (.hostCharacterTaken (.bits v true)) s = .next (s.setReceiver (.busy [v] false s.tick)).flagFrameError ∧
       exec (.hostFrameDiscard (.bits v true)) s = .next (s.setReceiver (.busy [v] false s.tick)).flagFrameError)) ∧
  (∀ (s : State) (bytes : List Byte) (lead : Bool) (last : Nat) (b : Byte), s.settled →
     s.hpt.receiver = .busy bytes lead last → (lead = true ↔ b = 0xC3#8) →
     ∀ joined dropped, joined = Host.Outcome.next (φ := Fault) (ρ := Refusal)
         (s.setReceiver (.busy (bytes ++ [b]) false s.tick)) →
       dropped = Host.Outcome.next (φ := Fault) (ρ := Refusal) (s.setReceiver .hunting).flagFrameError →
       (bytes = [] → exec (.hostCharacterTaken (.bits b true)) s = joined) ∧
       (bytes ≠ [] → ∀ n, n = at16 (bytes ++ [b]) 0 →
         (n < 2 ∨ 1022 < n →
           exec (.hostCharacterTaken (.bits b true)) s = dropped ∧ exec (.hostFrameDiscard (.bits b true)) s = dropped) ∧
         (2 ≤ n → n ≤ 1022 →
           (bytes.length + 1 ≠ 4 + n → exec (.hostCharacterTaken (.bits b true)) s = joined) ∧
           (bytes.length + 1 = 4 + n → at16 (bytes ++ [b]) (2 + n) ≠ (crcOf ((bytes ++ [b]).take (2 + n))).toNat →
             exec (.hostCharacterTaken (.bits b true)) s = dropped ∧
             exec (.hostFrameDiscard (.bits b true)) s = dropped))) ∧
       (∀ x, s.discards x = false → exec (.hostFrameDiscard x) s = .next s)) ∧
  (∀ s : State, s.settled →
     (∀ (bytes : List Byte) (lead : Bool) (last : Nat), s.hpt.receiver = .busy bytes lead last →
       exec .hostGapTimeout s =
         .next ({ s with tick := max s.tick (last + 51) }.setReceiver .hunting).flagFrameError) ∧
     (s.hpt.receiver = .hunting → exec .hostGapTimeout s = .next s)) ∧
  (∀ (c : Instr) (kind tag : Byte) (data : List Byte) (s : State),
     frameOf c = some (kind, tag, data) → 1020 < data.length → s.settled → exec c s = .next s.framed.flagFrameError)

/-- R170, R172: the character that completes a frame does what the request command of the frame's kind, tag and data
does. -/
def Obligations.CompleteFramesRunTheirRow : Prop :=
  ∀ (x : HostChar) (c : Instr) (kind tag : Byte) (data : List Byte) (s : State),
    frameOf c = some (kind, tag, data) → (recvTake s.hpt.receiver x.judged s.tick).2 = .complete kind tag data →
    exec (.hostCharacterTaken x) s = exec c s

/-- R171: a request whose frame finds sixteen replies queued is discarded with HOST_FRAME_ERROR and changes nothing
else. R173: the reply whose last character has left the line leaves the queue; nothing else changes. -/
def Obligations.FullReplyQueueDiscardsTheFrame : Prop :=
  (∀ (c : Instr) (kind tag : Byte) (data : List Byte) (s : State),
     frameOf c = some (kind, tag, data) → data.length ≤ 1020 → s.settled → 16 ≤ s.hpt.replies.length →
     exec c s = .next s.framed.flagFrameError) ∧
  (∀ s : State, s.settled →
     exec .replySent s = .next { s with hpt := { s.hpt with replies := s.hpt.replies.tail } })

/-- R174, order 1: a kind that names no request is refused UNKNOWN_KIND (0x01), whatever its data and the service state.
R174, order 2: data of the wrong length for the kind, or for a count it carries, is refused BAD_LENGTH (0x02) before any
other check. R174, order 3: without a committed description the requests that need one are refused WRONG_STATE (0x03).
R1, R2, R11, R174: in IN_SERVICE and SUSPENDED, LD_BEGIN, the eight table messages and LD_COMMIT are refused WRONG_STATE
(0x03). -/
def Obligations.RequestsAreRefusedInTheOrderOfTheirChecks : Prop :=
  (∀ (kind tag : Byte) (data : List Byte) (s : State),
     kindIsKnown kind = false → data.length ≤ 1020 → s.ready →
     exec (.unknownKind kind tag data) s = .next (s.framed.reply { refused := true, tag := tag, data := [0x01#8] })) ∧
  (∀ (c : Instr) (kind tag : Byte) (data : List Byte) (s : State),
     frameOf c = some (kind, tag, data) → data.length ≤ 1020 → s.ready → lengthOk kind data = false →
     exec c s = .next (s.framed.reply { refused := true, tag := tag, data := [0x02#8] })) ∧
  (∀ (c : Instr) (kind tag : Byte) (data : List Byte) (s : State),
     frameOf c = some (kind, tag, data) → data.length ≤ 1020 → s.ready → lengthOk kind data = true →
     needsDescription kind = true → s.lds.service = .unconfigured →
     exec c s = .next (s.framed.reply { refused := true, tag := tag, data := [0x03#8] })) ∧
  (∀ (c : Instr) (kind tag : Byte) (data : List Byte) (s : State),
     frameOf c = some (kind, tag, data) → data.length ≤ 1020 → s.ready → lengthOk kind data = true →
     loadsTable kind = true ∨ kind = 0x17#8 → s.lds.service = .inService ∨ s.lds.service = .suspended →
     exec c s = .next (s.framed.reply { refused := true, tag := tag, data := [0x03#8] }))

/-- R177: FETCH_REPORTS. The two counts of the reply are one byte each (log entry 16). -/
def Obligations.FetchReportsDeliversTheOldest : Prop :=
  ∀ (tag n : Byte) (s : State), s.ready →
    (1 ≤ n.toNat → n.toNat ≤ 16 →
      exec (.fetchReports tag [n]) s = .next
        ((s.framed.setReports (s.hpt.reports.drop n.toNat)).reply
          { refused := false, tag := tag,
            data := u8 (min n.toNat s.hpt.reports.length) ++ u8 (s.hpt.reports.length - n.toNat) ++
              (s.hpt.reports.take n.toNat).flatMap Report.bytes })) ∧
    (n.toNat = 0 ∨ 16 < n.toNat →
      exec (.fetchReports tag [n]) s =
        .next (s.framed.reply { refused := true, tag := tag, data := [0x04#8] }))

/-- R179: READ_CONDITIONS. The set bytes and the byte of causes are those of section 11.6 and log entry 16. -/
def Obligations.ReadConditionsReturnsAndClearsTheFlags : Prop :=
  ∀ (tag : Byte) (s : State), s.ready →
    exec (.readConditions tag []) s = .next
      ({ s.framed with hpt := { s.framed.hpt with
          flags := { Conditions.none with linkFault := s.hpt.causes.linkFault, powerAlert := s.hpt.causes.powerAlert,
                                          incidentOpen := s.hpt.causes.incidentOpen } } }.reply
        { refused := false, tag := tag,
          data := u8 s.hpt.flags.toNat ++ u8 s.hpt.causes.toNat ++ u8 s.hpt.reports.length })

/-- R180: SET_MASKS. -/
def Obligations.SetMasksReplacesTheThreeParts : Prop :=
  ∀ (tag a b x : Byte) (s : State), s.ready →
    (a.toNat ≤ 127 → b.toNat ≤ 63 → x.toNat ≤ 1 →
      exec (.setMasks tag [a, b, x]) s = .next
        ({ s.framed with hpt := { s.framed.hpt with
            condMask := Conditions.ofNat a.toNat, classMask := ClassMask.ofNat b.toNat,
            attention := x.toNat == 1 } }.reply { refused := false, tag := tag, data := [a, b, x] })) ∧
    (127 < a.toNat ∨ 63 < b.toNat ∨ 1 < x.toNat →
      exec (.setMasks tag [a, b, x]) s =
        .next (s.framed.reply { refused := true, tag := tag, data := [0x04#8] })) ∧
    (Conditions.ofNat a.toNat).toNat = a.toNat % 128 ∧ (ClassMask.ofNat b.toNat).toNat = b.toNat % 64

/-- R176, R181: how a report is judged, and when ATTN is asserted: while RESET is asserted the pin is deasserted,
whatever the state; otherwise it is asserted while an unmasked condition is flagged or a report waits with
report-attention on. That the level of RESET is an input and no state is the model's choice (log entry 22). -/
def Obligations.ReportsAndAttention : Prop :=
  (∀ (k : ReportKind) (x : Option Subject) (a b : Option Nat) (s : State),
    (s.hpt.classMask.masks k = true → s.report k x a b = s) ∧
    (s.hpt.classMask.masks k = false → s.hpt.reports.length < 64 →
      s.report k x a b = s.setReports (s.hpt.reports ++
        [{ kind := k, time := s.clock.time, subject := x, detail1 := a, detail2 := b }])) ∧
    (s.hpt.classMask.masks k = false → 64 ≤ s.hpt.reports.length →
      s.report k x a b =
        { s with hpt := { s.hpt with flags := { s.hpt.flags with reportOverflow := true } } })) ∧
  (∀ s : State, s.attn = true ↔
    ((s.hpt.flags.restarted = true ∧ s.hpt.condMask.restarted = false) ∨
     (s.hpt.flags.hostFrameError = true ∧ s.hpt.condMask.hostFrameError = false) ∨
     (s.hpt.flags.reportOverflow = true ∧ s.hpt.condMask.reportOverflow = false) ∨
     (s.hpt.flags.linkFault = true ∧ s.hpt.condMask.linkFault = false) ∨
     (s.hpt.flags.powerAlert = true ∧ s.hpt.condMask.powerAlert = false) ∨
     (s.hpt.flags.incidentOpen = true ∧ s.hpt.condMask.incidentOpen = false) ∨
     (s.hpt.flags.incidentOverflow = true ∧ s.hpt.condMask.incidentOverflow = false) ∨
     (s.hpt.reports ≠ [] ∧ s.hpt.attention = true))) ∧
  (∀ s : State, s.attnPin true = false ∧ s.attnPin false = s.attn)

/-! ### Queries, description, service and clock (01) -/

/-- R57, R65, R89, R132, R143, R167: a query adds its reply and changes nothing else. R17: IDENTIFY answers the
identity, the capacities, the service state, the description and the line clock. The widths of the capacities and the
set byte of loaded tables are the model's choice (log entry 16). R57, R65, R89, R132, R143, R167: what the queries
answer. The layouts of the results are those of log entry 16. That TRAIN_QUERY sends no permit of a stand is the model's
choice (log entry 44). -/
def Obligations.QueriesAnswerAndChangeNothing : Prop :=
  (∀ (tag : Byte) (d : List Byte) (s : State), s.ready → d.length ≤ 1020 →
     ∀ c ∈ [Instr.ttQuery tag d, .trainQuery tag d, .secQuery tag d, .incQuery tag d, .annQuery tag d,
            .elementQuery tag d, .identify tag d],
       ∃ r : Reply, r.tag = tag ∧ exec c s = .next (s.framed.reply r)) ∧
  (∀ (tag : Byte) (s : State), s.ready →
     exec (.identify tag []) s = .next (s.framed.reply
       { refused := false, tag := tag,
         data := [0x3D#8, 0x17#8, 0x08#8, 0x20#8, 0x42#8] ++
           [32#8, 24#8, 12#8, 8#8, 0x01#8, 0x00#8, 8#8, 40#8, 0x04#8, 0x00#8, 32#8, 28#8, 64#8, 0x03#8, 0xFE#8] ++
           u8 s.lds.service.code ++ flag8 s.lds.committed ++ u8 s.lds.loaded ++
           u24 s.clock.time ++ flag8 s.clock.running ++ flag8 s.clock.limitReported })) ∧
  (∀ (tag : Byte) (s : State), s.ready →
     (∀ i e, i < 256 → s.entry? i = some e →
       exec (.elementQuery tag (u8 i)) s = .next (s.framed.done tag (s.entryBytes e))) ∧
     (s.lds.service ≠ .unconfigured →
       (∀ k skip, k < s.stopCount → k < 256 → skip ≤ 1023 →
         exec (.ttQuery tag (u8 0 ++ u16 k ++ u16 skip)) s = .next (s.framed.done tag
           (selectedBytes (s.window.entries.filter (fun e => e.stop == k)) skip ++
             lastBytes ((s.window.last[k]?).join)))) ∧
       (∀ trip skip, 1 ≤ trip → trip ≤ 9999 → skip ≤ 1023 →
         exec (.ttQuery tag (u8 1 ++ u16 trip ++ u16 skip)) s = .next (s.framed.done tag
           (selectedBytes (s.window.entries.filter (fun e => e.trip == trip)) skip))) ∧
       (∀ i, i < 40 → s.train? i = none →
         exec (.trainQuery tag (u8 1 ++ u16 i)) s = .next (s.framed.done tag [0x00#8])) ∧
       (∀ i t, i < 40 → s.train? i = some t →
         exec (.trainQuery tag (u8 1 ++ u16 i)) s = .next (s.framed.done tag (s.trainBytes i t))) ∧
       (∀ i r, i < 24 → i < s.sectCount → s.sect? i = some r →
         exec (.secQuery tag (u8 i)) s = .next (s.framed.done tag (s.sectBytes i r))) ∧
       exec (.incQuery tag (u16 0)) s = .next (s.framed.done tag s.incListBytes) ∧
       (∀ n x, 1 ≤ n → n ≤ 65535 → s.incident? n = some x →
         exec (.incQuery tag (u16 n)) s = .next (s.framed.done tag
           (x.bytes s.tick ++ x.remaining s.tick ++ list8 (s.effective x)))) ∧
       (∀ i r, i < 32 → s.station? i = some r →
         exec (.annQuery tag (u8 i)) s = .next (s.framed.done tag (s.stationBytes r)))))

/-- R1 to R10: in UNCONFIGURED each table message in range is loaded whole, LD_BEGIN empties the store, and nothing else
changes but the reply. R1, R12, R36, R61, R72, R90, R150, R168: in CONFIGURED LD_BEGIN and every table message in range
withdraw the description: every block drops what it built, every link that is not DISABLED becomes so, emptied with its
carrier kept, the change is reported SERVICE_STATE and LINK_STATE, and the working values, the next incident number, the
staging record and the clock are kept. R2 to R10: in UNCONFIGURED and CONFIGURED a table message of the right length
with a value out of range is refused BAD_VALUE (0x04), and nothing else changes. R3 to R10: the ranges that each table
message is judged by, field by field. That a feeder place within its count is taken whatever it carries, 0xFF as element
255, is the model's choice (log entry 43). -/
def Obligations.TablesLoadAndWithdraw : Prop :=
  (∀ (tag : Byte) (d : List Byte) (s : State), s.ready → s.lds.service = .unconfigured → d.length ≤ 1020 →
     exec (.ldBegin tag []) s = .next ((s.framed.setLds Lds.empty).done tag []) ∧
     (d.length = 1 + 4 * at8 d 0 → stationsOk (readStations d) = true →
       exec (.ldStations tag d) s = .next
         ((s.framed.setLds { s.lds with stations := some (readStations d), committed := false }).done tag [])) ∧
     (d.length = 1 + 9 * at8 d 0 → runsOk (readRuns d) = true →
       exec (.ldRuns tag d) s = .next
         ((s.framed.setLds { s.lds with runs := some (readRuns d), committed := false }).done tag [])) ∧
     (d.length = 1 + 7 * at8 d 0 + 2 * ((at8 d 0 + 1) / 2) → sectionsOk d = true →
       exec (.ldSections tag d) s = .next
         ((s.framed.setLds { s.lds with sections := some (readSections d), committed := false }).done tag [])) ∧
     (d.length = 1 + 12 * at8 d 0 → substationsOk d = true →
       exec (.ldSubstations tag d) s = .next
         ((s.framed.setLds { s.lds with substations := some (readSubstations d), committed := false }).done tag [])) ∧
     (d.length = 2 + 3 * at16 d 0 → elementsOk d = true →
       exec (.ldElements tag d) s = .next
         ((s.framed.setLds { s.lds with elements := some (readElements d), committed := false }).done tag [])) ∧
     (d.length = 40 → linksOk d = true →
       exec (.ldLinks tag d) s = .next
         ((s.framed.setLds { s.lds with links := some (readLinks d), committed := false }).done tag [])) ∧
     (∀ z, zonesOf d = some z → zonesOk z = true →
       exec (.ldZones tag d) s = .next
         ((s.framed.setLds { s.lds with zones := some z, committed := false }).done tag [])) ∧
     (d.length = 56 → (readParams d).ok = true →
       exec (.ldParams tag d) s = .next
         ((s.framed.setLds { s.lds with params := some (readParams d), committed := false }).done tag []))) ∧
  (∀ (tag : Byte) (d : List Byte) (c : Instr) (l : Lds) (s : State), s.ready → s.linksBounded →
     s.lds.service = .configured → d.length ≤ 1020 →
     ((c = .ldBegin tag [] ∧ l = Lds.empty) ∨
      (c = .ldStations tag d ∧ d.length = 1 + 4 * at8 d 0 ∧ stationsOk (readStations d) = true ∧
        l = { s.lds with stations := some (readStations d) }) ∨
      (c = .ldRuns tag d ∧ d.length = 1 + 9 * at8 d 0 ∧ runsOk (readRuns d) = true ∧
        l = { s.lds with runs := some (readRuns d) }) ∨
      (c = .ldSections tag d ∧ d.length = 1 + 7 * at8 d 0 + 2 * ((at8 d 0 + 1) / 2) ∧ sectionsOk d = true ∧
        l = { s.lds with sections := some (readSections d) }) ∨
      (c = .ldSubstations tag d ∧ d.length = 1 + 12 * at8 d 0 ∧ substationsOk d = true ∧
        l = { s.lds with substations := some (readSubstations d) }) ∨
      (c = .ldElements tag d ∧ d.length = 2 + 3 * at16 d 0 ∧ elementsOk d = true ∧
        l = { s.lds with elements := some (readElements d) }) ∨
      (c = .ldLinks tag d ∧ d.length = 40 ∧ linksOk d = true ∧ l = { s.lds with links := some (readLinks d) }) ∨
      (c = .ldZones tag d ∧ ∃ z, zonesOf d = some z ∧ zonesOk z = true ∧ l = { s.lds with zones := some z }) ∨
      (c = .ldParams tag d ∧ d.length = 56 ∧ (readParams d).ok = true ∧
        l = { s.lds with params := some (readParams d) })) →
     ∃ t, exec c s = .next t ∧ t.lds = { l with committed := false, service := .unconfigured } ∧
       t.mirror = [] ∧ t.window = Window.empty ∧ t.reg = Register.empty ∧
       t.rgl = Regulator.cleared s.rgl.beta s.rgl.threshold 0 ∧ t.tsv = Supervisor.empty ∧
       t.inc = IncidentMgr.cleared s.inc.next ∧ t.anp = Publisher.cleared s.anp.staging ∧ t.clock = s.clock ∧
       t.hpt.replies = s.hpt.replies ++ [{ refused := false, tag := tag, data := [] }] ∧
       (∀ (i : Nat) (x : LinkRec), s.links[i]? = some x →
         t.links[i]? = some (if x.state = .disabled then x else LinkRec.reset x.carrier)) ∧
       (s.hpt.classMask.service = false → s.hpt.classMask.field = false → s.hpt.reports.length ≤ 55 →
         (∀ x ∈ s.links, x.state ≠ .disabled → x.asm = .hunting) →
         t.hpt.reports = s.hpt.reports ++
           [{ kind := .serviceState, time := s.clock.time, subject := none, detail1 := some 1, detail2 := some 0 }] ++
           (s.links.zipIdx.filter (fun x => x.1.state != .disabled)).map (fun x =>
             { kind := .linkState, time := s.clock.time, subject := some (.link x.2), detail1 := some x.1.state.code,
               detail2 := some 0 }))) ∧
  (∀ (tag : Byte) (d : List Byte) (c : Instr) (s : State), s.ready →
     s.lds.service = .unconfigured ∨ s.lds.service = .configured → d.length ≤ 1020 →
     ((c = .ldStations tag d ∧ d.length = 1 + 4 * at8 d 0 ∧ stationsOk (readStations d) = false) ∨
      (c = .ldRuns tag d ∧ d.length = 1 + 9 * at8 d 0 ∧ runsOk (readRuns d) = false) ∨
      (c = .ldSections tag d ∧ d.length = 1 + 7 * at8 d 0 + 2 * ((at8 d 0 + 1) / 2) ∧ sectionsOk d = false) ∨
      (c = .ldSubstations tag d ∧ d.length = 1 + 12 * at8 d 0 ∧ substationsOk d = false) ∨
      (c = .ldElements tag d ∧ d.length = 2 + 3 * at16 d 0 ∧ elementsOk d = false) ∨
      (c = .ldLinks tag d ∧ d.length = 40 ∧ linksOk d = false) ∨
      (c = .ldZones tag d ∧ ∃ z, zonesOf d = some z ∧ zonesOk z = false) ∨
      (c = .ldParams tag d ∧ d.length = 56 ∧ (readParams d).ok = false)) →
     exec c s = .next (s.framed.reply { refused := true, tag := tag, data := [0x04#8] })) ∧
  ((∀ d : List Byte, stationsOk (readStations d) = true ↔
     2 ≤ at8 d 0 ∧ at8 d 0 ≤ 32 ∧ ∀ j, j < at8 d 0 → at8 d (1 + 4 * j) ≤ 23) ∧
   (∀ d : List Byte, runsOk (readRuns d) = true ↔
     1 ≤ at8 d 0 ∧ at8 d 0 ≤ 31 ∧ ∀ j, j < at8 d 0 → at8 d (1 + 9 * j) ≤ 23 ∧
       ∀ x ∈ [at16 d (1 + 9 * j + 1), at16 d (1 + 9 * j + 3), at16 d (1 + 9 * j + 5), at16 d (1 + 9 * j + 7)],
         20 ≤ x ∧ x ≤ 900) ∧
   (∀ d : List Byte, sectionsOk d = true ↔
     1 ≤ at8 d 0 ∧ at8 d 0 ≤ 24 ∧
     (∀ j i, j < at8 d 0 → i = 1 + 7 * j → at8 d i ≤ 2 ∧ 1 ≤ at8 d (i + 3) ∧ at8 d (i + 3) ≤ 10 ∧ at8 d (i + 4) ≤ 3 ∧
       (at8 d (i + 5) = 0xFF ∨ at8 d (i + 6) ≤ 3)) ∧
     (∀ m, m < (at8 d 0 + 1) / 2 → at8 d (1 + 7 * at8 d 0 + 2 * m + 1) ≤ 2)) ∧
   (∀ d : List Byte, substationsOk d = true ↔
     1 ≤ at8 d 0 ∧ at8 d 0 ≤ 12 ∧ ∀ j i, j < at8 d 0 → i = 1 + 12 * j →
       10 ≤ at16 d i ∧ at16 d i ≤ 400 ∧ 1 ≤ at8 d (i + 3) ∧ at8 d (i + 3) ≤ 8) ∧
   (∀ d : List Byte, elementsOk d = true ↔
     1 ≤ at16 d 0 ∧ at16 d 0 ≤ 256 ∧ ∀ j i, j < at16 d 0 → i = 2 + 3 * j →
       at8 d i ≤ 4 ∧ (at8 d i ≠ 0 → at8 d (i + 1) ≤ 7 ∧ 1 ≤ at8 d (i + 2) ∧ at8 d (i + 2) ≤ 254)) ∧
   (∀ d : List Byte, linksOk d = true ↔
     ∀ j i, j < 8 → i = 5 * j → at8 d i ≤ 1 ∧ (at8 d i = 1 → at8 d (i + 1) ≤ 4 ∧ 100 ≤ at16 d (i + 2) ∧
       at16 d (i + 2) ≤ 2000 ∧ at8 d (i + 4) ∈ [4, 8, 12, 14])) ∧
   (∀ z : List (List Nat), zonesOk z = true ↔
     1 ≤ z.length ∧ z.length ≤ 8 ∧ ∀ l ∈ z, l.length ≤ 32 ∧ ∀ i ∈ l, i ≤ 31) ∧
   (∀ p : Params, ∀ a b c e : Nat, p.runLoad = [a, b, c, e] → (p.ok = true ↔
     (10 ≤ p.wMin ∧ p.wMin ≤ 60 ∧ 30 ≤ p.wMax ∧ p.wMax ≤ 300 ∧ p.wMin ≤ p.wMax ∧ p.wMin ≤ p.wDefault ∧
      p.wDefault ≤ p.wMax ∧ p.beta ≤ 8 ∧ 60 ≤ p.hNom ∧ p.hNom ≤ 900 ∧ 60 ≤ p.threshold ∧ p.threshold ≤ 900 ∧
      1 ≤ p.stopsAhead ∧ p.stopsAhead ≤ 4 ∧ 1 ≤ p.delayText ∧ p.delayText ≤ 1023 ∧ 5 ≤ p.startWindow ∧
      p.startWindow ≤ 60 ∧ 5 ≤ p.startLoad ∧ p.startLoad ≤ 60 ∧ a ≤ 40 ∧ b ≤ a ∧ c ≤ b ∧ e ≤ c ∧ p.auxLoad ≤ 10 ∧
      30 ≤ p.permitWait ∧ p.permitWait ≤ 600 ∧ 300 ≤ p.stale ∧ p.stale ≤ 3600 ∧ 600 ≤ p.nominal ∧ p.nominal ≤ 1500 ∧
      1 ≤ p.breakerExec ∧ p.breakerExec ≤ 20 ∧ 1 ≤ p.platformExec ∧ p.platformExec ≤ 5 ∧ 1 ≤ p.displayExec ∧
      p.displayExec ≤ 30 ∧ ∀ x ∈ p.autoTexts, x ≤ 1023))))

/-- R11: LD_COMMIT refused: the first absent table by its code, or the first offending place; in CONFIGURED it is
answered DONE and changes nothing. R11: the checks of LD_COMMIT: tables in their order, places in ascending order, and
for each place the first check of its table that fails. Two clauses are the model's choice: ZONE_TWICE names the lowest
station that an earlier zone lists (log entry 36), and the tie of a lone pair gives no role (log entry 35). R11, R36,
R37, R61, R90, R110, R111, R128, R150, R168: LD_COMMIT with consistent tables: the line is CONFIGURED, every block has
built its records, SERVICE_STATE is reported, each used link is UP, its elements listed for a poll, or DOWN, its
LINK_LOSS raised, by its carrier and reported LINK_STATE, before the raise (log entry 46), each unused link stands as it
was, and the reply is DONE. R37, R61, R90, R110, R111, R152, R168: the records that a commit builds: mirror entries
UNKNOWN without value or order, by ascending element; sections UNKNOWN with no flag, sequence or timer; pairs in their
initial mode, a lone one INDEPENDENT; substations unmeasured; station layers empty and NEVER_SENT, or NO_DISPLAY;
triggers OFF; an empty window; no stand. That a lone pair's record has no tie is the model's choice (log entry 35). -/
def Obligations.CommitIsJudgedAndBuildsTheRecords : Prop :=
  (∀ (tag : Byte) (s : State), s.ready →
     (s.lds.service = .configured → exec (.ldCommit tag []) s = .next (s.framed.done tag [])) ∧
     (s.lds.service = .unconfigured →
       (∀ n, s.lds.missing = some n →
         exec (.ldCommit tag []) s = .next (s.framed.reply
           { refused := true, tag := tag, data := [0x18#8] ++ u8 n ++ [0#8, 0#8, 1#8] })) ∧
       (∀ table index check, s.lds.missing = none → s.commitCheck = some (.inconsistent table index check) →
         exec (.ldCommit tag []) s = .next (s.framed.reply
           { refused := true, tag := tag, data := [0x18#8] ++ u8 table ++ u16 index ++ u8 check })) ∧
       (∀ c, s.commitCheck = some c → ∃ table index check, c = .inconsistent table index check))) ∧
  (∀ s : State,
     (s.lds.missing = none →
       s.commitCheck = (firstOf 1 s.stations s.stationCheck).or ((s.runsCheck).or
         ((firstOf 3 s.sectRows s.sectionCheck).or ((firstOf 4 s.subRows s.substationCheck).or
           ((firstOf 5 s.elemRows s.elementCheck).or s.zonesCheck))))) ∧
     (∀ (α : Type) (table : Nat) (rows : List α) (check : Nat → α → Option Nat),
       (firstOf table rows check = none ↔ ∀ i r, rows[i]? = some r → check i r = none) ∧
       (∀ i c, firstOf table rows check = some (.inconsistent table i c) ↔
         (∃ r, rows[i]? = some r ∧ check i r = some c) ∧
           ∀ j r, j < i → rows[j]? = some r → check j r = none)) ∧
     (∀ i r, s.stationCheck i r =
       if s.sectRows.length ≤ r.sect ∨ ∃ e ∈ r.roles, s.elemRows.length ≤ e then some 2
       else if s.kindOf r.up ≠ some .platform ∨ s.kindOf r.down ≠ some .platform ∨
         (∃ e, r.display = some e ∧ s.kindOf e ≠ some .display) then some 3
       else if (∃ e ∈ r.roles, e ∈ (s.stations.take i).flatMap StationRow.roles) ∨ ¬ r.roles.Nodup then some 4
       else none) ∧
     (s.runs.length + 1 ≠ s.stations.length → s.runsCheck = some (.inconsistent 2 0 5)) ∧
     (s.runs.length + 1 = s.stations.length → s.runsCheck = firstOf 2 s.runs (fun _ r =>
       if s.sectRows.length ≤ r.sect then some 2
       else if r.upMax < r.upMin ∨ r.downMax < r.downMin then some 6 else none)) ∧
     (∀ i (r : SectionRow), s.sectionCheck i r =
       if r.feeders = [] then some 7
       else if (∃ e ∈ r.feeders, s.elemRows.length ≤ e) ∨ (∃ e, s.pairTie i = some e ∧ s.elemRows.length ≤ e) ∨
         (∃ x, r.source = some x ∧ s.elemRows.length ≤ x.1) then some 2
       else if (∃ e ∈ r.feeders, s.kindOf e ≠ some .breaker) ∨ (∃ e, s.pairTie i = some e ∧ s.kindOf e ≠ some .breaker) ∨
         (∃ x, r.source = some x ∧ s.kindOf x.1 ≠ some .meter) then some 3
       else if (∃ e ∈ s.sectRoles i r, e ∈ s.rolesBefore i) ∨ ¬ (s.sectRoles i r).Nodup then some 4
       else if (r.chargeCheck = true ∨ r.underCheck = true) ∧ r.source = none then some 8
       else if (i % 2 = 0 ∧ i + 1 = s.sectRows.length) ∧
         (∃ p, s.pairRows[i / 2]? = some p ∧ p.mode ≠ .independent) then some 9
       else if ∃ e ∈ r.feeders, ∀ x ∈ s.subRows, e ∉ x.feeders then some 10 else none) ∧
     (∀ i (r : SubstationRow), s.substationCheck i r =
       if s.elemRows.length ≤ r.meter ∨ (∃ e ∈ r.feeders, s.elemRows.length ≤ e) then some 2
       else if s.kindOf r.meter ≠ some .meter ∨ (∃ e ∈ r.feeders, ∀ x ∈ s.sectRows, e ∉ x.feeders) then some 3
       else if r.meter ∈ s.rolesBefore s.sectRows.length ++ (s.subRows.take i).map (·.meter) ∨
         (∃ e ∈ r.feeders, ∃ x ∈ s.subRows.take i, e ∈ x.feeders) then some 4 else none) ∧
     (∀ i (r : ElementRow), s.elementCheck i r =
       if r.kind = none then none
       else if (s.linkRows[r.link]?).join = none then some 11
       else if ∃ x ∈ s.elemRows.take i, x.kind ≠ none ∧ x.link = r.link ∧ x.addr = r.addr then some 12 else none) ∧
     (∀ z l, s.zoneCheck z l =
       if ∃ i ∈ l, s.stations.length ≤ i then some (z, 2)
       else ((List.range s.stations.length).find? (fun i =>
         l.contains i && (s.zones.take z).any (fun x => x.contains i))).map (fun i => (i, 13))) ∧
     (s.zonesCheck = none ↔ (∀ z l, s.zones[z]? = some l → s.zoneCheck z l = none) ∧
       ∀ i, i < s.stations.length → ∃ l ∈ s.zones, i ∈ l) ∧
     (∀ i c, s.zonesCheck = some (.inconsistent 7 i c) ↔
       (∃ z l, s.zones[z]? = some l ∧ s.zoneCheck z l = some (i, c) ∧
         ∀ y k, y < z → s.zones[y]? = some k → s.zoneCheck y k = none) ∨
       ((∀ z l, s.zones[z]? = some l → s.zoneCheck z l = none) ∧ c = 14 ∧ i < s.stations.length ∧
         (∀ l ∈ s.zones, i ∉ l) ∧ ∀ j, j < i → ∃ l ∈ s.zones, j ∈ l))) ∧
  (∀ (tag : Byte) (s : State), s.ready → s.linksBounded → s.tablesBounded → s.lds.service = .unconfigured →
     s.commitCheck = none →
     ∃ t, exec (.ldCommit tag []) s = .next t ∧
       t.lds = { s.lds with service := .configured, committed := true } ∧ t.clock = s.clock ∧
       t.hpt.replies = s.hpt.replies ++ [{ refused := false, tag := tag, data := [] }] ∧
       t.mirror.map (fun e => { e with seq := 0 }) = s.builtMirror ∧ t.window = s.builtWindow ∧
       t.rgl = Regulator.cleared (some s.params.beta) (some s.params.threshold) s.sectCount ∧
       t.tsv = s.builtSupervisor ∧ t.anp = s.builtPublisher ∧
       (∀ i, i < 8 → (s.linkRows[i]?).join = none → t.links[i]? = s.links[i]?) ∧
       (∀ i c b, (s.linkRows[i]?).join = some c → s.links[i]? = some (LinkRec.reset b) →
         ∃ x, t.links[i]? = some x ∧
           { x with polls := [], sender := none } =
             { LinkRec.reset b with cfg := some c, state := if b = true then .up else .down } ∧
           (b = false → x.polls = [] ∧ x.sender = none) ∧
           (b = true → ∀ e ∈ s.builtMirror, e.link = i →
             e.el ∈ x.polls ∨ ∃ q left, x.sender = some { what := .poll e.el e.addr q, left := left })) ∧
       t.inc.table.map (fun x => (x.kind, x.key, x.state)) =
         ((List.range 8).filter (fun i => ((s.linkRows[i]?).join).isSome &&
           (s.links[i]?).any (fun l => !l.carrier))).map (fun i => (.linkLoss, some i, .opened)) ∧
       (s.hpt.classMask = ClassMask.none → s.hpt.reports.length ≤ 47 →
         ∃ rest, t.hpt.reports = s.hpt.reports ++
             { kind := .serviceState, time := s.clock.time, subject := none, detail1 := some 0, detail2 := some 1 } ::
               rest ∧
           rest.filter (fun r => r.kind == .linkState) = (List.range 8).filterMap (fun i =>
             match s.links[i]?, (s.linkRows[i]?).join with
             | some l, some _ =>
               some { kind := .linkState, time := s.clock.time, subject := some (.link i),
                      detail1 := some l.state.code, detail2 := some (if l.carrier then 2 else 1) }
             | _, _ => none))) ∧
  (∀ s : State,
     (∀ e : MirrorEntry, e ∈ s.builtMirror ↔ ∃ r k, s.elemRows[e.el]? = some r ∧ r.kind = some k ∧
       e = { el := e.el, kind := k, link := r.link, addr := r.addr, authority := .unknown, state := .unknown,
             value := none, out := none, succ := none, poll := none, seq := 0 }) ∧
     (s.builtMirror.map (·.el)).Pairwise (· < ·) ∧
     s.builtSupervisor.sects = s.sectRows.map (fun r =>
       { state := .unknown, lockout := false, low := false, demand := false, feeders := r.feeders, seq := none,
         timer := .stopped, stranded := [], lastVolt := none }) ∧
     (∀ m p, s.pairRows[m]? = some p → s.builtSupervisor.pairs[m]? = some
       (if 2 * m + 1 < s.sectRows.length then { mode := p.mode, tie := p.tie }
        else { mode := .independent, tie := none })) ∧
     s.builtSupervisor.pairs.length = s.pairRows.length ∧
     s.builtSupervisor.subs = s.subRows.map (fun r =>
       { capacity := r.capacity, meter := r.meter, feeders := r.feeders, estimate := 0, meas := none, fresh := false,
         staleReported := true, overload := false }) ∧
     s.builtSupervisor.waitList = [] ∧ s.builtSupervisor.permits = [] ∧
     s.builtSupervisor.loads = List.replicate 40 none ∧
     s.builtPublisher.staging = s.anp.staging ∧ s.builtPublisher.triggers = List.replicate s.zones.length .off ∧
     s.builtPublisher.stations.length = s.stations.length ∧
     (∀ i r z, s.stations[i]? = some r → s.zoneOf i = some z → s.builtPublisher.stations[i]? = some
       { display := r.display, zone := z, incident := none, service := none, servicePending := .absent, delay := none,
         routine := none, routinePending := .absent, status := if r.display = none then .noDisplay else .neverSent,
         lastSent := none, inFlight := 0, lastFailure := none, shown := none }) ∧
     s.builtWindow = { entries := [], last := List.replicate (2 * s.stations.length) none } ∧
     (∀ b th n, Regulator.cleared b th n =
       { hostHold := List.replicate 40 false, stands := List.replicate 40 none, beta := b, threshold := th,
         heldStations := [], sectView := List.replicate n (.unknown, false) }))

/-- R13: an action in a state where the table gives no row, and START with the clock stopped, is refused WRONG_STATE and
changes nothing. R13: START, SUSPEND, RESUME and END move the service state as the table gives; the tables and the clock
stand as they did. R13: with no train at a stop, an action's whole effect is the new state, the report SERVICE_STATE and
the reply; for START this is said of a line whose stations, 32 at most, have no display and whose links are all DISABLED
or DOWN, and every station becomes NO_DISPLAY. R13, R56, R106, R164, R166: START marks every station with a display
never sent, judges every station, asks for a poll of every element and plans every stand; a poll of every element leaves
each element of an UP or LOOPBACK link listed or being sent. That START takes the displays, then the polls, then the
stands is the model's choice (log entry 7): the rules give no order between them. -/
def Obligations.ServiceActionsMoveTheState : Prop :=
  (∀ (tag : Byte) (s : State), s.ready →
     let refused := Host.Outcome.next (φ := Fault) (ρ := Refusal)
       (s.framed.reply { refused := true, tag := tag, data := [0x03#8] })
     ((s.lds.service ≠ .configured ∨ s.clock.running = false) → exec (.serviceStart tag) s = refused) ∧
     (s.lds.service ≠ .inService → exec (.serviceSuspend tag) s = refused) ∧
     (s.lds.service ≠ .suspended → exec (.serviceResume tag) s = refused) ∧
     (s.lds.service ≠ .inService ∧ s.lds.service ≠ .suspended → exec (.serviceEnd tag) s = refused)) ∧
  (∀ (tag : Byte) (s : State), s.ready →
     (s.lds.service = .configured → s.clock.running = true → ∃ t, exec (.serviceStart tag) s = .next t ∧
       t.lds = { s.lds with service := .inService } ∧ t.clock = s.clock) ∧
     (s.lds.service = .inService → ∃ t, exec (.serviceSuspend tag) s = .next t ∧
       t.lds = { s.lds with service := .suspended } ∧ t.clock = s.clock) ∧
     (s.lds.service = .suspended → ∃ t, exec (.serviceResume tag) s = .next t ∧
       t.lds = { s.lds with service := .inService } ∧ t.clock = s.clock) ∧
     (s.lds.service = .inService ∨ s.lds.service = .suspended → ∃ t, exec (.serviceEnd tag) s = .next t ∧
       t.lds = { s.lds with service := .configured } ∧ t.clock = s.clock)) ∧
  (∀ (tag : Byte) (s : State), s.ready → (∀ st ∈ s.rgl.stands, st = none) →
     (s.lds.service = .configured → s.clock.running = true → s.anp.stations.length ≤ 32 →
       (∀ r ∈ s.anp.stations, r.display = none) → (∀ l ∈ s.links, l.state = .disabled ∨ l.state = .down) →
       ∀ u, u = (s.framed.setService .inService).report .serviceState none (some 1) (some 2) →
       exec (.serviceStart tag) s = .next (State.done tag [] { u with anp := { u.anp with
         stations := u.anp.stations.map (fun r => { r with status := .noDisplay }) } })) ∧
     (s.lds.service = .inService →
       exec (.serviceSuspend tag) s = .next (((s.framed.setService .suspended).report .serviceState none (some 2)
         (some 3)).done tag []) ∧
       exec (.serviceEnd tag) s = .next (((s.framed.setService .configured).report .serviceState none (some 2)
         (some 1)).done tag [])) ∧
     (s.lds.service = .suspended →
       exec (.serviceResume tag) s = .next (((s.framed.setService .inService).report .serviceState none (some 3)
         (some 2)).done tag []) ∧
       exec (.serviceEnd tag) s = .next (((s.framed.setService .configured).report .serviceState none (some 3)
         (some 1)).done tag []))) ∧
  ((∀ (tag : Byte) (s u : State), s.ready → s.lds.service = .configured → s.clock.running = true →
     u = (s.framed.setService .inService).report .serviceState none (some 1) (some 2) →
     exec (.serviceStart tag) s = .next (settle ((State.eachStand startStand
       (State.posts ((List.range s.anp.stations.length).map Notice.judge ++ [.pollAll])
         { u with anp := { u.anp with stations := u.anp.stations.map (fun r : StationRec =>
             { r with status := if r.display = none then .noDisplay else .neverSent }) } })).post
       (.answer tag (.done []))))) ∧
   (∀ (s : State) (e : MirrorEntry) (l : LinkRec), e ∈ s.mirror → s.links[e.link]? = some l →
     l.state = .up ∨ l.state = .loopback →
     ∃ x, (pollAll s).links[e.link]? = some x ∧
       (e.el ∈ x.polls ∨ ∃ a q left, x.sender = some { what := .poll e.el a q, left := left })))

/-- R15, R14: SET_LINE_TIME: a value above 107,999 is refused BAD_VALUE, a step of more than 30 s in service CLOCK_STEP;
a value taken becomes line time, the clock runs, counting restarts, and the limit-reported flag is cleared below 107,999
and set at it. R14: LINE_TIME_COUNT: a running clock below 107,999 rises by one and its next second is counted on; at
107,999 it stays; a stopped clock does not count. The limit-reported flag is set when 107,999 is reached. The tick is
brought to the end of the second (log entry 4). R14, R71, R98, R160: a new line time, set or counted: SERVICE_DAY_LIMIT
when it is 107,999 for the first time; a counted multiple of 60 releases the zones with a MINUTE trigger in ascending
order; then every stand that has reached T_dep falls due, to HELD or a permit request, by ascending slot, and the
PENDING entries beyond the stale limit leave and are reported. That the minute, the stands and the entries are taken in
this order is the model's choice (log entry 7). -/
def Obligations.LineTimeIsSetAndCounted : Prop :=
  (∀ (tag : Byte) (v : Nat) (s : State), s.ready → v < 16777216 →
     (107999 < v → exec (.setLineTime tag (u24 v)) s =
       .next (s.framed.reply { refused := true, tag := tag, data := [0x04#8] })) ∧
     (v ≤ 107999 → s.lds.service = .inService ∨ s.lds.service = .suspended →
       (v + 30 < s.clock.time ∨ s.clock.time + 30 < v) →
       exec (.setLineTime tag (u24 v)) s = .next (s.framed.reply { refused := true, tag := tag, data := [0x17#8] })) ∧
     (v ≤ 107999 →
       (s.lds.service = .unconfigured ∨ s.lds.service = .configured ∨
         (s.clock.time ≤ v + 30 ∧ v ≤ s.clock.time + 30)) →
       ∃ t, exec (.setLineTime tag (u24 v)) s = .next t ∧ t.lds = s.lds ∧
         t.clock = { time := v, running := true, limitReported := v == 107999, secondEnd := s.tick + 1000 })) ∧
  (∀ s : State, s.settled →
     (s.clock.running = false → exec .lineTimeCount s = .next s) ∧
     (s.clock.running = true → s.clock.time < 107999 →
       ∃ t, exec .lineTimeCount s = .next t ∧ t.lds = s.lds ∧
         t.clock = { time := s.clock.time + 1, running := true,
                     limitReported := s.clock.limitReported || s.clock.time + 1 == 107999,
                     secondEnd := s.clock.secondEnd + 1000 }) ∧
     (s.clock.running = true → 107999 ≤ s.clock.time →
       exec .lineTimeCount s = .next { s with tick := max s.tick s.clock.secondEnd,
                                              clock := { s.clock with secondEnd := s.clock.secondEnd + 1000 } })) ∧
  ((∀ (tag : Byte) (v : Nat) (s : State), s.ready → v ≤ 107999 →
     (s.lds.service = .unconfigured ∨ s.lds.service = .configured ∨
       (s.clock.time ≤ v + 30 ∧ v ≤ s.clock.time + 30)) →
     ∀ u w : State, u = { s.framed with clock :=
       { time := v, running := true, limitReported := v == 107999, secondEnd := s.tick + 1000 } } →
     w = (if v = 107999 ∧ s.clock.limitReported = false then u.report .serviceDayLimit none none none else u) →
     exec (.setLineTime tag (u24 v)) s = .next (settle ((w.posts (s.standSlots.map Notice.due ++ [.expire])).post
       (.answer tag (.done []))))) ∧
   (∀ s : State, s.settled → s.clock.running = true → s.clock.time < 107999 →
     ∀ u w x : State, u = { s with tick := max s.tick s.clock.secondEnd, clock :=
       { time := s.clock.time + 1, running := true,
         limitReported := s.clock.limitReported || s.clock.time + 1 == 107999,
         secondEnd := s.clock.secondEnd + 1000 } } →
     w = (if s.clock.time + 1 = 107999 ∧ s.clock.limitReported = false then
       u.report .serviceDayLimit none none none else u) →
     x = (if (s.clock.time + 1) % 60 = 0 then w.posts
       ((((List.range s.anp.triggers.length).filter (fun z => s.anp.triggers[z]? == some .minute)).flatMap
         (fun z => (List.range s.anp.stations.length).filter (fun i =>
           (s.anp.stations[i]?).any (fun r => r.zone == z)))).map Notice.releaseStation) else w) →
     exec .lineTimeCount s = .next (settle (x.posts (s.standSlots.map Notice.due ++ [.expire])))) ∧
   (∀ s : State, s.standSlots.Pairwise (· < ·) ∧
     (∀ i, i ∈ s.standSlots ↔ i < 40 ∧ ∃ st, s.stand? i = some st) ∧
     (∀ slot, handle (.due slot) s = due slot s) ∧ handle .expire s = expire s) ∧
   (∀ (slot : Nat) (st : Stand) (p : Plan) (s : State), s.stand? slot = some st → st.plan = some p →
     (st.phase = some .dwelling → p.tDep ≤ s.clock.time ∨ s.clock.time = 107999 →
       (s.isHeld slot st = true → due slot s = s.putStand slot { st with phase := some .held }) ∧
       (s.isHeld slot st = false → due slot s =
         (s.putStand slot { st with phase := some .waitingPermit, permit := .requested }).post
           (.permitRequest (s.idOf slot) st.sect))) ∧
     (st.phase = some .dwelling → s.clock.time < p.tDep → s.clock.time ≠ 107999 → due slot s = s) ∧
     (st.phase ≠ some .dwelling → due slot s = s)) ∧
   (∀ (s : State) (stale : TtEntry → Bool),
     stale = (fun e => e.bound.isNone && decide (e.p + s.params.stale < s.clock.time)) →
     expire s = (s.window.entries.filter stale).foldl
       (fun u e => u.report .entryExpired (some (.stop e.stop)) (some e.trip) (some e.p))
       (s.setEntries (s.window.entries.filter (fun e => !stale e)))))

/-- R16, R36, R72, R182: WARM_RESTART keeps the tables, the committed flag and the clock, goes to CONFIGURED or
UNCONFIGURED by the committed flag, and keeps the rate, the masks, the staging record, the triggers and the working
values; it runs out from the state in which every train slot, stand and element value is as the restart leaves it. R16,
R36, R37, R61, R72, R90, R110, R111, R150, R168, R182: what a warm restart of a committed description leaves: entries
UNKNOWN with their values; links UP, their elements listed for a poll, or DOWN, their LINK_LOSS raised, by carrier; the
window, trains and stands gone; sections UNKNOWN with their lockouts, and the demands of the incidents kept; pairs in
their modes; substations unmeasured; host incidents kept, their deadlines set anew; the host's layers kept and the
INCIDENT layer derived; no report but INCIDENT_RAISED. -/
def Obligations.WarmRestartKeepsTheDescription : Prop :=
  (∀ (tag : Byte) (s : State), s.ready →
     ∃ t, exec (.warmRestart tag []) s = .next t ∧
       t = settle (s.framed.done tag []).restart ∧
       t.lds = { s.lds with service := if s.lds.committed then .configured else .unconfigured } ∧ t.clock = s.clock ∧
       t.hpt.rate = s.hpt.rate ∧ t.hpt.condMask = s.hpt.condMask ∧ t.hpt.classMask = s.hpt.classMask ∧
       t.hpt.attention = s.hpt.attention ∧ t.anp.staging = s.anp.staging ∧ t.anp.triggers = s.anp.triggers ∧
       t.rgl.beta = s.rgl.beta ∧ t.rgl.threshold = s.rgl.threshold ∧
       (s.framed.done tag []).restart.reg = Register.empty ∧
       (s.framed.done tag []).restart.hpt.flags = { Conditions.none with restarted := true } ∧
       (s.framed.done tag []).restart.hpt.replies = s.hpt.replies ++ [{ refused := false, tag := tag, data := [] }] ∧
       (∀ x ∈ (s.framed.done tag []).restart.rgl.stands, x = none)) ∧
  (∀ (tag : Byte) (s : State), s.ready → s.linksBounded → s.tablesBounded → s.lds.committed = true →
     ∃ t, exec (.warmRestart tag []) s = .next t ∧
       t.hpt.replies = s.hpt.replies ++ [{ refused := false, tag := tag, data := [] }] ∧
       t.mirror.map (fun e => { e with seq := 0 }) = s.mirror.map (fun e =>
         { e with state := .unknown, authority := .unknown, out := none, succ := none, poll := none, seq := 0 }) ∧
       t.window = s.builtWindow ∧ t.reg = Register.empty ∧
       t.rgl = { Regulator.cleared s.rgl.beta s.rgl.threshold s.sectCount with heldStations := t.heldSet } ∧
       t.tsv = { sects := s.tsv.sects.mapIdx (fun i r => { SectRec.built r.feeders with
                   lockout := r.lockout, demand := t.demandSet.contains i })
                 pairs := s.tsv.pairs
                 subs := s.tsv.subs.map (fun r => { r with estimate := 0, meas := none, fresh := false,
                                                           staleReported := true, overload := false })
                 waitList := [], permits := [], loads := List.replicate 40 none } ∧
       (∀ (i : Nat) (l : LinkRec), s.links[i]? = some l → l.cfg = none → t.links[i]? = some (LinkRec.reset l.carrier)) ∧
       (∀ (i : Nat) (l : LinkRec), s.links[i]? = some l → l.cfg ≠ none →
         ∃ x, t.links[i]? = some x ∧
           { x with polls := [], sender := none } =
             { LinkRec.reset l.carrier with cfg := l.cfg, state := if l.carrier = true then .up else .down } ∧
           (l.carrier = false → x.polls = [] ∧ x.sender = none) ∧
           (l.carrier = true → ∀ e ∈ s.mirror, e.link = i →
             e.el ∈ x.polls ∨ ∃ q left, x.sender = some { what := .poll e.el e.addr q, left := left })) ∧
       (∀ (i : Nat) (r : StationRec), s.station? i = some r → i < s.stationCount → t.station? i = some
         { StationRec.built r.display r.zone with
             service := r.service, servicePending := r.servicePending, routine := r.routine,
             routinePending := r.routinePending, incident := t.incidentLayer i }) ∧
       t.inc.lastHeld = t.heldSet ∧ t.inc.lastDemand = t.demandSet ∧
       ((s.inc.table.filter (fun x => x.kind.isHost)).length ≤ 24 →
         t.inc.table.filter (fun x => x.kind.isHost) = (s.inc.table.filter (fun x => x.kind.isHost)).map (fun x =>
           { x with deadline := if x.state = .opened ∧ x.widened = false
               then some (s.tick + escalationSeconds x.severity * 1000) else none }) ∧
         (t.inc.table.filter (fun x => !x.kind.isHost)).map (fun x => (x.kind, x.key, x.state)) =
           ((List.range 8).filter (fun i => (s.links[i]?).any (fun l : LinkRec => l.cfg.isSome && !l.carrier))).map
             (fun i => (.linkLoss, some i, .opened)) ∧
         t.hpt.flags = { Conditions.none with restarted := true, powerAlert := t.causesNow.powerAlert,
                                              incidentOpen := t.causesNow.incidentOpen } ∧
         ((∀ l ∈ s.links, l.asm = .hunting) →
           (∀ r ∈ t.hpt.reports, r.kind = .incidentRaised) ∧
           ((∀ l ∈ s.links, l.cfg ≠ none → l.carrier = true) → t.hpt.reports = [] ∧ t.inc.next = s.inc.next))))

/-! ### The timetable window (04) -/

/-- R59, R62: TT_APPEND: entries out of range, clashes and a full window are refused whole; otherwise every entry takes
its place, the reply carries the number taken and the free entries, and expired entries leave after it. The widths of
the reply's counts are the model's choice (log entry 16). R60, R62: TT_APPEND is refused DUPLICATE with the position of
the first entry whose trip and stop an earlier entry of the message or one of the window has, else TIME_CLASH with that
of the first entry whose stop and P one has, else TABLE_FULL with the free entries where the message has more; otherwise
it is taken. R63: TT_AMEND: an entry that is not in the window is NOT_FOUND (0x05), a MATCHED one BUSY (0x13), a P that
another entry of the stop has TIME_CLASH (0x11); otherwise P, W and Rp are replaced and the entry takes its new place.
The bytes of the entry in the reply are the model's choice (log entry 16). -/
def Obligations.TtAppendAndTtAmendPlaceEntries : Prop :=
  (∀ (tag : Byte) (d : List Byte) (s : State), s.ready → s.lds.service ≠ .unconfigured →
     d.length = 1 + 10 * at8 d 0 →
     ((at8 d 0 = 0 ∨ 16 < at8 d 0 ∨ ∃ e ∈ readEntries d, s.entryOk e = false) → d.length ≤ 1020 →
       exec (.ttAppend tag d) s = .next (s.framed.reply { refused := true, tag := tag, data := [0x04#8] })) ∧
     (1 ≤ at8 d 0 → at8 d 0 ≤ 16 → (∀ e ∈ readEntries d, s.entryOk e = true) →
       (∀ c, s.appendCheck (readEntries d) = some c →
         exec (.ttAppend tag d) s = .next (s.framed.reply { refused := true, tag := tag, data := c.data })) ∧
       (s.appendCheck (readEntries d) = none →
         exec (.ttAppend tag d) s = .next (expire
           ((s.framed.setEntries (insertAll (readEntries d) s.window.entries)).reply
             { refused := false, tag := tag,
               data := u8 (at8 d 0) ++ u16 (1024 - s.window.entries.length - at8 d 0) })) ∧
         s.window.entries.length + at8 d 0 ≤ 1024 ∧
         (∀ e, e ∈ insertAll (readEntries d) s.window.entries ↔ e ∈ readEntries d ∨ e ∈ s.window.entries))) ∧
     (∀ e : TtEntry, s.entryOk e = true ↔
       1 ≤ e.trip ∧ e.trip ≤ 9999 ∧ e.stop < 2 * s.stations.length ∧ e.p ≤ 107999 ∧ 5 ≤ e.w ∧ e.w ≤ 300 ∧
       ∀ r ∈ e.rp, 20 ≤ r ∧ r ≤ 900 ∧ s.leavingRun e.stop ≠ none)) ∧
  (∀ (es : List TtEntry) (s : State) (same : (TtEntry → TtEntry → Prop) → Nat → Prop) (dup clash : Nat → Prop),
     same = (fun q i => ∃ e, es[i]? = some e ∧
       ((∃ j x, j < i ∧ es[j]? = some x ∧ q e x) ∨ ∃ x ∈ s.window.entries, q e x)) →
     dup = same (fun e x => e.trip = x.trip ∧ e.stop = x.stop) →
     clash = same (fun e x => e.stop = x.stop ∧ e.p = x.p) →
     (∀ i, s.appendCheck es = some (.duplicate (some i)) ↔ dup i ∧ ∀ j, j < i → ¬ dup j) ∧
     (∀ i, s.appendCheck es = some (.timeClash (some i)) ↔
       (∀ j, ¬ dup j) ∧ clash i ∧ ∀ j, j < i → ¬ clash j) ∧
     (∀ n, s.appendCheck es = some (.tableFull (some n)) ↔
       (∀ j, ¬ dup j) ∧ (∀ j, ¬ clash j) ∧ n = 1024 - s.window.entries.length ∧ n < es.length) ∧
     (s.appendCheck es = none ↔
       (∀ j, ¬ dup j) ∧ (∀ j, ¬ clash j) ∧ es.length ≤ 1024 - s.window.entries.length) ∧
     (∀ i, (RefusalCode.duplicate (some i)).data = [0x10#8] ++ u8 i ∧
       (RefusalCode.timeClash (some i)).data = [0x11#8] ++ u8 i ∧
       (RefusalCode.tableFull (some i)).data = [0x12#8] ++ u16 i)) ∧
  (∀ (tag : Byte) (d : List Byte) (s : State), s.ready → s.lds.service ≠ .unconfigured → d.length = 10 →
     s.entryOk (readEntry d 0) = true →
     (s.ttLookup (at16 d 0) (at8 d 2) = none →
       exec (.ttAmend tag d) s = .next (s.framed.reply { refused := true, tag := tag, data := [0x05#8] })) ∧
     (∀ old, s.ttLookup (at16 d 0) (at8 d 2) = some old →
       (old.bound ≠ none →
         exec (.ttAmend tag d) s = .next (s.framed.reply { refused := true, tag := tag, data := [0x13#8] })) ∧
       (old.bound = none →
         ((∃ x ∈ s.window.entries, x.stop = at8 d 2 ∧ x.p = at24 d 3 ∧ x.trip ≠ at16 d 0) →
           exec (.ttAmend tag d) s = .next (s.framed.reply { refused := true, tag := tag, data := [0x11#8] })) ∧
         ((∀ x ∈ s.window.entries, x.stop = at8 d 2 → x.p = at24 d 3 → x.trip = at16 d 0) →
           exec (.ttAmend tag d) s = .next (expire
             ((s.framed.setEntries (insertEntry (readEntry d 0)
                 (s.window.entries.filter (fun x => !(x.trip == at16 d 0 && x.stop == at8 d 2))))).reply
               { refused := false, tag := tag, data := (readEntry d 0).bytes }))))))

/-- R64: TT_CANCEL removes the PENDING entries of a trip and keeps its MATCHED ones, without reports; the kept leave at
their train's confirmed departure, and a train that reaches a stop whose entry was removed finds none. The two counts of
the reply are two bytes each (log entry 16). -/
def Obligations.TtCancelRemovesThePendingEntries : Prop :=
  ∀ (tag : Byte) (trip : Nat) (s : State), s.ready → s.lds.service ≠ .unconfigured → trip < 65536 →
    (trip = 0 ∨ 9999 < trip →
      exec (.ttCancel tag (u16 trip)) s =
        .next (s.framed.reply { refused := true, tag := tag, data := [0x04#8] })) ∧
    (1 ≤ trip → trip ≤ 9999 → (∀ e ∈ s.window.entries, e.trip ≠ trip) →
      exec (.ttCancel tag (u16 trip)) s =
        .next (s.framed.reply { refused := true, tag := tag, data := [0x05#8] })) ∧
    (1 ≤ trip → trip ≤ 9999 → (∃ e ∈ s.window.entries, e.trip = trip) →
      ∃ t, exec (.ttCancel tag (u16 trip)) s = .next t ∧
        t = (s.framed.setEntries (s.window.entries.filter (fun e => e.trip != trip || e.bound.isSome))).reply
          { refused := false, tag := tag,
            data := u16 (s.window.entries.filter (fun e => e.trip == trip && e.bound.isNone)).length ++
              u16 (s.window.entries.filter (fun e => e.trip == trip && e.bound.isSome)).length } ∧
        t.hpt.reports = s.hpt.reports ∧ t.window.last = s.window.last ∧
        (∀ e ∈ s.window.entries, e.bound ≠ none → e ∈ t.window.entries) ∧
        (∀ e train d tr, e ∈ t.window.entries → e.bound = some train →
          e ∉ (t.ttDepart train e.stop tr d).window.entries) ∧
        (∀ train stop, (∀ e ∈ s.window.entries, e.trip = trip → e.stop = stop → e.bound = none) →
          t.bindAnswer train trip stop = .noEntry))

/-! ### The train register and the regulator (05, 06) -/

/-- R86: TRAIN_ADD: an identity in service is DUPLICATE (0x10), forty trains TABLE_FULL (0x12); otherwise the lowest
free slot takes the train UNLOCATED without a stop, the supervisor its load notice, and the reply names the slot. R88:
TRAIN_REMOVE: the applied tentative events are voided, the binding is released, the regulator and the supervisor are
told, STRANDED resolves, the slot is freed, and the reply follows. -/
def Obligations.TrainsAreAddedAndRemoved : Prop :=
  (∀ (tag : Byte) (id trip : Nat) (up : Bool) (s : State), s.ready → s.lds.service ≠ .unconfigured →
     1 ≤ id → id ≤ 999 → trip ≤ 9999 →
     (s.slotOf id ≠ none →
       exec (.trainAdd tag (u16 id ++ u8 (if up then 0 else 1) ++ u16 trip)) s =
         .next (s.framed.reply { refused := true, tag := tag, data := [0x10#8] })) ∧
     (s.slotOf id = none → (∀ x ∈ s.reg.slots, x ≠ none) →
       exec (.trainAdd tag (u16 id ++ u8 (if up then 0 else 1) ++ u16 trip)) s =
         .next (s.framed.reply { refused := true, tag := tag, data := [0x12#8] })) ∧
     (∀ slot, s.slotOf id = none → s.reg.slots[slot]? = some none →
       (∀ j, j < slot → ∃ t, s.reg.slots[j]? = some (some t)) →
       exec (.trainAdd tag (u16 id ++ u8 (if up then 0 else 1) ++ u16 trip)) s = .next (settle
         ((s.framed.setTrain slot
           { id := id, dir := if up then .up else .down, pos := .unlocated, stop := none,
             trip := if trip = 0 then none else some trip, entry := none, following := [], arr := none, dep := none,
             arrLate := 0, depLate := none, terminating := false, permit := false, phase := .run, level := 0,
             startDeadline := none, saved := none }).posts
           [.load slot { train := id, phase := .run, level := 0, sect := none, running := false },
            .answer tag (.done (u8 slot))])))) ∧
  (∀ (tag : Byte) (id i : Nat) (t : Train) (s : State), s.ready → s.lds.service ≠ .unconfigured →
     1 ≤ id → id ≤ 999 → s.slotOf id = some i → s.train? i = some t →
     exec (.trainRemove tag (u16 id)) s = .next (settle
       (((s.framed.voidEvents id).ttRelease id).posts
         ([.trainGone i id] ++ (if t.startDeadline.isSome then [.permitEnded id] else []) ++
          [.resolve .stranded id, .slotFreed i id, .answer tag (.done [])]))))

/-- R87: TRAIN_ASSIGN: a trip the train has is DUPLICATE (0x10); a train without one takes it as current (0), else as a
following trip (1), and with two following TABLE_FULL (0x12). -/
def Obligations.TrainAssignJoinsTheTrips : Prop :=
  ∀ (tag : Byte) (id trip i : Nat) (t : Train) (s : State), s.ready → s.lds.service ≠ .unconfigured →
    1 ≤ id → id ≤ 999 → 1 ≤ trip → trip ≤ 9999 → s.slotOf id = some i → s.train? i = some t →
    (t.trip = some trip ∨ trip ∈ t.following →
      exec (.trainAssign tag (u16 id ++ u16 trip)) s =
        .next (s.framed.reply { refused := true, tag := tag, data := [0x10#8] })) ∧
    (t.trip = none → trip ∉ t.following →
      exec (.trainAssign tag (u16 id ++ u16 trip)) s =
        .next ((s.framed.setTrain i { t with trip := some trip }).done tag [0x00#8])) ∧
    (∀ cur, t.trip = some cur → cur ≠ trip → trip ∉ t.following →
      (t.following.length < 2 →
        exec (.trainAssign tag (u16 id ++ u16 trip)) s =
          .next ((s.framed.setTrain i { t with following := t.following ++ [trip] }).done tag [0x01#8])) ∧
      (2 ≤ t.following.length →
        exec (.trainAssign tag (u16 id ++ u16 trip)) s =
          .next (s.framed.reply { refused := true, tag := tag, data := [0x12#8] })))

/-- R91: TRAIN_HOLD sets and TRAIN_UNHOLD clears HOST; a train with no stand has nothing else, and the reply carries its
hold reasons. With a stand the change of the set acts as R93 gives. That TRAIN_UNHOLD with neither HOST nor FIELD
changes nothing is the model's choice (log entry 34). R93, R101, R102: what a stand's set of hold reasons does when it
becomes non-empty and when it becomes empty, by phase: a waiting request is withdrawn and the stand is HELD; a waiting
release is dropped and the permit returned; a RELEASE in flight or completed is revoked, unless a REVOKE is in flight or
has failed; a HELD stand that is freed requests a permit anew; elsewhere the reasons alone change. R98, R100, R102,
R103, R104, R105, R107: the outcome of a platform order at the stand that awaits it: a DWELL that failed or diverged is
reported and a waiting RELEASE is then issued; a RELEASE that reached its target clears the failures, one that failed
returns the permit, reports the failure, sets FIELD at the second and leaves the stand requesting, HELD, or
NO_REGULATION while SUSPENDED; a REVOKE that reached its target returns the permit, one that failed is noted and raised.
A DWELL in flight that the DWELL of a later plan follows is awaited beside it, its failure reported and the platform
order left (log entry 20). An outcome that no stand awaits is ignored. -/
def Obligations.HoldsAreSetAndActByPhase : Prop :=
  (∀ (tag : Byte) (id i : Nat) (s : State), s.ready → s.slotsShaped → s.lds.service ≠ .unconfigured →
     1 ≤ id → id ≤ 999 → s.slotOf id = some i →
     (s.stand? i = none →
       exec (.trainHold tag (u16 id)) s = .next ((s.framed.setHostHold i true).done tag [0x01#8]) ∧
       exec (.trainUnhold tag (u16 id)) s = .next ((s.framed.setHostHold i false).done tag [0x00#8])) ∧
     (∀ st, s.stand? i = some st →
       exec (.trainHold tag (u16 id)) s = .next (settle
         (((s.framed.setHostHold i true).holdChange i (s.isHeld i st) st).post (.answer tag (.holds id)))) ∧
       (s.hostHeld i = true ∨ st.field = true →
         exec (.trainUnhold tag (u16 id)) s = .next (settle
           (((s.framed.setHostHold i false).holdChange i (s.isHeld i st)
             { st with field := false, relFails := 0 }).post (.answer tag (.holds id))))) ∧
       (s.hostHeld i = false ∧ st.field = false →
         exec (.trainUnhold tag (u16 id)) s = .next (settle (s.framed.post (.answer tag (.holds id))))))) ∧
  (∀ (slot : Nat) (st : Stand) (s : State),
     (∀ b, (s.putStand slot st).isHeld slot st = b → s.holdChange slot b st = s.putStand slot st) ∧
     ((s.putStand slot st).isHeld slot st = true →
       (st.phase = some .waitingPermit →
         s.holdChange slot false st = ((s.putStand slot st).putStand slot
           { st with phase := some .held, permit := .none }).post (.permitWithdraw (s.idOf slot))) ∧
       (∀ tok, st.phase = some .released → st.order = .releaseWaiting tok →
         s.holdChange slot false st = ((s.putStand slot st).putStand slot
           { st with phase := some .held, permit := .none, order := .dwell tok }).posts
             [.permitEnded (s.idOf slot), .permitReturned (s.idOf slot)]) ∧
       (∀ tok, st.phase = some .released → st.order = .none ∨ st.order = .release tok →
         (st.revokeFailed = false → s.holdChange slot false st = ((s.putStand slot st).putStand slot
           { st with order := .revoke s.orderCount }).issueOrder st.el (.revoke (s.idOf slot))) ∧
         (st.revokeFailed = true → s.holdChange slot false st = s.putStand slot st)) ∧
       (∀ tok, st.phase = some .released → st.order = .revoke tok →
         s.holdChange slot false st = s.putStand slot st) ∧
       (st.phase = some .planning ∨ st.phase = some .dwelling ∨ st.phase = some .held ∨
           st.phase = some .terminating ∨ st.phase = some .noRegulation ∨ st.phase = none →
         s.holdChange slot false st = s.putStand slot st)) ∧
     ((s.putStand slot st).isHeld slot st = false →
       (st.phase = some .held →
         s.holdChange slot true st = ((s.putStand slot st).putStand slot
           { st with phase := some .waitingPermit, permit := .requested }).post
             (.permitRequest (s.idOf slot) st.sect)) ∧
       (st.phase ≠ some .held → s.holdChange slot true st = s.putStand slot st))) ∧
  (∀ (o : OutcomeMsg) (s : State),
     (s.awaiting o.token = none → s.awaitingEarlier o.token = none → s.platformOutcome o = s) ∧
     (∀ (i : Nat) (st : Stand), s.awaiting o.token = none → s.awaitingEarlier o.token = some i → s.stand? i = some st →
       ∀ report : List Notice, report = (if o.result = .complete ∨ o.result = .already ∨ o.result = .superseded then []
         else [.report .dwellOrderFailed (some (.train (s.idOf i))) (some o.result.code) (some st.stop)]) →
       s.platformOutcome o = (s.posts report).putStand i
         { st with earlier := st.earlier.filter (fun t => t != o.token) }) ∧
     (∀ (slot train : Nat) (st : Stand) (pl : Plan) (tok : Nat), st.order = .dwell tok →
       s.startDwelling slot train st pl = ((s.putStand slot { st with
         phase := some .dwelling, plan := some pl, order := .dwell s.nextToken,
         earlier := st.earlier ++ [tok] }).issueOrder st.el (.dwell train pl.tDep pl.dwell)).post (.due slot)) ∧
     ∀ (i : Nat) (st : Stand), s.awaiting o.token = some i → s.stand? i = some st →
     ∀ (back : List Notice) (after : Stand → State → State), back = [.permitEnded (s.idOf i), .permitReturned (s.idOf i)] →
     after = (fun x u =>
       if s.lds.service = .suspended then u.putStand i { x with phase := some .noRegulation }
       else if s.isHeld i x = true then u.putStand i { x with phase := some .held }
       else (u.putStand i { x with phase := some .waitingPermit, permit := .requested }).post
         (.permitRequest (s.idOf i) x.sect)) →
     ∀ report : List Notice, report = (if o.result = .complete ∨ o.result = .already ∨ o.result = .superseded then []
       else [.report .dwellOrderFailed (some (.train (s.idOf i))) (some o.result.code) (some st.stop)]) →
     (∀ tok, st.order = .dwell tok → s.platformOutcome o = (s.posts report).putStand i { st with order := .none }) ∧
     (∀ tok level, st.order = .releaseWaiting tok → st.permit = .granted level → st.phase = some .released →
       s.platformOutcome o = ((s.posts report).putStand i { st with order := .release s.orderCount }).issueOrder st.el
         (.release (s.idOf i) level)) ∧
     (∀ tok, st.order = .release tok →
       (o.result = .complete ∨ o.result = .already →
         s.platformOutcome o = s.putStand i { st with order := .none, relFails := 0 }) ∧
       (o.result = .superseded → s.platformOutcome o = s) ∧
       (o.result ≠ .complete → o.result ≠ .already → o.result ≠ .superseded →
         s.platformOutcome o = after
           { st with permit := .none, order := .none, relFails := st.relFails + 1,
                     field := st.field || decide (2 ≤ st.relFails + 1) }
           (s.posts (back ++ [.report .releaseFailed (some (.train (s.idOf i))) (some o.result.code)
             (some (st.relFails + 1))])))) ∧
     (∀ tok, st.order = .revoke tok →
       (o.result = .complete ∨ o.result = .already →
         s.platformOutcome o = after { st with permit := .none, order := .none } (s.posts back)) ∧
       (o.result ≠ .complete → o.result ≠ .already →
         s.platformOutcome o = (s.putStand i { st with revokeFailed := true, order := .none }).post
           (.raise .orderFailure st.el))))

/-- R109: REG_SET is taken in every service state: values out of range are refused BAD_VALUE (0x04) and neither is
taken; otherwise both working values are replaced and answered. Plans, orders and the parameters stand as they did. -/
def Obligations.RegSetReplacesTheWorkingValues : Prop :=
  ∀ (tag : Byte) (beta threshold : Nat) (s : State), s.ready → beta < 256 → threshold < 65536 →
    (8 < beta ∨ threshold < 60 ∨ 900 < threshold →
      exec (.regSet tag (u8 beta ++ u16 threshold)) s =
        .next (s.framed.reply { refused := true, tag := tag, data := [0x04#8] })) ∧
    (beta ≤ 8 → 60 ≤ threshold → threshold ≤ 900 →
      exec (.regSet tag (u8 beta ++ u16 threshold)) s = .next
        ({ s.framed with rgl := { s.framed.rgl with beta := some beta, threshold := some threshold } }.reply
          { refused := false, tag := tag, data := u8 beta ++ u16 threshold }))

/-- R95: the first three steps of a plan. -/
def Obligations.PlanFixesLatenessAndScheduleTarget : Prop :=
  (∀ (s : State) (stop a : Nat) (m : Option Matched),
    s.plan stop a m = planOf s.params (s.rgl.beta.getD 0) a m ((s.window.last[stop]?).join)) ∧
  (∀ (prm : Params) (beta a : Nat) (last : Option LastDeparture),
    (∀ m : Matched,
      (planOf prm beta a (some m) last).p = some m.p ∧ (planOf prm beta a (some m) last).w = m.w ∧
      (planOf prm beta a (some m) last).rp = m.rp ∧
      (planOf prm beta a (some m) last).tSched = max m.p (a + prm.wMin) ∧
      (∀ l : Int, l = (a : Int) + m.w - m.p →
        (planOf prm beta a (some m) last).lateness = (if l < -999 then -999 else if 3599 < l then 3599 else l))) ∧
    (planOf prm beta a none last).p = none ∧ (planOf prm beta a none last).rp = none ∧
    (planOf prm beta a none last).w = prm.wDefault ∧ (planOf prm beta a none last).lateness = 0 ∧
    (planOf prm beta a none last).tSched = a + prm.wDefault ∧
    (∀ m : Option Matched,
      (planOf prm beta a m none).pPrev = none ∧ (planOf prm beta a m none).dPrev = none ∧
      (∀ r : LastDeparture, (planOf prm beta a m (some r)).pPrev = r.p ∧
        (planOf prm beta a m (some r)).dPrev = some r.d) ∧
      (∀ (t : Train) (stop : Nat), (t.arrived stop a m).arrLate = (planOf prm beta a m last).lateness)))

/-- R96: the headway steps of a plan. -/
def Obligations.PlanFixesHeadwayTarget : Prop :=
  ∀ (prm : Params) (beta a : Nat) (m : Option Matched) (last : Option LastDeparture),
    (∀ p q, (planOf prm beta a m last).p = some p → (planOf prm beta a m last).pPrev = some q →
      ((planOf prm beta a m last).hPlan : Int) =
        (if (p : Int) - q < 30 then 30 else if 1800 < (p : Int) - q then 1800 else (p : Int) - q)) ∧
    ((planOf prm beta a m last).p = none ∨ (planOf prm beta a m last).pPrev = none →
      (planOf prm beta a m last).hPlan = prm.hNom) ∧
    (∀ d, (planOf prm beta a m last).dPrev = some d →
      (planOf prm beta a m last).tHead = d + (planOf prm beta a m last).hPlan) ∧
    ((planOf prm beta a m last).dPrev = none →
      (planOf prm beta a m last).tHead = (planOf prm beta a m last).tSched)

/-- R97: the blend with the working β, rounded toward minus infinity, the clamped dwell, the planned departure, the
DWELL order that carries it, and the last second of the day, at which a departure planned beyond it falls due. -/
def Obligations.PlanBlendsAndClampsTheDwell : Prop :=
  (∀ (s : State) (stop a : Nat) (m : Option Matched),
    s.plan stop a m = planOf s.params (s.rgl.beta.getD 0) a m ((s.window.last[stop]?).join)) ∧
  (∀ (prm : Params) (beta a : Nat) (m : Option Matched) (last : Option LastDeparture) (pl : Plan),
    pl = planOf prm beta a m last →
    pl.delta = (pl.tHead : Int) - pl.tSched ∧
    8 * (pl.tTgt - pl.tSched) ≤ beta * pl.delta + 4 ∧ beta * pl.delta + 4 < 8 * (pl.tTgt - pl.tSched) + 8 ∧
    (beta = 0 → pl.tTgt = pl.tSched) ∧ (beta = 8 → pl.tTgt = pl.tHead) ∧
    (prm.wMin ≤ prm.wMax →
      (pl.dwell : Int) = (if pl.tTgt - a < prm.wMin then (prm.wMin : Int)
        else if prm.wMax < pl.tTgt - a then prm.wMax else pl.tTgt - a) ∧
      prm.wMin ≤ pl.dwell ∧ pl.dwell ≤ prm.wMax) ∧
    pl.tDep = a + pl.dwell ∧
    (∀ (slot train : Nat) (st : Stand) (s : State),
      Notice.issue st.el (.dwell train pl.tDep pl.dwell) s.orderCount ∈ (s.startDwelling slot train st pl).agenda) ∧
    (107999 < pl.tDep → pl.reached 107999 = true ∧ ∀ time, time < 107999 → pl.reached time = false))

/-- R99, step 1: the run level is the highest whose run time fits the time available, or 0. R99: a grant taken by a
stand in WAITING_PERMIT: with no platform order the RELEASE is issued, with a DWELL awaited it waits; a grant that finds
the stand elsewhere returns the permit. -/
def Obligations.GrantsSetTheRunLevel : Prop :=
  ((∀ (lo hi p r t : Nat),
     runLevel (some (lo, hi)) (some p) (some r) t ≤ 3 ∧
     (∀ j, j ≤ 3 → lo + j * (hi - lo) / 3 + t ≤ p + r → j ≤ runLevel (some (lo, hi)) (some p) (some r) t) ∧
     (runLevel (some (lo, hi)) (some p) (some r) t ≠ 0 →
       lo + runLevel (some (lo, hi)) (some p) (some r) t * (hi - lo) / 3 + t ≤ p + r)) ∧
   (∀ b p r t, b = none ∨ p = none ∨ r = none → runLevel b p r t = 0)) ∧
  (∀ (train t i : Nat) (st : Stand) (s : State), s.slotOf train = some i → s.stand? i = some st →
     (st.phase ≠ some .waitingPermit →
       granted train t s = s.posts [.permitEnded train, .permitReturned train]) ∧
     (∀ level, level = runLevel (s.runBounds st.stop) (st.plan.bind (·.p)) (st.plan.bind (·.rp)) t →
       st.phase = some .waitingPermit →
       (st.order = .none →
         granted train t s = ((s.post (.permitGiven train level)).putStand i
           { st with permit := .granted level, phase := some .released,
                     order := .release s.orderCount }).issueOrder st.el (.release (s.idOf i) level)) ∧
       (∀ tok, st.order = .dwell tok →
         granted train t s = (s.post (.permitGiven train level)).putStand i
           { st with permit := .granted level, phase := some .released, order := .releaseWaiting tok })))

/-- R79, R80, R82: what a confirmed arrival and a confirmed departure leave in a train's record. R78, R79, R80, R81: a
confirmed arrival or departure of a train not in service is UNKNOWN_TRAIN; an arrival at an occupied stop is a conflict:
the train is left UNLOCATED there, its binding released, and PLATFORM_CONFLICT raised; an arrival from an unexpected
stop reports POSITION_JUMP; an accepted one ends a start window, binds the entry and tells every block; a departure from
another stop than the recorded one is taken as a report of position. The model's choice: an arrival's POSITION_JUMP
precedes its own reports (log entry 14), and a conflict clears the terminating mark and releases the binding (log entry
33). R75, R76, R77: a tentative event fills its link's slot; it is applied to a train in service at a stop of the line,
an arrival where the train may take the free stop, a departure where the train stands there, and declined otherwise;
confirmed, an applied event is accepted at its tentative time and another is judged afresh; withdrawn, an applied event
restores the train and another leaves no trace. That an element of no station's is declined and its confirmation ignored
is the model's choice (log entry 13). R84, R85: the end of a start window: the permit ends, the mark is cleared and the
load phase becomes RUN, or AUX while TURNING, a train that a tentative arrival makes AT_STOP counted as it was before.
Without a window running nothing happens (log entry 2). The tick is brought to the deadline (log entry 4). -/
def Obligations.TrainRecordsFollowTheirEvents : Prop :=
  (∀ (t : Train) (stop a d : Nat) (m : Option Matched) (late : Option Int) (deadline : Nat),
     ((t.arrived stop a m).pos = .atStop ∧ (t.arrived stop a m).stop = some stop ∧
       (t.arrived stop a m).dir = (if stop % 2 = 0 then .up else .down) ∧
       (t.arrived stop a m).arr = some { time := a, tentative := false } ∧ (t.arrived stop a m).depLate = none ∧
       (t.arrived stop a m).level = 0 ∧ (t.arrived stop a m).saved = none ∧ (t.arrived stop a m).entry = m ∧
       ((t.arrived stop a m).terminating = true ↔ ∃ e, m = some e ∧ e.rp = none) ∧
       (t.arrived stop a m).phase = .aux ∧ (t.arrived stop a m).id = t.id ∧ (t.arrived stop a m).trip = t.trip ∧
       (t.arrived stop a m).following = t.following ∧ (t.arrived stop a m).startDeadline = none ∧
       (t.arrived stop a m).permit = (t.permit && t.startDeadline.isNone)) ∧
     (t.terminating = false →
       t.departed d late deadline =
         { t with dep := some { time := d, tentative := false }, depLate := late, entry := none, saved := none,
                  startDeadline := if t.permit then some deadline else none, pos := .running,
                  phase := if t.permit then .starting else .run }) ∧
     (t.terminating = true →
       t.departed d late deadline =
         { t with dep := some { time := d, tentative := false }, depLate := late, entry := none, saved := none,
                  startDeadline := if t.permit then some deadline else none, pos := .turning, terminating := false,
                  trip := t.following.head?, following := t.following.tail,
                  phase := if t.permit then .starting else .aux })) ∧
  ((∀ (arrival : Bool) (train stop : Nat) (s : State), s.slotOf train = none →
     confirmedEvent arrival train stop s = s.report .unknownTrain (some (.train train)) (some stop) none) ∧
   (∀ (i stop : Nat) (t : Train) (s : State),
     ∀ cut : State, cut = (if t.startDeadline = none then s else s.post (.permitEnded t.id)) →
     (s.occupant stop ≠ none →
       s.settleArrival i t stop =
         (((cut.ttRelease t.id).setTrainLoad i
           { t with pos := .unlocated, stop := some stop, saved := none, entry := none, terminating := false,
                    phase := .run, level := 0, startDeadline := none,
                    permit := t.permit && t.startDeadline.isNone }).post (.raise .platformConflict stop))) ∧
     (s.occupant stop = none →
       (∀ k, t.pos = .running → t.stop = some k → s.nextStop k ≠ some stop →
         s.settleArrival i t stop = (s.post (.report .positionJump (some (.train t.id)) (some k)
           (some stop))).acceptArrival i t stop s.clock.time) ∧
       (t.pos = .unlocated ∨ t.pos = .turning ∨ (t.pos = .running ∧ ∀ k, t.stop = some k → s.nextStop k = some stop) →
         s.settleArrival i t stop = s.acceptArrival i t stop s.clock.time)) ∧
     (∀ a m x bound, m = s.arrivalBinding t stop → x = t.arrived stop a m →
       bound = ((t.trip.map (fun trip => cut.ttBind t.id trip stop)).getD cut) →
       s.acceptArrival i t stop a = (bound.setTrainLoad i x).posts
         [.standArrived i, .resolve .stranded t.id,
          .report .arrived (some (.train t.id)) (some stop) (some ((x.arrLate + 1000).toNat)), .trainArrived stop])) ∧
   (∀ (train stop i : Nat) (t : Train) (s : State), s.slotOf train = some i → s.train? i = some t →
     (t.pos = .running → t.stop ≠ some stop → t.saved = none →
       confirmedEvent false train stop s = s.post (.positionReport train stop t.stop true)) ∧
     (t.pos = .unlocated →
       confirmedEvent false train stop s = s.post (.positionReport train stop t.stop (t.stop != some stop))) ∧
     (∀ was jump, positionReport train stop was jump s =
       ((((if t.startDeadline = none then s else s.post (.permitEnded t.id)).ttDepart t.id stop t.trip
         s.clock.time).setTrainLoad i
         { t with pos := .running, stop := some stop, saved := none, entry := none, terminating := false, phase := .run,
                  level := 0, dep := some { time := s.clock.time, tentative := false }, depLate := none,
                  startDeadline := none, permit := t.permit && t.startDeadline.isNone }).posts
         ((if jump then [.report .positionJump (some (.train t.id)) was (some stop)] else []) ++
          [.report .departed (some (.train t.id)) (some stop) none, .trainDeparted t.id stop]))))) ∧
  ((∀ (link el train : Nat) (arrival : Bool) (s : State),
     ∀ slot : TentativeStatus → TentativeSlot,
     slot = (fun x => { el := el, arrival := arrival, train := train, stop := s.stopOfElement el, status := x }) →
     (s.stopOfElement el = none ∨ s.slotOf train = none →
       tentativeEvent link el arrival train s = s.setTentative link (some (slot .declined))) ∧
     (∀ k i t saved, s.stopOfElement el = some k → s.slotOf train = some i → s.train? i = some t →
       saved = some { pos := t.pos, stop := t.stop, arr := t.arr, dep := t.dep } →
       ∀ applied : State, applied = s.setTentative link (some (slot .applied)) →
       (arrival = true →
         (s.occupant k = none ∧ (t.pos = .unlocated ∨ t.pos = .turning ∨ (t.pos = .running ∧ t.saved = none)) →
           tentativeEvent link el arrival train s = (applied.setTrain i
             { t with saved := saved, pos := .atStop, stop := some k,
                      arr := some { time := s.clock.time, tentative := true } }).post (.standTentative i)) ∧
         (s.occupant k ≠ none ∨ t.pos = .atStop ∨ (t.pos = .running ∧ t.saved ≠ none) →
           tentativeEvent link el arrival train s = s.setTentative link (some (slot .declined)))) ∧
       (arrival = false →
         (t.pos = .atStop ∧ t.stop = some k ∧ t.saved = none →
           tentativeEvent link el arrival train s = applied.setTrain i
             { t with saved := saved, pos := .running, dep := some { time := s.clock.time, tentative := true } }) ∧
         (t.pos ≠ .atStop ∨ t.stop ≠ some k ∨ t.saved ≠ none →
           tentativeEvent link el arrival train s = s.setTentative link (some (slot .declined)))))) ∧
   (∀ (link : Nat) (confirmed : Bool) (s u : State), u = s.setTentative link none →
     ((s.reg.tentative[link]?).join = none → tentativeEnd link confirmed s = s) ∧
     (∀ x, (s.reg.tentative[link]?).join = some x →
       (x.status ≠ .applied → confirmed = false → tentativeEnd link confirmed s = u) ∧
       (∀ k, x.status ≠ .applied → confirmed = true → x.stop = some k → 1 ≤ x.train → x.train ≤ 999 →
         tentativeEnd link confirmed s = u.post (.confirmedEvent x.arrival x.train k)) ∧
       (x.status ≠ .applied → x.stop = none ∨ x.train = 0 ∨ 999 < x.train → tentativeEnd link confirmed s = u) ∧
       (∀ i t, x.status = .applied → u.slotOf x.train = some i → u.train? i = some t →
         (∀ k a, confirmed = true → x.arrival = true → t.stop = some k → t.arr = some a →
           tentativeEnd link confirmed s = u.acceptArrival i t k a.time) ∧
         (∀ k d, confirmed = true → x.arrival = false → t.stop = some k → t.dep = some d →
           tentativeEnd link confirmed s = u.confirmDeparture i t k d.time) ∧
         (∀ v, confirmed = false → t.saved = some v →
           ∀ y, y = { t with pos := v.pos, stop := v.stop, arr := v.arr, dep := v.dep, saved := none } →
           (x.arrival = true → tentativeEnd link confirmed s = (u.setTrain i y).post (.standWithdrawn i)) ∧
           (x.arrival = false → tentativeEnd link confirmed s = u.setTrain i y)))))) ∧
  (∀ (slot : Nat) (s : State), slot < 40 →
     (∀ t d, s.train? slot = some t → t.startDeadline = some d →
       ∀ (counted : Position) (u : Train), (t.saved = none → counted = t.pos) →
       (∀ v, t.saved = some v → counted = v.pos) →
       u = { t with phase := if counted = .turning then .aux else .run, permit := false, startDeadline := none } →
       exec (.startWindowDeadline slot) s = .next (settle
         (({ s with tick := max s.tick d }.setTrain slot u).posts
           [.permitEnded t.id, .load slot (s.loadNote u)]))) ∧
     (s.settled → (∀ t, s.train? slot = some t → t.startDeadline = none) →
       exec (.startWindowDeadline slot) s = .next s))

/-! ### Traction power (07) -/

/-- R112, R113: the states that a section's breakers derive: alone from its own feeders, in a TIED or CROSS_FED pair
from every feeder of both sections and the tie, an absent tie counted as CLOSED; nothing is derived while one of them is
not known. -/
def Obligations.SectionStatesFollowTheBreakers : Prop :=
  (∀ vs : List BreakerValue,
    (.tripped ∈ vs → deriveAlone vs = .state .tripped) ∧
    (vs ≠ [] → (∀ v ∈ vs, v = .opened) → deriveAlone vs = .state .dead) ∧
    (.tripped ∉ vs → .closed ∈ vs → deriveAlone vs = .state .live) ∧
    (.tripped ∉ vs → .closed ∉ vs → .precharged ∈ vs → deriveAlone vs = .isolating)) ∧
  (∀ (even odd : List BreakerValue) (tie : BreakerValue),
    ((.tripped ∈ even ∨ .tripped ∈ odd ∨ tie = .tripped) →
      derivePair .tied even odd tie = .state .tripped ∧ derivePair .crossFed even odd tie = .state .tripped) ∧
    ((∀ v ∈ even ++ odd, v = .opened) → tie ≠ .tripped →
      derivePair .tied even odd tie = .state .dead ∧ derivePair .crossFed even odd tie = .state .dead) ∧
    ((∀ v ∈ even ++ odd, v = .opened ∨ v = .closed) → tie = .closed →
      (.closed ∈ even ∨ .closed ∈ odd → derivePair .tied even odd tie = .state .live) ∧
      (.closed ∈ even → (∀ v ∈ odd, v = .opened) → derivePair .crossFed even odd tie = .state .live)) ∧
    ((∀ v ∈ even ++ odd, v ≠ .tripped) → tie ≠ .tripped →
      (.precharged ∈ even ∨ .precharged ∈ odd →
        derivePair .tied even odd tie = .isolating ∧ derivePair .crossFed even odd tie = .isolating) ∧
      (.closed ∈ odd → derivePair .crossFed even odd tie = .isolating) ∧
      ((∃ v ∈ even ++ odd, v ≠ .opened) → tie ≠ .closed →
        derivePair .tied even odd tie = .isolating ∧ derivePair .crossFed even odd tie = .isolating))) ∧
  (∀ (i : Nat) (s : State),
    (s.modeOf i = .independent → ∀ vs, s.values (s.feedersOf i) = some vs → s.derived i = some (deriveAlone vs)) ∧
    (s.modeOf i ≠ .independent → ∀ even odd, s.values (s.feedersOf (2 * (i / 2))) = some even →
      s.values (s.feedersOf (2 * (i / 2) + 1)) = some odd →
      (s.tieOf i = none → s.derived i = some (derivePair (s.modeOf i) even odd .closed)) ∧
      (∀ t v, s.tieOf i = some t → s.breaker? t = some v → s.derived i = some (derivePair (s.modeOf i) even odd v))) ∧
    (∀ b ∈ s.groupBreakers i, s.breaker? b = none → s.derived i = none))

/-- R126: the shares of a load over the substations of a feeding set sum to the load, no two differ by more than one,
and the first substations take the remainder. -/
def Obligations.SharesSumToTheLoad : Prop :=
  ∀ x n : Nat, 0 < n →
    ((List.range n).map (shareAt x n)).sum = x ∧
    (∀ i j, i < n → j < n → i ≤ j → shareAt x n j ≤ shareAt x n i ∧ shareAt x n i ≤ shareAt x n j + 1)

/-- R129: a walk of the wait list grants only a request that fits and shares no substation with an older one still
waiting, makes its permit record at the present line time and tells the regulator; with none it changes nothing. -/
def Obligations.PermitsAreGrantedOnlyWhenTheyFit : Prop :=
  ∀ (trains : List Nat) (s : State),
    ((∀ t ∈ trains, s.grantable t = false) → walk trains s = s) ∧
    (∀ pre t rest r, trains = pre ++ t :: rest → (∀ x ∈ pre, s.grantable x = false) → s.grantable t = true →
      s.tsv.waitList.find? (fun q => q.train == t) = some r →
      s.fits r.sect = true ∧ (s.sect? r.sect).any (fun x => x.state == .live && !x.low) = true ∧
      (∀ f ∈ s.feedSet r.sect, ∃ b, s.tsv.subs[f]? = some b ∧
        b.effective + s.shareOf r.sect s.params.startLoad f ≤ b.capacity) ∧
      (∀ o ∈ olderThan t s.tsv.waitList, ∀ f ∈ s.feedSet r.sect, f ∉ s.feedSet o.sect) ∧
      (walk trains s).tsv.permits =
        s.tsv.permits ++ [{ train := t, sect := r.sect, granted := s.clock.time }] ∧
      (walk trains s).tsv.waitList = s.tsv.waitList.filter (fun q => q.train != t) ∧
      (walk trains s).agenda = s.agenda ++ [.granted t s.clock.time, .walk rest] ∧
      (walk trains s).tsv.loads = s.tsv.loads.map (fun n : Option LoadNote =>
        n.map (fun n => if n.train = t then { n with phase := .starting } else n)) ∧
      (walk trains s).tsv.subs = s.tsv.subs.mapIdx (fun f (b : SubRec) =>
        { b with estimate := ((walk trains s).tsv.loads.map (s.noteShare f)).sum })) ∧
    (∀ t r, s.tsv.waitList.find? (fun q => q.train == t) = some r →
      (∃ x, s.sect? r.sect = some x ∧ x.state = .live ∧ x.low = false) →
      (∀ f ∈ s.feedSet r.sect, ∃ b, s.tsv.subs[f]? = some b ∧
        b.effective + s.shareOf r.sect s.params.startLoad f ≤ b.capacity) →
      (∀ o ∈ olderThan t s.tsv.waitList, ∀ f ∈ s.feedSet r.sect, f ∉ s.feedSet o.sect) → s.grantable t = true)

/-- R115, R174: SEC_ENERGIZE, SEC_ISOLATE and SEC_UNLOCK: a section above 23 is refused BAD_VALUE (0x04), one at or
above the section count NOT_FOUND (0x05). R120: SEC_ISOLATE by the section's state: UNKNOWN is refused WRONG_STATE
(0x03), PRECHARGE aborts the energize, LIVE and TRIPPED begin an isolation of kind HOST, DEAD is answered DONE and
unchanged, and ISOLATING repeats OPEN to the awaited breakers that are not open and have no order outstanding. That only
breakers not yet open are ordered again, and which breakers a TRIPPED section awaits, is the model's choice (log entry
30). R114, R119, R120: an isolation makes the group ISOLATING, orders OPEN first, then has the effects of the change,
and ends when the awaited breakers are open: the group becomes DEAD and the sequence is gone. That a breaker whose
mirror entry is ORDERED is not yet open, found TRIPPED or not, is the model's choice (log entry 30). R123: SEC_UNLOCK
clears the lockout flag and resolves CHARGE_FAIL; a section not locked is unchanged; the reply carries the section's
state and flags. The flags byte of the reply is the model's choice (log entry 16). -/
def Obligations.SectionsAreIsolatedAndUnlocked : Prop :=
  (∀ (tag : Byte) (i : Nat) (s : State), s.ready → s.lds.service ≠ .unconfigured → i < 256 →
     ∀ c ∈ [Instr.secEnergize tag (u8 i), .secIsolate tag (u8 i), .secUnlock tag (u8 i), .secQuery tag (u8 i)],
       (23 < i → exec c s = .next (s.framed.reply { refused := true, tag := tag, data := [0x04#8] })) ∧
       (i ≤ 23 → s.sectCount ≤ i →
         exec c s = .next (s.framed.reply { refused := true, tag := tag, data := [0x05#8] }))) ∧
  (∀ (tag : Byte) (i : Nat) (s : State), s.ready → s.lds.service ≠ .unconfigured → i ≤ 23 → i < s.sectCount →
     (s.sectState i = .unknown →
       exec (.secIsolate tag (u8 i)) s = .next (s.framed.reply { refused := true, tag := tag, data := [0x03#8] })) ∧
     (s.sectState i = .dead → exec (.secIsolate tag (u8 i)) s = .next (s.framed.done tag [])) ∧
     (s.sectState i = .precharge →
       exec (.secIsolate tag (u8 i)) s = .next (settle
         ((s.framed.abort (s.baseOf i) .hostIsolate).post (.answer tag (.done []))))) ∧
     (s.sectState i = .live →
       exec (.secIsolate tag (u8 i)) s = .next (settle
         ((s.framed.isolate i .host ((s.groupBreakers i).filter (fun b => !s.countsOpen b)) false []).post
           (.answer tag (.done []))))) ∧
     (s.sectState i = .tripped →
       exec (.secIsolate tag (u8 i)) s = .next (settle
         ((s.framed.isolate i .host ((s.groupBreakers i).filter (fun b => !s.readsOpen b)) true []).post
           (.answer tag (.done []))))) ∧
     (s.sectState i = .isolating →
       (∀ kind awaited mustRead, s.seqOf (s.baseOf i) = some (.isolate kind awaited mustRead) →
         exec (.secIsolate tag (u8 i)) s = .next (settle
           (s.framed.posts ((awaited.filter (fun b =>
               (if mustRead then !s.readsOpen b else !s.countsOpen b) && !(s.entry? b).any (fun e => e.out.isSome))).map
             .openBreaker ++ [.answer tag (.done [])])))) ∧
       ((∀ kind awaited mustRead, s.seqOf (s.baseOf i) ≠ some (.isolate kind awaited mustRead)) →
         exec (.secIsolate tag (u8 i)) s = .next (s.framed.done tag [])))) ∧
  ((∀ (i : Nat) (kind : IsoKind) (ordered : List Nat) (mustRead : Bool) (after : List Notice) (s : State),
     (∀ j r, j ∈ s.group i → s.sect? j = some r →
       ∃ u, (s.isolate i kind ordered mustRead after).sect? j = some u ∧ u.state = .isolating ∧ u.low = false ∧
         u.lockout = r.lockout ∧ u.demand = r.demand ∧ u.feeders = r.feeders ∧ u.timer = .stopped ∧
         (j = s.baseOf i → u.seq = some (.isolate kind ordered mustRead))) ∧
     (s.isolate i kind ordered mustRead after).agenda = s.agenda ++ ordered.map .openBreaker ++
       s.changeNotices (s.group i) .isolating ++ after ++ [.isolationCheck (s.baseOf i)]) ∧
   ∀ (base : Nat) (kind : IsoKind) (awaited : List Nat) (mustRead : Bool) (s : State),
     s.seqOf base = some (.isolate kind awaited mustRead) →
     (s.isolationDone base awaited mustRead = false → isolationCheck base s = s) ∧
     (s.isolationDone base awaited mustRead = true →
       isolationCheck base s = (s.setSeq base none).changeTo (s.group base) .dead) ∧
     (mustRead = false → (∀ b ∈ awaited, s.countsOpen b = true) → s.isolationDone base awaited mustRead = true) ∧
     (∀ b e, s.entry? b = some e → e.state = .ordered → s.countsOpen b = false)) ∧
  (∀ (tag : Byte) (i : Nat) (r : SectRec) (s : State), s.ready → s.lds.service ≠ .unconfigured → i ≤ 23 →
     i < s.sectCount → s.sect? i = some r →
     (r.lockout = false →
       exec (.secUnlock tag (u8 i)) s = .next (s.framed.done tag (u8 r.state.code ++ u8 r.flags))) ∧
     (r.lockout = true →
       exec (.secUnlock tag (u8 i)) s = .next (settle
         ((s.framed.setSect i { r with lockout := false }).posts
           [.resolve .chargeFail i, .answer tag (.sectFlags i)]))))

/-- R115, R116: SEC_ENERGIZE, judged by the section's state, its locks, its pair and its breakers: the first check that
fails refuses it with its code; otherwise the section, with its partner, becomes PRECHARGE, the first close is ordered
and the reply is DONE. R116: the first step orders CLOSE_FEED to the tie of a TIED or CROSS_FED pair, and without one
CLOSE_PRECHARGE to the first feeder of the named section. -/
def Obligations.SecEnergizeStartsTheSequence : Prop :=
  (∀ (tag : Byte) (i : Nat) (s : State), s.ready → s.lds.service ≠ .unconfigured → i ≤ 23 → i < s.sectCount →
     ((∃ j ∈ s.group i, s.sectState j ≠ .dead ∧ s.sectState j ≠ .tripped) →
       exec (.secEnergize tag (u8 i)) s = .next (s.framed.reply { refused := true, tag := tag, data := [0x03#8] })) ∧
     ((∀ j ∈ s.group i, s.sectState j = .dead ∨ s.sectState j = .tripped) →
       ((∃ j r, j ∈ s.group i ∧ s.sect? j = some r ∧ (r.lockout = true ∨ r.demand = true)) →
         exec (.secEnergize tag (u8 i)) s =
           .next (s.framed.reply { refused := true, tag := tag, data := [0x14#8] })) ∧
       ((∀ j r, j ∈ s.group i → s.sect? j = some r → r.lockout = false ∧ r.demand = false) → s.baseOf i ≠ i →
         exec (.secEnergize tag (u8 i)) s =
           .next (s.framed.reply { refused := true, tag := tag, data := [0x15#8] })) ∧
       ((∀ j r, j ∈ s.group i → s.sect? j = some r → r.lockout = false ∧ r.demand = false) → s.baseOf i = i →
         ((∃ b ∈ s.toClose i, ∀ e, s.entry? b = some e → e.state ≠ .held) ∨
             (s.modeOf i = .crossFed ∧ ∃ b ∈ s.feedersOf (evenOf i + 1), s.readsOpen b = false) →
           exec (.secEnergize tag (u8 i)) s =
             .next (s.framed.reply { refused := true, tag := tag, data := [0x16#8] })) ∧
         ((∀ b ∈ s.toClose i, ∃ e, s.entry? b = some e ∧ e.state = .held) →
             (s.modeOf i = .crossFed → ∀ b ∈ s.feedersOf (evenOf i + 1), s.readsOpen b = true) →
           exec (.secEnergize tag (u8 i)) s = .next (settle
             (((s.framed.changeTo (s.group i) .precharge).firstStep i i).post (.answer tag (.done [])))))))) ∧
  (∀ (base named : Nat) (s : State),
     (s.modeOf named = .independent → s.tieOf named = none) ∧
     (s.modeOf named ≠ .independent → s.tieOf named = (s.tsv.pairs[named / 2]?).bind (fun p => p.tie)) ∧
     (∀ t, s.tieOf named = some t → s.firstStep base named =
       (s.setSeq base (some (.energize named .tie [t] none none))).issueOrder t .closeFeed) ∧
     (∀ f rest, s.tieOf named = none → s.feedersOf named = f :: rest → s.firstStep base named =
       (s.setSeq base (some (.energize named .prechargeClose [f] none none))).issueOrder f .closePrecharge))

/-- R125: PAIR_MODE: a mode that the pair cannot have is NOT_FOUND (0x05), a pair with a section that is not DEAD
WRONG_STATE (0x03), the present mode is answered DONE and unchanged; otherwise the mode changes, the tie of a pair that
becomes INDEPENDENT is opened, the estimates are recomputed and the sections derived. That the present mode is judged
after the section states is the model's choice (log entry 18); a lone pair has no tie (log entry 35). -/
def Obligations.PairModeChangesADeadPair : Prop :=
  ∀ (tag : Byte) (m : Nat) (mode : PairMode) (s : State), s.ready → s.lds.service ≠ .unconfigured → m ≤ 11 →
    (s.pairExists m mode = false →
      exec (.pairMode tag (u8 m ++ u8 mode.code)) s =
        .next (s.framed.reply { refused := true, tag := tag, data := [0x05#8] })) ∧
    (s.pairExists m mode = true →
      ((∃ i ∈ s.pairSects m, s.sectState i ≠ .dead) →
        exec (.pairMode tag (u8 m ++ u8 mode.code)) s =
          .next (s.framed.reply { refused := true, tag := tag, data := [0x03#8] })) ∧
      ((∀ i ∈ s.pairSects m, s.sectState i = .dead) →
        (s.modeOf (2 * m) = mode →
          exec (.pairMode tag (u8 m ++ u8 mode.code)) s = .next (s.framed.done tag [])) ∧
        (s.modeOf (2 * m) ≠ mode →
          exec (.pairMode tag (u8 m ++ u8 mode.code)) s = .next (settle
            (((((s.framed.setMode m mode).posts (s.tieToOpen m mode)).recountAndExamine).posts
              ((s.pairSects m).map .derive)).post (.answer tag (.done []))))))) ∧
    (s.pairExists m mode = false ↔
      s.tsv.pairs[m]? = none ∨ ∃ p, s.tsv.pairs[m]? = some p ∧ mode ≠ .independent ∧ p.tie = none)

/-- R117, R118: the end of the precharge time: with the charge reached the feeders of the mode are ordered closed one
after another; without it the precharge feeder, and a tie the sequence closed, are opened, the section is locked out and
CHARGE_FAIL is raised. Without a precharge time running nothing happens (log entry 2). The tick is brought to the
deadline (log entry 4); the order of the two OPENs is log entry 17. R117: the charge is reached with the charge check
disabled, or with a voltage taken after the precharge moment of at least floor(nominal × 4 / 5); CLOSE_FEED then goes to
each used feeder in turn, in list order, the even section's first. R116, R117: a close that reached its target leads on:
the tie to CLOSE_PRECHARGE of the first feeder, that to the precharge time, and the last feeder to LIVE. R124: the end
of the debounce sets LOW, tells the regulator, raises POWER_LOSS and removes the section's requests; the end of the
recovery clears it. Without a timer running nothing happens (log entry 2). The tick is brought to the deadline (log
entry 4). -/
def Obligations.SectionTimersJudgeTheVoltage : Prop :=
  ((∀ (i : Nat) (s : State), i < 24 → s.settled →
     (∀ named d ordered m v, s.seqOf (s.baseOf i) ≠ some (.energize named (.precharge d) ordered m v)) →
     exec (.prechargeTimerExpiry i) s = .next s) ∧
   ∀ (i named d : Nat) (ordered : List Nat) (m v : Option Nat) (s : State), i < 24 →
     s.seqOf (s.baseOf i) = some (.energize named (.precharge d) ordered m v) →
     (s.chargeReached named v = true →
       exec (.prechargeTimerExpiry i) s = .next (settle
         ((({ s with tick := max s.tick d }).setSeq (s.baseOf i)
           (some (.energize named (.feedClose (s.usedFeeders named) []) ordered m v))).post (.nextClose (s.baseOf i))))) ∧
     (s.chargeReached named v = false →
       exec (.prechargeTimerExpiry i) s = .next (settle
         (((({ s with tick := max s.tick d }).isolate (s.baseOf i) .chargeFail ordered.reverse false
           [.raise .chargeFail named])).modSect named (fun r => { r with lockout := true }))))) ∧
  ((∀ (named : Nat) (r : SectionRow) (v : Option Nat) (s : State), s.sectRows[named]? = some r →
     (s.chargeReached named v = true ↔ r.chargeCheck = false ∨ ∃ x, v = some x ∧ s.params.nominal * 4 / 5 ≤ x)) ∧
   (∀ (named : Nat) (s : State),
     (s.modeOf named = .independent → s.usedFeeders named = s.feedersOf named) ∧
     (s.modeOf named = .tied →
       s.usedFeeders named = s.feedersOf (2 * (named / 2)) ++ s.feedersOf (2 * (named / 2) + 1)) ∧
     (s.modeOf named = .crossFed → s.usedFeeders named = s.feedersOf (2 * (named / 2)))) ∧
   (∀ (base named f : Nat) (todo awaited ordered : List Nat) (m v : Option Nat) (s : State),
     (s.seqOf base = some (.energize named (.feedClose (f :: todo) awaited) ordered m v) →
       nextClose base s = ((s.setSeq base (some (.energize named (.feedClose todo (awaited ++ [f]))
         (if f ∈ ordered then ordered else ordered ++ [f]) m v))).issueOrder f .closeFeed).post (.nextClose base)) ∧
     (s.seqOf base = some (.energize named (.feedClose [] awaited) ordered m v) → nextClose base s = s)) ∧
   (∀ (base el named : Nat) (ordered : List Nat) (m v : Option Nat) (s : State),
     (∀ f rest, s.feedersOf named = f :: rest → s.closeReached base el named .tie ordered m v =
       (s.setSeq base (some (.energize named .prechargeClose (ordered ++ [f]) none none))).issueOrder f .closePrecharge) ∧
     (∀ r : SectionRow, s.sectRows[named]? = some r → s.closeReached base el named .prechargeClose ordered m v =
       s.setSeq base (some (.energize named (.precharge (s.tick + r.precharge * 1000)) ordered (some s.tick) none))) ∧
     s.closeReached base el named (.feedClose [] [el]) ordered m v =
       (s.setSeq base none).changeTo (s.group base) .live ∧
     (∀ x todo awaited, x ∈ todo ∨ (x ∈ awaited ∧ x ≠ el) →
       s.closeReached base el named (.feedClose todo awaited) ordered m v =
         s.setSeq base (some (.energize named (.feedClose todo (awaited.filter (fun y => y != el))) ordered m v))))) ∧
  ((∀ (i : Nat) (s : State), i < 24 → s.sect? i = none → s.settled → exec (.voltageTimerExpiry i) s = .next s) ∧
   ∀ (i : Nat) (r : SectRec) (s : State), i < 24 → s.sect? i = some r →
     (∀ d, r.timer = .debounce d →
       exec (.voltageTimerExpiry i) s = .next (settle
         (((({ s with tick := max s.tick d }).dropRequests i).modSect i
           (fun r => { r with low := true, timer := .stopped })).posts
             ([Notice.sectChanged i .live true, .raise .powerLoss i] ++ s.removalNotices i .live true)))) ∧
     (∀ d, r.timer = .recovery d →
       exec (.voltageTimerExpiry i) s = .next (settle
         ((({ s with tick := max s.tick d }).modSect i (fun r => { r with low := false, timer := .stopped })).posts
           [.sectChanged i .live false, .resolve .powerLoss i, .reexamine]))) ∧
     (r.timer = .stopped → s.settled → exec (.voltageTimerExpiry i) s = .next s))

/-- R127: a measurement that has stood ten seconds is no longer fresh: METER_STALE is reported, an OVERLOAD ends and the
wait list is examined again. Without a fresh measurement nothing happens (log entry 2). The tick is brought to that
moment (log entry 4). R130: a request that has waited longer than the report time is reported PERMIT_WAIT_LONG, once;
without a request nothing happens (log entry 2). The tick is brought to the first millisecond beyond that time (log
entry 4). -/
def Obligations.PowerTimersReport : Prop :=
  (∀ (f load moment : Nat) (r : SubRec) (s : State), f < 12 → s.tsv.subs[f]? = some r →
     (r.fresh = true → r.meas = some (load, moment) →
       exec (.meterStale f) s = .next (settle
         ((((({ s with tick := max s.tick (moment + 10000) }).report .meterStale (some (.substation f)) none none).setSubs
           (s.tsv.subs.set f { r with fresh := false, staleReported := true })).judgeOverload f 0).post .reexamine))) ∧
     (r.fresh = false ∨ r.meas = none → s.settled → exec (.meterStale f) s = .next s)) ∧
  ((∀ (train : Nat) (s : State), s.settled → 1 ≤ train → train ≤ 999 →
     s.tsv.waitList.find? (fun q => q.train == train) = none → exec (.permitWaitLong train) s = .next s) ∧
   ∀ (train : Nat) (r : PermitRequest) (s : State), s.settled → 1 ≤ train → train ≤ 999 →
     s.tsv.waitList.find? (fun q => q.train == train) = some r →
     (r.reported = true → exec (.permitWaitLong train) s = .next s) ∧
     (r.reported = false →
       ∀ now, now = max s.tick (r.joined + s.params.permitWait * 1000 + 1) →
       exec (.permitWaitLong train) s = .next
         ((({ s with tick := now }).setWaitList
           (s.tsv.waitList.map (fun x : PermitRequest => if x.train = train then { x with reported := true } else x))).report
             .permitWaitLong (some (.train train)) (some r.sect) (some ((now - r.joined) / 1000)))))

/-! ### Incidents (08) -/

/-- R134, R139: INC_RAISE: the table full, or 28 host incidents in it, is TABLE_FULL (0x12); otherwise the incident
enters at the end of the opening order with the next free number, is reported INCIDENT_RAISED, and the effects are
derived. R140, R141, R142: INC_AMEND, INC_ACK and INC_CLOSE of an incident of the table, by its state. -/
def Obligations.HostIncidentsAreKeptInTheTable : Prop :=
  (∀ (tag : Byte) (d : List Byte) (k : IncKind) (s : State), s.ready → s.lds.service ≠ .unconfigured →
     12 ≤ d.length → d.length = 12 + at8 d 11 → hostKindOf (at8 d 0) = some k → 1 ≤ at8 d 1 → at8 d 1 ≤ 4 →
     incFieldsOk d = true → s.incFieldsExist d = true →
     (28 ≤ s.hostIncidents ∨ 32 ≤ s.inc.table.length →
       exec (.incRaise tag d) s = .next (s.framed.reply { refused := true, tag := tag, data := [0x12#8] })) ∧
     (s.hostIncidents < 28 → s.inc.table.length < 32 →
       ∀ x : Incident,
         x = { number := s.newNumber, kind := k, key := none, severity := at8 d 1, state := .opened,
               span := (readIncFields d).span, sects := (readIncFields d).sects, hold := (readIncFields d).hold,
               isolate := (readIncFields d).isolate, ann := (readIncFields d).ann, openedAt := s.clock.time,
               ackedAt := none, count := 1, deadline := some (s.tick + escalationSeconds (at8 d 1) * 1000),
               widened := false } →
         exec (.incRaise tag d) s = .next (settle
           ((({ s.framed with inc := { s.inc with table := s.inc.table ++ [x], next := succNumber x.number } }).report
             .incidentRaised (some (.incident x.number)) (some k.code) (some (at8 d 1))).posts
               [.deriveEffects, .answer tag (.done (u16 x.number))])))) ∧
  (∀ (tag : Byte) (n : Nat) (x : Incident) (s : State), s.ready → s.lds.service ≠ .unconfigured → 1 ≤ n → n ≤ 65535 →
     s.incident? n = some x →
     (∀ d, at16 d 0 = n → 12 ≤ d.length → d.length = 12 + at8 d 11 → incFieldsOk d = true →
       s.incFieldsExist d = true →
       (x.state = .resolved →
         exec (.incAmend tag d) s = .next (s.framed.reply { refused := true, tag := tag, data := [0x03#8] })) ∧
       (x.state ≠ .resolved →
         exec (.incAmend tag d) s = .next (settle
           ((s.framed.putIncident
             { x with span := (readIncFields d).span, sects := (readIncFields d).sects,
                      hold := (readIncFields d).hold, isolate := (readIncFields d).isolate,
                      ann := (readIncFields d).ann }).posts [.deriveEffects, .answer tag (.incident n)])))) ∧
     (x.state = .opened →
       exec (.incAck tag (u16 n)) s = .next (settle
         ((s.framed.putIncident
           { x with state := .acknowledged, ackedAt := some s.clock.time, deadline := none }).posts
             [.deriveEffects, .answer tag (.done [0x01#8])]))) ∧
     (x.state = .acknowledged → exec (.incAck tag (u16 n)) s = .next (s.framed.done tag [0x01#8])) ∧
     (x.state = .resolved →
       exec (.incAck tag (u16 n)) s = .next (s.framed.reply { refused := true, tag := tag, data := [0x03#8] })) ∧
     exec (.incClose tag (u16 n)) s = .next (settle
       ((s.framed.setTable (s.inc.table.filter (fun y => y.number != n))).posts
         [.deriveEffects, .answer tag (.done [])])))

/-- R137, R138: a block's raise merges into the incident of its kind and key that stands, reopens a RESOLVED one at the
end of the opening order, or enters a new one, unless 32 are in the table; a resolution ends what stands. R144, R145: an
incident's deadline raises its severity and sets the next deadline from the one that passed, or, at severity 4, widens
it and sets none; ESCALATED is reported and the effects are derived. An incident without a deadline, or none of that
number, is left alone (log entry 2). The tick is brought to the deadline (log entry 4). A load notice of a train RUNNING
in a section that is not LIVE puts its slot on that section's list, takes it off every other and raises STRANDED, with
no resolution before it (R131, R151: the raise merges); any other notice that takes the slot off a list resolves
STRANDED, and one that takes it off none tells nothing. RUNNING is read without a tentative flag, the model's reading of
R131 (log entry 28). -/
def Obligations.AutoIncidentsMergeResolveAndEscalate : Prop :=
  (∀ (k : IncKind) (key : Nat) (s : State),
     (s.autoFind k key = none → 32 ≤ s.inc.table.length →
       raise k key s = { s with hpt := { s.hpt with flags := { s.hpt.flags with incidentOverflow := true } } }) ∧
     (s.autoFind k key = none → s.inc.table.length < 32 →
       raise k key s = (((s.enter (s.autoIncident k key)).report .incidentRaised
         (some (.incident s.newNumber)) (some k.code) (some k.severity)).post .deriveEffects)) ∧
     (∀ x, s.autoFind k key = some x → x.state ≠ .resolved →
       raise k key s = (s.putIncident { x with count := min 255 (x.count + 1) }).report .incidentMerged
         (some (.incident x.number)) (some (min 255 (x.count + 1))) (some 0) ∧
       resolve k key s = ((s.putIncident { x with state := .resolved, deadline := none }).report .incidentResolved
         (some (.incident x.number)) (some k.code) (some key)).post .deriveEffects) ∧
     (∀ x, s.autoFind k key = some x → x.state = .resolved →
       raise k key s = ((s.setTable (s.inc.table.filter (fun z => z.number != x.number) ++
         [{ x with state := .opened, count := min 255 (x.count + 1), openedAt := s.clock.time, ackedAt := none,
                   deadline := if x.widened then none
                     else some (s.tick + escalationSeconds x.severity * 1000) }])).report .incidentMerged
         (some (.incident x.number)) (some (min 255 (x.count + 1))) (some 1)).post .deriveEffects ∧
       resolve k key s = s) ∧
     (s.autoFind k key = none → resolve k key s = s)) ∧
  ((∀ (n : Nat) (s : State), 1 ≤ n → n ≤ 65535 → s.incident? n = none → s.settled →
     exec (.escalationDeadline n) s = .next s) ∧
   ∀ (n d : Nat) (x : Incident) (s : State), 1 ≤ n → n ≤ 65535 → s.incident? n = some x →
     (x.deadline = some d → x.severity < 4 →
       exec (.escalationDeadline n) s = .next (settle
         (((({ s with tick := max s.tick d }).putIncident
           { x with severity := x.severity + 1,
                    deadline := some (d + escalationSeconds (x.severity + 1) * 1000) }).report .escalated
             (some (.incident x.number)) (some (x.severity + 1)) (some 0)).post .deriveEffects))) ∧
     (x.deadline = some d → 4 ≤ x.severity →
       exec (.escalationDeadline n) s = .next (settle
         (((({ s with tick := max s.tick d }).putIncident { x with widened := true, deadline := none }).report .escalated
             (some (.incident x.number)) (some 4) (some 1)).post .deriveEffects))) ∧
     (x.deadline = none → s.settled → exec (.escalationDeadline n) s = .next s) ∧
     escalationSeconds 1 = 300 ∧ escalationSeconds 2 = 120 ∧ escalationSeconds 3 = 60 ∧ escalationSeconds 4 = 30) ∧
  ((∀ (s : State) (slot i : Nat) (n : LoadNote) (r : SectRec), n.sect = some i → s.sect? i = some r →
     n.running = true → r.state ≠ .live → slot ∉ r.stranded →
     load slot n s = ((((s.setLoad slot (some n)).unstrand slot (some i)).modSect i
       (fun r => { r with stranded := r.stranded ++ [slot] })).post (.raise .stranded n.train)).recountAndExamine) ∧
   (∀ (s : State) (slot : Nat) (n : LoadNote),
     (∀ i r, n.sect = some i → s.sect? i = some r → n.running = true → r.state ≠ .live → slot ∈ r.stranded) →
     ((∃ j r, n.sect ≠ some j ∧ s.sect? j = some r ∧ slot ∈ r.stranded) →
       load slot n s = (((s.setLoad slot (some n)).unstrand slot n.sect).post
         (.resolve .stranded n.train)).recountAndExamine) ∧
     ((∀ j r, n.sect ≠ some j → s.sect? j = some r → slot ∉ r.stranded) →
       load slot n s = (s.setLoad slot (some n)).recountAndExamine)) ∧
   (∀ (s : State) (slot train : Nat),
     ((∃ j r, s.sect? j = some r ∧ slot ∈ r.stranded) →
       unload slot train s = (((s.setLoad slot none).unstrand slot none).post
         (.resolve .stranded train)).recountAndExamine) ∧
     ((∀ j r, s.sect? j = some r → slot ∉ r.stranded) →
       unload slot train s = (s.setLoad slot none).recountAndExamine)) ∧
   (∀ (s : State) (slot j : Nat) (keep : Option Nat),
     (s.unstrand slot keep).sect? j =
       if keep = some j then s.sect? j
       else (s.sect? j).map (fun r : SectRec => { r with stranded := r.stranded.filter (fun x => x != slot) })))

/-- R147, R148: a station is held exactly while a standing incident with the hold flag has it among its effective
stations, and a section is demanded exactly while a standing incident with the isolate flag names it. -/
def Obligations.HeldStationsAndDemandedSections : Prop :=
  ∀ s : State,
    (∀ i, i ∈ s.heldSet ↔ i < s.stations.length ∧ ∃ x ∈ s.inc.table,
      x.state ≠ .resolved ∧ x.hold = true ∧ ∃ l, x.span = some l ∧
        (if x.widened then ∃ z ∈ s.zones, i ∈ z ∧ ∃ j ∈ z, j ∈ l else i ∈ l)) ∧
    (∀ i, i ∈ s.demandSet ↔ i < s.sectRows.length ∧ ∃ x ∈ s.inc.table,
      x.state ≠ .resolved ∧ x.isolate = true ∧ i ∈ x.sects)

/-! ### Announcements (09) -/

/-- R153: the effective content of a station is the live part of its highest non-empty layer, or DEFAULT. -/
def Obligations.EffectiveContentIsTheHighestLayer : Prop :=
  ∀ r : StationRec,
    (∀ c, r.incident = some c → r.effective = c) ∧
    (∀ c, r.incident = none → r.service = some c → r.effective = c) ∧
    (∀ n : DelayNotice, r.incident = none → r.service = none → r.delay = some n →
      r.effective = { text := n.text, p1 := n.minutes, p2 := n.train }) ∧
    (∀ c, r.incident = none → r.service = none → r.delay = none → r.routine = some c → r.effective = c) ∧
    (r.incident = none → r.service = none → r.delay = none → r.routine = none →
      r.effective = { text := 0, p1 := 0, p2 := 0 }) ∧
    (∀ p q, StationRec.effective { r with servicePending := p, routinePending := q } = r.effective) ∧
    (∀ c e : Content, c = e ↔ c.text = e.text ∧ c.p1 = e.p1 ∧ c.p2 = e.p2)

/-- R154, R158: ANN_STAGE replaces the staging record in every service state and changes no station; ANN_TRIGGER sets a
zone's trigger; values out of range are refused BAD_VALUE (0x04), a zone or a stop that does not exist NOT_FOUND (0x05).
The trigger's bytes in the reply are the model's choice (log entry 16). R155, R156: ANN_BIND writes the staged content,
ANN_CLEAR the empty mark, into the pending part of the layer at every station named, and answers how many; the live
parts and every other station stand as they did. The width of the reply's count is the model's choice (log entry 16).
R155, R156, R186: the set ALL (0xFF) names every station of the line in ANN_BIND and ANN_CLEAR. -/
def Obligations.StagedContentIsBound : Prop :=
  (∀ (tag : Byte) (s : State), s.ready →
     (∀ text p1 p2 layer : Nat, text < 65536 → p1 < 65536 → p2 < 65536 → layer < 256 →
       (text = 0 ∨ 1023 < text ∨ 1 < layer →
         exec (.annStage tag (u16 text ++ u16 p1 ++ u16 p2 ++ u8 layer)) s =
           .next (s.framed.reply { refused := true, tag := tag, data := [0x04#8] })) ∧
       (1 ≤ text → text ≤ 1023 → layer ≤ 1 →
         exec (.annStage tag (u16 text ++ u16 p1 ++ u16 p2 ++ u8 layer)) s = .next
           ({ s.framed with anp := { s.anp with staging :=
               { text := text, p1 := p1, p2 := p2, layer := if layer = 0 then .service else .routine } } }.reply
             { refused := false, tag := tag, data := u16 text ++ u16 p1 ++ u16 p2 ++ u8 layer }))) ∧
     (s.lds.service ≠ .unconfigured → ∀ z mode stop : Nat, z < 256 → mode < 256 → stop < 256 →
       (2 < mode ∨ 7 < z ∨ (mode = 1 ∧ 63 < stop) →
         exec (.annTrigger tag (u8 z ++ u8 mode ++ u8 stop)) s =
           .next (s.framed.reply { refused := true, tag := tag, data := [0x04#8] })) ∧
       (mode ≤ 2 → z ≤ 7 → (mode = 1 → stop ≤ 63) →
         (s.anp.triggers.length ≤ z ∨ (mode = 1 ∧ s.stopCount ≤ stop) →
           exec (.annTrigger tag (u8 z ++ u8 mode ++ u8 stop)) s =
             .next (s.framed.reply { refused := true, tag := tag, data := [0x05#8] })) ∧
         (z < s.anp.triggers.length → (mode = 1 → stop < s.stopCount) →
           ∀ tr : Trigger, tr = (if mode = 0 then .off else if mode = 1 then .arrival stop else .minute) →
           exec (.annTrigger tag (u8 z ++ u8 mode ++ u8 stop)) s = .next
             ({ s.framed with anp := { s.anp with triggers := s.anp.triggers.set z tr } }.done tag tr.bytes))))) ∧
  (∀ (tag : Byte) (l : List Nat) (s : State), s.ready → s.lds.service ≠ .unconfigured → 1 ≤ l.length → l.length ≤ 32 →
     (∀ i ∈ l, i < 32 ∧ i < s.stationCount) →
     ∀ staged : Content, staged = { text := s.anp.staging.text, p1 := s.anp.staging.p1, p2 := s.anp.staging.p2 } →
     (s.anp.staging.text = 0 →
       exec (.annBind tag (list8 l)) s = .next (s.framed.reply { refused := true, tag := tag, data := [0x03#8] })) ∧
     (s.anp.staging.text ≠ 0 → s.anp.staging.layer = .service →
       exec (.annBind tag (list8 l)) s = .next
         ({ s.framed with anp := { s.anp with stations := s.anp.stations.mapIdx (fun i (r : StationRec) =>
             if i ∈ l then { r with servicePending := .content staged } else r) } }.done tag
           (u8 l.eraseDups.length))) ∧
     (s.anp.staging.text ≠ 0 → s.anp.staging.layer = .routine →
       exec (.annBind tag (list8 l)) s = .next
         ({ s.framed with anp := { s.anp with stations := s.anp.stations.mapIdx (fun i (r : StationRec) =>
             if i ∈ l then { r with routinePending := .content staged } else r) } }.done tag
           (u8 l.eraseDups.length))) ∧
     exec (.annClear tag (u8 0 ++ list8 l)) s = .next
       ({ s.framed with anp := { s.anp with stations := s.anp.stations.mapIdx (fun i (r : StationRec) =>
           if i ∈ l then { r with servicePending := .emptyMark } else r) } }.done tag (u8 l.eraseDups.length)) ∧
     exec (.annClear tag (u8 1 ++ list8 l)) s = .next
       ({ s.framed with anp := { s.anp with stations := s.anp.stations.mapIdx (fun i (r : StationRec) =>
           if i ∈ l then { r with routinePending := .emptyMark } else r) } }.done tag (u8 l.eraseDups.length))) ∧
  (∀ (tag : Byte) (s : State), s.ready → s.lds.service ≠ .unconfigured →
     ∀ staged : Content, staged = { text := s.anp.staging.text, p1 := s.anp.staging.p1, p2 := s.anp.staging.p2 } →
     ∀ written : (StationRec → StationRec) → Host.Outcome State Fault Refusal,
     written = (fun g => .next (({ s.framed with anp := { s.anp with
         stations := s.anp.stations.mapIdx (fun i r => if i < s.stationCount then g r else r) } }).done tag
       (u8 s.stationCount))) →
     (s.anp.staging.text ≠ 0 → s.anp.staging.layer = .service →
       exec (.annBind tag [0xFF#8]) s = written (fun r => { r with servicePending := .content staged })) ∧
     (s.anp.staging.text ≠ 0 → s.anp.staging.layer = .routine →
       exec (.annBind tag [0xFF#8]) s = written (fun r => { r with routinePending := .content staged })) ∧
     (s.anp.staging.text = 0 →
       exec (.annBind tag [0xFF#8]) s = .next (s.framed.reply { refused := true, tag := tag, data := [0x03#8] })) ∧
     exec (.annClear tag [0#8, 0xFF#8]) s = written (fun r => { r with servicePending := .emptyMark }) ∧
     exec (.annClear tag [1#8, 0xFF#8]) s = written (fun r => { r with routinePending := .emptyMark }))

/-- R157, R186: ANN_RELEASE releases every station of the zones named, of every zone for the set ALL (0xFF), in
ascending order of zone and station; a release makes each pending content live, empties a layer with the mark, and asks
for the sending judgement. What the reply counts is log entry 36. -/
def Obligations.ReleaseMakesThePendingLive : Prop :=
  (∀ (tag : Byte) (l : List Nat) (s : State), s.ready → s.lds.service ≠ .unconfigured → 1 ≤ l.length → l.length ≤ 8 →
    (∀ z ∈ l, z < 8 ∧ z < s.anp.triggers.length) →
    ∀ zones, zones = (List.range s.anp.triggers.length).filter (fun z => l.contains z) →
    exec (.annRelease tag (list8 l)) s = .next (settle (s.framed.posts
      (((zones.flatMap s.zoneStations).map .releaseStation) ++
        [.answer tag (.released (s.changing zones) s.orderCount)])))) ∧
  (∀ (tag : Byte) (s : State), s.ready → s.lds.service ≠ .unconfigured →
    exec (.annRelease tag [0xFF#8]) s = .next (settle (s.framed.posts
      ((((List.range s.anp.triggers.length).flatMap s.zoneStations).map .releaseStation) ++
        [.answer tag (.released (s.changing (List.range s.anp.triggers.length)) s.orderCount)])))) ∧
  (∀ (i : Nat) (r : StationRec) (s : State), s.station? i = some r →
    releaseStation i s = (s.setStation i
      { r with
          service := (match r.servicePending with
            | .absent => r.service
            | .content c => some c
            | .emptyMark => none)
          routine := (match r.routinePending with
            | .absent => r.routine
            | .content c => some c
            | .emptyMark => none)
          servicePending := .absent, routinePending := .absent }).post (.judge i))

/-- R162, R163, R164: a delay notice is taken when none stands, from the same train, or with at least as many minutes;
and a judgement outside IN_SERVICE and SUSPENDED, without a display, or of a content already sent and not unconfirmed,
issues no SHOW; any other issues one with the effective content. R165: the outcome of a SHOW that is not the last in
flight only counts it off; the last one leaves the station CONFIRMED where it reached the display, and UNCONFIRMED with
its result kept and DISPLAY_FAILED reported otherwise; every value notice of the display is kept as its reported
content. -/
def Obligations.DelayNoticesAndJudgements : Prop :=
  (∀ (i : Nat) (r : StationRec) (s : State), s.station? i = some r →
     (∀ n : DelayNotice, (r.delay = none ∨ ∃ o, r.delay = some o ∧ (o.train = n.train ∨ o.minutes ≤ n.minutes)) →
       delayWrite i n s = (s.setStation i { r with delay := some n }).post (.judge i)) ∧
     (∀ n o : DelayNotice, r.delay = some o → o.train ≠ n.train → n.minutes < o.minutes → delayWrite i n s = s) ∧
     (∀ train stop o, stop / 2 = i → r.delay = some o → o.train = train →
       trainDeparted train stop s = (s.setStation i { r with delay := none }).post (.judge i)) ∧
     (s.lds.service = .unconfigured ∨ s.lds.service = .configured → judge i s = s) ∧
     (r.lastSent = some r.effective → r.status = .sending ∨ r.status = .confirmed → judge i s = s) ∧
     (r.display = none → judge i s = s) ∧
     (∀ el, r.display = some el → s.lds.service = .inService ∨ s.lds.service = .suspended →
       r.status = .neverSent ∨ r.status = .unconfirmed ∨ r.lastSent ≠ some r.effective → s.successorWaits el = false →
       judge i s = ((s.setStation i { r with lastSent := some r.effective, status := .sending,
                                             inFlight := r.inFlight + 1 }).issueOrder el (.showText r.effective)))) ∧
  (∀ (o : OutcomeMsg) (i : Nat) (r : StationRec) (s : State), s.stationOfDisplay o.el = some i → s.station? i = some r →
     (1 < r.inFlight → s.showOutcome o = s.setStation i { r with inFlight := r.inFlight - 1 }) ∧
     (r.inFlight ≤ 1 → o.result = .complete ∨ o.result = .already →
       s.showOutcome o = s.setStation i { r with inFlight := 0, status := .confirmed, lastFailure := none }) ∧
     (r.inFlight ≤ 1 → o.result ≠ .complete → o.result ≠ .already →
       s.showOutcome o = (s.setStation i
         { r with inFlight := 0, status := .unconfirmed, lastFailure := some o.result.code }).report
           .displayFailed (some (.element o.el)) (some o.result.code) (some i)) ∧
     (∀ v : ValueNotice, v.el = o.el →
       (∀ c, v.value = some (.display c) →
         s.shownNotice v = s.setStation i { r with shown := some (some c, v.state) }) ∧
       (v.value = none → s.shownNotice v = s.setStation i { r with shown := some (none, v.state) })))

/-! ### Field links and the mirror (02, 03) -/

/-- R31, R32: CARRIER_RETURN on a DOWN link makes it UP: LINK_STATE, a poll of every element, LINK_LOSS resolved;
CARRIER_LOSS on an UP link makes it DOWN: its orders fail, its elements go UNKNOWN, LINK_STATE, LINK_LOSS raised. In
DISABLED and LOOPBACK the carrier alone is followed; a change that is none does nothing (log entry 2). R33, R34:
LINK_MODE: an unused link is NOT_FOUND (0x05); LOOPBACK leaves UP or DOWN, NORMAL ends the loop by the carrier; a link
already there is answered DONE and unchanged. R32, R33, R55: a link that leaves its state stops its receiver, a telegram
under way ending as FRAGMENT and a tentative one withdrawn, and its transmitter; its queue and its poll list are emptied
and its receive queue is kept; the order being sent, the queued ones in joining order and the link's other outstanding
ones by ascending element fail LINK_DOWN, each with its successor behind it; every element of the link becomes UNKNOWN,
and each that was not is told. That the reports of the failures follow every outcome and notice is the model's choice
(log entry 39). -/
def Obligations.CarrierAndModeMoveTheLink : Prop :=
  (∀ (i : Nat) (l : LinkRec) (s : State), i < 8 → s.links[i]? = some l →
     (l.carrier = false → l.state = .down →
       exec (.carrierReturn i) s = .next (settle
         (((((s.setLink i { l with carrier := true }).setLink i { l with carrier := true, state := .up }).post
           (.report .linkState (some (.link i)) (some 1) (some 2))).pollSweep i).post (.resolve .linkLoss i)))) ∧
     (l.carrier = true → l.state = .up →
       exec (.carrierLoss i) s = .next (settle
         (((s.setLink i { l with carrier := false }).leaveLink i .down).posts
           [.report .linkState (some (.link i)) (some 2) (some 1), .raise .linkLoss i]))) ∧
     (s.settled → l.carrier = false → l.state ≠ .down →
       exec (.carrierReturn i) s = .next (s.setLink i { l with carrier := true })) ∧
     (s.settled → l.carrier = true → l.state ≠ .up →
       exec (.carrierLoss i) s = .next (s.setLink i { l with carrier := false })) ∧
     (s.settled → l.carrier = true → exec (.carrierReturn i) s = .next s) ∧
     (s.settled → l.carrier = false → exec (.carrierLoss i) s = .next s)) ∧
  (∀ (tag : Byte) (i : Nat) (l : LinkRec) (s : State), s.ready → s.lds.service ≠ .unconfigured → i < 8 →
     s.links[i]? = some l →
     (l.cfg = none →
       exec (.linkModeLoopback tag (BitVec.ofNat 8 i)) s =
         .next (s.framed.reply { refused := true, tag := tag, data := [0x05#8] }) ∧
       exec (.linkModeNormal tag (BitVec.ofNat 8 i)) s =
         .next (s.framed.reply { refused := true, tag := tag, data := [0x05#8] })) ∧
     (l.cfg ≠ none →
       (l.state = .up →
         exec (.linkModeLoopback tag (BitVec.ofNat 8 i)) s = .next (settle
           ((s.framed.leaveLink i .loopback).posts
             [.report .linkState (some (.link i)) (some 2) (some 3), .answer tag (.done [])]))) ∧
       (l.state = .down →
         exec (.linkModeLoopback tag (BitVec.ofNat 8 i)) s = .next
           (((s.framed.setLink i { l with state := .loopback, asm := .hunting }).report .linkState (some (.link i))
             (some 1) (some 3)).done tag [])) ∧
       (l.state = .loopback → l.carrier = true →
         exec (.linkModeNormal tag (BitVec.ofNat 8 i)) s = .next (settle
           (((((s.framed.leaveLink i .up).post (.report .linkState (some (.link i)) (some 3) (some 2))).pollSweep i).posts
             [.resolve .linkLoss i, .answer tag (.done [])])))) ∧
       (l.state = .loopback → l.carrier = false →
         exec (.linkModeNormal tag (BitVec.ofNat 8 i)) s = .next (settle
           ((s.framed.leaveLink i .down).posts
             [.report .linkState (some (.link i)) (some 3) (some 1), .raise .linkLoss i, .answer tag (.done [])]))) ∧
       (l.state = .loopback ∨ l.state = .disabled →
         exec (.linkModeLoopback tag (BitVec.ofNat 8 i)) s = .next (s.framed.done tag [])) ∧
       (l.state ≠ .loopback →
         exec (.linkModeNormal tag (BitVec.ofNat 8 i)) s = .next (s.framed.done tag [])))) ∧
  (∀ (i : Nat) (new : LinkState) (l x : LinkRec) (s w : State), s.links[i]? = some l →
     (l.asm = .hunting → w = s) →
     (∀ bytes d lead last, l.asm = .busy bytes d lead last →
       w = (if l.tentative = none then s
         else (s.setLink i { l with tentative := none }).post (.tentativeEnd i false)).rxJoin i
           (fun looped => .annotation .fragment looped)) →
     w.links[i]? = some x →
     ∀ mine first failing : List MirrorEntry, mine = s.mirror.filter (fun e => e.link == i) →
     ∀ orders : List TxEntry, (∀ o n, l.sender = some { what := .order o, left := n } → orders = o :: l.tx) →
     ((∀ o n, l.sender ≠ some { what := .order o, left := n }) → orders = l.tx) →
     first = orders.filterMap (fun o =>
       mine.find? (fun e => e.el == o.el && e.out.any (fun p => p.token == o.token))) →
     failing = first ++ mine.filter (fun e => e.out.isSome && !first.any (fun f => f.el == e.el)) →
     s.leaveLink i new = ({ w.setLink i { x with state := new, asm := .hunting, sender := none, tx := [], polls := [] } with
         mirror := s.mirror.map (fun e : MirrorEntry => if e.link = i then
           { e with state := .unknown, authority := .unknown, out := none, succ := none, poll := none } else e) }).posts
       (failing.flatMap (fun e : MirrorEntry =>
         (e.out.toList.map (fun o : Order => Notice.outcome
           { el := e.el, data := o.data, token := o.token, result := .linkDown, atIssue := false })) ++
         (e.succ.toList.map (fun o : Waiting => Notice.outcome
           { el := e.el, data := o.data, token := o.token, result := .linkDown, atIssue := false }))) ++
        (mine.filter (fun e : MirrorEntry => e.state != MirrorState.unknown)).map (fun e : MirrorEntry => Notice.value
           { el := e.el, kind := e.kind, state := .unknown, authority := .unknown, value := e.value,
             cause := .unknown, carried := [], moment := s.tick }) ++
        failing.flatMap (fun e : MirrorEntry =>
         (e.out.toList.map (fun o : Order => Notice.report .orderFailed (some (.element e.el)) (some 0x18)
           (some o.data.code))) ++
         (e.succ.toList.map (fun o : Waiting => Notice.report .orderFailed (some (.element e.el)) (some 0x18)
           (some o.data.code))))))

/-- R35: LINK_QUERY answers a link's record and clears the error flags it returned; the condition LINK_FAULT stays as it
is, with its cause judged again. The layout of the reply is the model's choice (log entry 16). R30, R58: ELEMENT_POLL:
an element that is not in the mirror is NOT_FOUND (0x05); LISTED (0) on a link that takes polls, where an idle
transmitter chooses at once (log entry 8), ALREADY_LISTED (1) and LINK_NOT_UP (2) without any change. -/
def Obligations.LinkAndElementRequests : Prop :=
  (∀ (tag : Byte) (i : Nat) (l : LinkRec) (s : State), s.ready → i < 8 → s.links[i]? = some l →
     ∃ t, exec (.linkQuery tag (u8 i)) s = .next t ∧
       t.links = s.links.set i { l with errCheck := false, errDamaged := false, errFragment := false,
                                        errOverrun := false } ∧
       t.hpt.replies = s.hpt.replies ++ [{ refused := false, tag := tag, data := l.bytes }] ∧
       t.hpt.flags = s.hpt.flags ∧ t.hpt.causes.linkFault = t.links.any LinkRec.anyError ∧
       t.mirror = s.mirror ∧ t.hpt.reports = s.hpt.reports) ∧
  (∀ (tag : Byte) (el : Nat) (s : State), s.ready → el < 256 →
     (s.entry? el = none →
       exec (.elementPoll tag (u8 el)) s = .next (s.framed.reply { refused := true, tag := tag, data := [0x05#8] })) ∧
     (∀ e l, s.entry? el = some e → s.links[e.link]? = some l →
       (l.state = .down ∨ l.state = .disabled →
         exec (.elementPoll tag (u8 el)) s = .next (s.framed.done tag [0x02#8])) ∧
       (l.state = .up ∨ l.state = .loopback →
         (el ∈ l.polls → exec (.elementPoll tag (u8 el)) s = .next (s.framed.done tag [0x01#8])) ∧
         (el ∉ l.polls →
           exec (.elementPoll tag (u8 el)) s =
             .next (((s.framed.setLink e.link { l with polls := l.polls ++ [el] }).kick e.link).done tag [0x00#8]) ∧
           (l.sender ≠ none → ∀ u : State, (u.setLink e.link { l with polls := l.polls ++ [el] }).kick e.link =
             u.setLink e.link { l with polls := l.polls ++ [el] })))))

/-- R19, R169: a field character is good when its nine data and parity bits hold an odd number of ones and its stop bit
is at mark, a host character when its stop bit is at mark; any other, and a break, is not. R19, R20, R21, R22: an UP
link's assembler takes each character as judged: a lead byte begins a telegram; a byte joins it, a damaged one with its
damage mark; a break marks the damage; a lead byte within it waits for its double, which joins as one byte; a gap of
more than 20 ms abandons it as FRAGMENT, the tick being brought to 21 ms after the last character (log entries 4 and 5).
A looped link takes the characters of its own transmitter (R34, log entry 24); a DOWN or DISABLED link takes none. R20,
R21, R22, R24: what a character that ends an assembly brings about, on an UP link with nothing queued: a length above 24
is DAMAGED, an undoubled lead byte FRAGMENT with the new telegram begun, the last check byte a good telegram or a CHECK
annotation; the last payload byte of a platform event is forwarded to the train register. A character that does not
bring about what its row names has no effect under that row (log entry 2). R21, R23, R25, R26, R27: the end of a
telegram whatever is queued, the join with its LINK_CONGESTED before the event's end (log entry 45): a damaged one joins
as DAMAGED; a tentative one that matches its check and finds room joins as forwarded and confirms its event, and any
other end of it withdraws the event, a mismatch setting CHECK and a full queue OVERRUN. An entry joins the tail, sets
OVERRUN where 16 are queued, and the one that reaches the congestion level is reported LINK_CONGESTED. -/
def Obligations.FieldCharactersReachTheAssembler : Prop :=
  ((∀ (v : Byte) (parity stop : Bool) (n : Nat), n = ((List.range 8).countP (fun i => v.getLsbD i)) + parity.toNat →
     (FieldChar.bits v parity stop).judged =
       if n % 2 = 1 ∧ stop = true then Received.good v else Received.damaged v) ∧
   FieldChar.lineBreak.judged = .lineBreak ∧ HostChar.lineBreak.judged = .faulty ∧
   (∀ (v : Byte) (stop : Bool), (HostChar.bits v stop).judged =
     if stop = true then HostReceived.good v else HostReceived.faulty)) ∧
  (∀ (i : Nat) (l : LinkRec) (s : State), s.settled → i < 8 → s.links[i]? = some l →
     (l.state = .up → l.asm = .hunting → ∀ c : FieldChar,
       (c.judged = .good 0x96#8 →
         exec (.fieldCharacterTaken i c) s = .next (s.setLink i { l with asm := .busy [] false false s.tick })) ∧
       (c.judged ≠ .good 0x96#8 → exec (.fieldCharacterTaken i c) s = .next (s.setLink i l))) ∧
     (∀ bytes dmg last, l.state = .up → l.asm = .busy bytes dmg false last → ∀ c : FieldChar,
       (c.judged = .good 0x96#8 →
         exec (.fieldCharacterTaken i c) s = .next (s.setLink i { l with asm := .busy bytes dmg true s.tick })) ∧
       (c.judged = .lineBreak →
         exec (.fieldCharacterTaken i c) s = .next (s.setLink i { l with asm := .busy bytes true false s.tick }))) ∧
     (∀ bytes dmg lead last bs n v, l.state = .up → l.asm = .busy bytes dmg lead last → bs = bytes ++ [v] →
       n = at8 bs 3 → bs.length < 4 ∨ (n ≤ 24 ∧ bs.length ≠ 4 + n ∧ bs.length ≠ 6 + n) → ∀ c : FieldChar,
       (c.judged = .good v → (lead = true ↔ v = 0x96#8) →
         exec (.fieldCharacterTaken i c) s = .next (s.setLink i { l with asm := .busy bs dmg false s.tick })) ∧
       (c.judged = .damaged v → lead = false →
         exec (.fieldCharacterTaken i c) s = .next (s.setLink i { l with asm := .busy bs true false s.tick }))) ∧
     (∀ bytes dmg lead last, l.state = .up → l.asm = .busy bytes dmg lead last → l.tentative = none → l.rx = [] →
       4 ≤ l.level →
       exec (.fieldGapTimeout i) s = .next ({ s with tick := max s.tick (last + 21) }.setLink i
         { l with asm := .hunting, rx := [.annotation .fragment false] })) ∧
     (∀ t b left, l.state = .loopback → l.asm = .hunting → l.sender = some t → t.left = b :: left → ∀ c,
       exec (.fieldCharacterTaken i c) s = .next (s.setLink i
         { l with sender := some { t with left := left },
                  asm := if b = 0x96#8 then .busy [] false false s.tick else .hunting })) ∧
     (l.state = .down ∨ l.state = .disabled ∨ (l.state = .loopback ∧ ∀ t, l.sender = some t → t.left = []) →
       ∀ c, exec (.fieldCharacterTaken i c) s = .next s) ∧
     (l.state ≠ .up ∨ l.asm = .hunting → exec (.fieldGapTimeout i) s = .next s)) ∧
  (∀ (i : Nat) (l : LinkRec) (bytes : List Byte) (last : Nat) (s : State), s.settled → i < 8 → s.links[i]? = some l →
     l.state = .up → l.tentative = none → l.rx = [] → l.congested = false → 4 ≤ l.level → ∀ c : FieldChar,
     (s.overlong i c = false → exec (.telegramLengthDamaged i c) s = .next s) ∧
     (s.fragments i c = false → exec (.leadByteFragment i c) s = .next s) ∧
     (s.completes i c = false → exec (.fieldTelegramComplete i c) s = .next s) ∧
     (s.forwards i c = false → exec (.tentativeForward i c) s = .next s) ∧
     ∀ v : Byte, v ≠ 0x96#8 → c.judged = .good v →
     (∀ dmg : Bool, l.asm = .busy bytes dmg false last → bytes.length = 3 → 24 < v.toNat →
       exec (.telegramLengthDamaged i c) s =
         .next (s.setLink i { l with asm := .hunting, rx := [.annotation .damaged false] })) ∧
     (∀ dmg : Bool, l.asm = .busy bytes dmg true last →
       exec (.leadByteFragment i c) s =
         .next (s.setLink i { l with asm := .busy [v] false false s.tick, rx := [.annotation .fragment false] })) ∧
     (l.asm = .busy bytes false false last → 5 ≤ bytes.length → at8 bytes 3 ≤ 24 → bytes.length = 5 + at8 bytes 3 →
       (checkMatches (bytes ++ [v]) = true →
         exec (.fieldTelegramComplete i c) s =
           .next (s.setLink i { l with asm := .hunting, rx := [.telegram (telegramOf (bytes ++ [v])) false false] })) ∧
       (checkMatches (bytes ++ [v]) = false →
         exec (.fieldTelegramComplete i c) s =
           .next (s.setLink i { l with asm := .hunting, rx := [.annotation .check false] }))) ∧
     (∀ f : Forwarded, l.asm = .busy bytes false false last → bytes.length = 6 → at8 bytes 3 = 3 →
       s.forwardable i (bytes ++ [v]) false = some f →
       exec (.tentativeForward i c) s = .next (settle
         ((s.setLink i { l with asm := .busy (bytes ++ [v]) false false s.tick, tentative := some f }).post
           (.tentativeEvent i f.el f.arrival f.train))))) ∧
  ((∀ (i : Nat) (l : LinkRec) (bytes bs : List Byte) (dmg lead : Bool) (last : Nat) (v : Byte) (c : FieldChar)
       (s ended : State), s.settled → i < 8 → s.links[i]? = some l → l.state = .up →
     l.asm = .busy bytes dmg lead last → bs = bytes ++ [v] → at8 bs 3 ≤ 24 → bs.length = 6 + at8 bs 3 →
     (c.judged = .good v ∧ (lead = true ↔ v = 0x96#8)) ∨ (c.judged = .damaged v ∧ lead = false) →
     ended = s.setLink i { l with asm := .hunting, tentative := none } →
     ∀ bad : Bool, bad = (dmg || c.judged == .damaged v) →
     (bad = true → l.tentative = none → exec (.fieldTelegramComplete i c) s =
       .next (settle (ended.rxJoin i (fun looped => .annotation .damaged looped)))) ∧
     (bad = true → l.tentative ≠ none → exec (.fieldTelegramComplete i c) s =
       .next (settle ((ended.rxJoin i (fun looped => .annotation .damaged looped)).post (.tentativeEnd i false)))) ∧
     (bad = false → checkMatches bs = false → l.tentative ≠ none → exec (.fieldTelegramComplete i c) s =
       .next (settle ((ended.setLink i { l with asm := .hunting, tentative := none, errCheck := true }).post
         (.tentativeEnd i false)))) ∧
     (bad = false → checkMatches bs = true → l.tentative ≠ none → l.rx.length < 16 →
       exec (.fieldTelegramComplete i c) s = .next (settle
         ((ended.rxJoin i (fun looped => .telegram (telegramOf bs) true looped)).post (.tentativeEnd i true)))) ∧
     (bad = false → checkMatches bs = true → l.tentative ≠ none → 16 ≤ l.rx.length →
       exec (.fieldTelegramComplete i c) s = .next (settle
         ((ended.setLink i { l with asm := .hunting, tentative := none, errOverrun := true }).post
           (.tentativeEnd i false))))) ∧
   (∀ (i : Nat) (l : LinkRec) (bytes : List Byte) (dmg lead : Bool) (last : Nat) (s : State), s.settled → i < 8 →
     s.links[i]? = some l → l.state = .up → l.asm = .busy bytes dmg lead last → l.tentative ≠ none →
     exec (.fieldGapTimeout i) s = .next (settle
       ((({ s with tick := max s.tick (last + 21) }.setLink i { l with asm := .hunting, tentative := none }).post
         (.tentativeEnd i false)).rxJoin i (fun looped => .annotation .fragment looped)))) ∧
   (∀ (i : Nat) (l : LinkRec) (mk : Bool → RxEntry) (s : State), s.links[i]? = some l →
     (16 ≤ l.rx.length → s.rxJoin i mk = s.setLink i { l with errOverrun := true }) ∧
     (l.rx.length < 16 → l.congested = true ∨ l.rx.length + 1 < l.level →
       s.rxJoin i mk = s.setLink i { l with rx := l.rx ++ [mk (l.state == .loopback)] }) ∧
     (l.rx.length < 16 → l.congested = false → l.level ≤ l.rx.length + 1 →
       s.rxJoin i mk = (s.setLink i { l with rx := l.rx ++ [mk (l.state == .loopback)], congested := true }).report
         .linkCongested (some (.link i)) (some (l.rx.length + 1)) none)))

/-- R23: the mirror takes the head entry: an annotation sets its error flag, a telegram of a looped link is reported
LOOP_ECHO, one from an address without an element FIELD_INCONSISTENT with check 2; an empty queue gives nothing (log
entry 2). -/
def Obligations.MirrorTakesTheHeadEntry : Prop :=
  ∀ (i : Nat) (l : LinkRec) (rest : List RxEntry) (s : State), s.settled → i < 8 → s.links[i]? = some l →
    (l.rx = [] → exec (.mirrorTakeEntry i) s = .next s) ∧
    (l.congested = false →
      (∀ b, l.rx = .annotation .check b :: rest →
        exec (.mirrorTakeEntry i) s = .next ((s.setLink i { l with rx := rest, errCheck := true }).latch)) ∧
      (∀ b, l.rx = .annotation .damaged b :: rest →
        exec (.mirrorTakeEntry i) s = .next ((s.setLink i { l with rx := rest, errDamaged := true }).latch)) ∧
      (∀ b, l.rx = .annotation .fragment b :: rest →
        exec (.mirrorTakeEntry i) s = .next ((s.setLink i { l with rx := rest, errFragment := true }).latch)) ∧
      (∀ t f, l.rx = .telegram t f true :: rest →
        exec (.mirrorTakeEntry i) s = .next ((s.setLink i { l with rx := rest }).report .loopEcho (some (.link i))
          (some t.addr.toNat) (some (t.kind.toNat * 256 + t.seq.toNat)))) ∧
      (∀ t f, l.rx = .telegram t f false :: rest →
        s.mirror.find? (fun e => e.link == i && e.addr == t.addr.toNat) = none →
        exec (.mirrorTakeEntry i) s = .next ((s.setLink i { l with rx := rest }).report .fieldInconsistent
          (some (.link i)) (some t.addr.toNat) (some 2))))

/-- R29, R48, R56: TELEGRAM_SENT on an UP link with nothing more to send: the transmitter is idle; the order it sent is
SENT with its answer timer running; a poll it sent awaits its STATE. An idle transmitter sends nothing (log entry 2).
R29, R30, R43: an idle transmitter of an UP or LOOPBACK link takes the oldest SAFETY order, else the oldest CONTROL
order, else the first listed poll with a new sequence, else the oldest DISPLAY order unless the link is CONGESTED; a
busy one chooses nothing. -/
def Obligations.TelegramSentStartsTheTimer : Prop :=
  (∀ (i : Nat) (l : LinkRec) (s : State), s.settled → i < 8 → s.links[i]? = some l →
     (l.sender = none → exec (.telegramSent i) s = .next s) ∧
     (l.state = .up → l.tx = [] → l.polls = [] →
       (∀ x left e o, l.sender = some { what := .order x, left := left } → s.entry? x.el = some e → e.link = i →
         e.out = some o → o.seq = x.seq → o.stage = .queued →
         exec (.telegramSent i) s = .next ((s.setLink i { l with sender := none }).setEntry
           { e with out := some { o with stage := .sent (s.tick + s.answerMs i) } })) ∧
       (∀ el a q left e, l.sender = some { what := .poll el a q, left := left } → s.entry? el = some e → e.link = i →
         exec (.telegramSent i) s = .next ((s.setLink i { l with sender := none }).setEntry
           { e with poll := some { seq := q, deadline := s.tick + s.answerMs i } })))) ∧
  (∀ (i : Nat) (l : LinkRec) (s : State), s.links[i]? = some l →
     (l.sender ≠ none ∨ l.state = .down ∨ l.state = .disabled → s.kick i = s) ∧
     (l.sender = none → l.state = .up ∨ l.state = .loopback →
       (∀ pre y post cl, l.tx = pre ++ y :: post → y.data.cls = cl → (∀ z ∈ pre, z.data.cls ≠ cl) →
         cl = .safety ∨ (cl = .control ∧ ∀ z ∈ l.tx, z.data.cls ≠ .safety) ∨
           (cl = .display ∧ (∀ z ∈ l.tx, z.data.cls = .display) ∧ l.polls = [] ∧ l.congested = false) →
         s.kick i = s.setLink i
           { l with tx := pre ++ post,
                    sender := some { what := .order y, left := (Sending.order y).telegram.characters } }) ∧
       (∀ el rest e q, (∀ z ∈ l.tx, z.data.cls = .display) → l.polls = el :: rest → s.entry? el = some e →
         q = (e.seq + 1) % 256 →
         s.kick i = (s.setEntry { e with seq := q }).setLink i
           { l with polls := rest,
                    sender := some { what := .poll el e.addr q,
                                     left := (Sending.poll el e.addr q).telegram.characters } }) ∧
       ((∀ z ∈ l.tx, z.data.cls = .display) → l.polls = [] → l.tx = [] ∨ l.congested = true → s.kick i = s)))

/-- R48, R49, R50: an order whose answer, execution or push time ends fails TIMEOUT (0x14), EXEC_TIMEOUT (0x15) or
NO_PUSH (0x17): the entry becomes UNKNOWN with its value kept, a waiting successor fails alike, the origins are told,
the failures reported and the element listed for a poll. An order in another stage, or none, is left alone (log entry
2). The tick is brought to the deadline (log entry 4). R56: a poll that is not answered in time is reported
ELEMENT_SILENT; a HELD or REPORTED entry becomes UNKNOWN with its value kept and tells its user block, an UNKNOWN or
ORDERED one awaits no longer. Without a poll awaited nothing happens (log entry 2). The tick is brought to the deadline
(log entry 4). -/
def Obligations.OrderTimersFailTheOrder : Prop :=
  (∀ (el d : Nat) (e : MirrorEntry) (o : Order) (s : State), el < 256 → s.entry? el = some e → e.out = some o →
     ∀ lost, lost = (fun r : Result => Host.Outcome.next (φ := Fault) (ρ := Refusal) (settle
       (((({ s with tick := max s.tick d }).setEntry
         { e with state := .unknown, authority := .unknown, out := none, succ := none }).posts
           (e.failOutcomes r ++
             [Notice.value { el := e.el, kind := e.kind, state := .unknown, authority := .unknown, value := e.value,
                             cause := .unknown, carried := [], moment := max s.tick d }] ++
             e.failReports r)).poll e.link e.el))) →
     (o.stage = .sent d → exec (.answerTimeout el) s = lost .timeout) ∧
     (o.stage = .executing d → exec (.execTimeout el) s = lost .execTimeout) ∧
     (o.stage = .pushWait d → exec (.noPush el) s = lost .noPush) ∧
     (s.settled → o.stage = .queued →
       exec (.answerTimeout el) s = .next s ∧ exec (.execTimeout el) s = .next s ∧ exec (.noPush el) s = .next s)) ∧
  ((∀ (el : Nat) (s : State), el < 256 → (∀ e, s.entry? el = some e → e.poll = none) → s.settled →
     exec (.elementSilent el) s = .next s) ∧
   ∀ (el : Nat) (e : MirrorEntry) (w : PollWait) (s : State), el < 256 → s.entry? el = some e → e.poll = some w →
     ∀ u, u = ({ s with tick := max s.tick w.deadline }).report .elementSilent (some (.element el)) none none →
     (e.state = .held ∨ e.state = .reported →
       exec (.elementSilent el) s = .next (settle ((u.setEntry
         { e with state := .unknown, authority := .unknown, out := none, succ := none, poll := none }).post
           (.value { el := e.el, kind := e.kind, state := .unknown, authority := .unknown, value := e.value,
                     cause := .unknown, carried := [], moment := u.tick })))) ∧
     (s.settled → e.state = .unknown ∨ e.state = .ordered →
       exec (.elementSilent el) s = .next (u.setEntry { e with poll := none })))

/-- R45, R46: how an order is judged at its issue by the mirror state of its element. The notice of an order's start and
its cause are log entry 10, the immediate choice of an idle transmitter log entry 8. R28, R47, R54, R55: a SAFETY order
to an ORDERED element supersedes the outstanding order: one still queued is replaced at the tail, one already sent is
followed by it; the SUPERSEDED outcome and report follow, and a waiting successor stays. At a full transmit queue a
SAFETY order evicts the newest DISPLAY, then the newest CONTROL order, and is refused LINK_FULL where neither is queued,
as every other order is. -/
def Obligations.OrdersAreJudgedAtIssue : Prop :=
  (∀ (el token : Nat) (d : OrderData) (s : State),
     (s.entry? el = none → issue el d token s = s.failAtIssue el d token .unknown) ∧
     (∀ e, s.entry? el = some e →
       (e.state = .unknown → issue el d token s = s.failAtIssue el d token .unknown) ∧
       (e.state = .reported → issue el d token s = s.failAtIssue el d token .localCtl) ∧
       (∀ l, e.state = .held → e.succ = none → s.links[e.link]? = some l → l.state = .down →
         issue el d token s = (s.setEntry { e with seq := (e.seq + 1) % 256 }).failAtIssue e.el d token .linkDown) ∧
       (∀ l x, e.state = .held → e.succ = none → s.links[e.link]? = some l → l.state = .up ∨ l.state = .loopback →
         l.tx.length < 12 →
         x = { e with seq := (e.seq + 1) % 256, state := .ordered,
                      out := some { data := d, token := token, seq := (e.seq + 1) % 256, stage := .queued,
                                    defers := 0 } } →
         issue el d token s = (((s.setLink e.link { l with tx := l.tx ++
             [{ el := e.el, addr := e.addr, seq := (e.seq + 1) % 256, data := d, token := token }] }).setEntry x).kick
               e.link).post
           (.value { el := e.el, kind := e.kind, state := .ordered, authority := e.authority, value := e.value,
                     cause := .order, carried := [], moment := s.tick })) ∧
       (∀ o, e.state = .ordered → e.out = some o → d.cls ≠ .safety → e.succ = none →
         issue el d token s = s.setEntry { e with succ := some { data := d, token := token } }) ∧
       (∀ o w, e.state = .ordered → e.out = some o → d.cls ≠ .safety → e.succ = some w →
         issue el d token s = (s.setEntry { e with succ := some { data := d, token := token } }).posts
           [.outcome { el := e.el, data := w.data, token := w.token, result := .superseded, atIssue := false },
            .report .orderFailed (some (.element e.el)) (some 0x13) (some w.data.code)]))) ∧
  ((∀ (el token : Nat) (d : OrderData) (e x : MirrorEntry) (o : Order) (s : State), s.entry? el = some e →
     e.state = .ordered → e.out = some o → d.cls = .safety →
     x = { e with seq := (e.seq + 1) % 256,
                  out := some { data := d, token := token, seq := (e.seq + 1) % 256, stage := .queued, defers := 0 } } →
     ∀ (tx : TxEntry) (old : List Notice),
     tx = { el := e.el, addr := e.addr, seq := (e.seq + 1) % 256, data := d, token := token } →
     old = [.outcome { el := e.el, data := o.data, token := o.token, result := .superseded, atIssue := false },
            .report .orderFailed (some (.element e.el)) (some 0x13) (some o.data.code)] →
     (∀ l, s.links[e.link]? = some l → (∃ y ∈ l.tx, y.token = o.token) →
       issue el d token s = (((s.setLink e.link
         { l with tx := l.tx.filter (fun y => y.token != o.token) ++ [tx] }).setEntry x).kick e.link).posts old) ∧
     (∀ l u, s.links[e.link]? = some l → (∀ y ∈ l.tx, y.token ≠ o.token) → s.offer e.link tx = .taken u →
       issue el d token s = ((u.setEntry x).kick e.link).posts old) ∧
     (∀ l r, s.links[e.link]? = some l → (∀ y ∈ l.tx, y.token ≠ o.token) → s.offer e.link tx = .refused r →
       issue el d token s = (s.setEntry { e with seq := (e.seq + 1) % 256 }).failAtIssue e.el d token r)) ∧
   (∀ (i : Nat) (tx : TxEntry) (l : LinkRec) (s : State), s.links[i]? = some l →
     (l.state = .disabled ∨ l.state = .down → s.offer i tx = .refused .linkDown) ∧
     (l.state = .up ∨ l.state = .loopback →
       (l.tx.length < 12 → s.offer i tx = .taken (s.setLink i { l with tx := l.tx ++ [tx] })) ∧
       (12 ≤ l.tx.length → tx.data.cls ≠ .safety → s.offer i tx = .refused .linkFull) ∧
       (12 ≤ l.tx.length → tx.data.cls = .safety → (∀ y ∈ l.tx, y.data.cls = .safety) →
         s.offer i tx = .refused .linkFull) ∧
       (∀ pre y post cl, 12 ≤ l.tx.length → tx.data.cls = .safety → l.tx = pre ++ y :: post → y.data.cls = cl →
         (∀ z ∈ post, z.data.cls ≠ cl) → cl = .display ∨ (cl = .control ∧ ∀ z ∈ l.tx, z.data.cls ≠ .display) →
         s.offer i tx = .taken ((s.setLink i { l with tx := pre ++ post ++ [tx] }).post (.evicted y.el y.token))))) ∧
   (∀ (el token : Nat) (s : State),
     (∀ e o, s.entry? el = some e → e.out = some o → o.token = token →
       evicted el token s = (s.setEntry { e with state := .held, out := none }).posts
         [.outcome { el := e.el, data := o.data, token := o.token, result := .evicted, atIssue := false },
          .follow e.el .order o.data .evicted]) ∧
     ((∀ e o, s.entry? el = some e → e.out = some o → o.token ≠ token) → evicted el token s = s)))

/-- R40, R43, R49, R52, R53: a breaker's STATE, ANSWER and EXECUTED at the head of its link's queue, from their bytes.
What an UNKNOWN entry keeps on a link that is not UP is log entry 11; a notice with cause order follows a REJECT (log
entry 10). R38 to R41, R50, R51, R83, R122, R127: a telegram from an element of any kind, once judged: one that fails a
check is reported FIELD_INCONSISTENT; a STATE with an order outstanding keeps it while REMOTE and fails it LOCAL
otherwise; an EVENT changes the recorded value and tells the user block, and a platform event that was not forwarded
goes to the train register as confirmed; DEFER waits for the push, the fourth fails DEFERRED_OUT; the push fails LOCAL,
is ALREADY at the target, or sends the order again. The model's choices: an order that fails LOCAL while QUEUED leaves
its telegram in the queue (log entry 12), the platform of no station tells the train register nothing (log entry 13),
and an order sent again is chosen by an idle transmitter in the same step (log entry 8). R44, R49, R52, R53: ACCEPT,
REJECT and EXECUTED from a breaker, a platform or a display: the execution time of the kind starts; the order fails
REJECTED; or it ends COMPLETE when the value is its target, a platform's judged on the indication and a display's on the
content shown, and DIVERGED otherwise; one that is not awaited is stale. R38, R39, R41, R185: what the telegrams of each
kind say: a STATE's authority and value, an EVENT's code and train, an ANSWER's code and reason, and what an EVENT makes
of the recorded value. A platform of which only events were received has no indication (log entry 15). R42, R46, R54:
after the outcome of an order that left the entry HELD a waiting successor goes next: taken by the link it is
outstanding, refused it fails with the refusal's cause; one value notice tells the entry as it then stands, and the
reports follow in the order of the outcomes. -/
def Obligations.BreakerTelegramsUpdateTheMirror : Prop :=
  (∀ (i : Nat) (l : LinkRec) (t : Telegram) (f : Bool) (rest : List RxEntry) (e : MirrorEntry) (s u : State),
     s.settled → i < 8 → s.links[i]? = some l → l.congested = false → l.rx = .telegram t f false :: rest →
     s.mirror.find? (fun x => x.link == i && x.addr == t.addr.toNat) = some e → e.kind = .breaker →
     u = s.setLink i { l with rx := rest } →
     ∀ (vb : Byte) (v : BreakerValue), (vb, v) ∈ [(0#8, .opened), (1#8, .precharged), (2#8, .closed), (3#8, .tripped)] →
     (∀ (ab : Byte) (a : Authority) (x : MirrorEntry), (ab, a) ∈ [(1#8, .remote), (2#8, .localCtl)] → t.kind = 1#8 →
       t.payload = [ab, vb] → e.out = none →
       (e.state ≠ .unknown ∨ l.state = .up →
         x = { e with value := some (.breaker v), poll := none, authority := a,
                      state := if a = .remote then .held else .reported }) →
       (e.state = .unknown ∧ l.state ≠ .up →
         x = { e with value := some (.breaker v), poll := none, authority := .unknown }) →
       exec (.mirrorTakeEntry i) s = .next (settle ((u.setEntry x).post
         (.value { el := e.el, kind := e.kind, state := x.state, authority := x.authority, value := x.value,
                   cause := .state, carried := [], moment := s.tick })))) ∧
     (∀ (o : Order) (reason : Byte), e.out = some o →
       (o.seq = t.seq.toNat → ∀ d, o.stage = .sent d →
         (t.kind = 3#8 → t.payload = [1#8, reason] →
           exec (.mirrorTakeEntry i) s = .next (u.setEntry
             { e with out := some { o with stage := .executing (s.tick + s.params.breakerExec * 1000) } })) ∧
         (t.kind = 3#8 → t.payload = [3#8, reason] →
           exec (.mirrorTakeEntry i) s = .next (settle ((u.setEntry { e with state := .held, out := none }).posts
             [.outcome { el := e.el, data := o.data, token := o.token, result := .rejected reason.toNat,
                         atIssue := false },
              .follow e.el .order o.data (.rejected reason.toNat)])))) ∧
       (o.seq = t.seq.toNat → (∃ d, o.stage = .sent d ∨ o.stage = .executing d) → t.kind = 4#8 → t.payload = [vb] →
         ∀ r : Result, r = (if o.data.targetMet (.breaker v) then .complete else .diverged (.breaker v)) →
         exec (.mirrorTakeEntry i) s = .next (settle
           ((u.setEntry { e with value := some (.breaker v), authority := .remote, state := .held, out := none }).posts
             [.outcome { el := e.el, data := o.data, token := o.token, result := r, atIssue := false },
              .follow e.el .executed o.data r]))) ∧
       (o.seq ≠ t.seq.toNat → (t.kind = 3#8 ∧ t.payload = [1#8, reason]) ∨ (t.kind = 4#8 ∧ t.payload = [vb]) →
         exec (.mirrorTakeEntry i) s = .next u))) ∧
  (∀ (i : Nat) (l : LinkRec) (t : Telegram) (f : Bool) (rest : List RxEntry) (e : MirrorEntry) (s u : State),
     s.settled → i < 8 → s.links[i]? = some l → l.congested = false → l.rx = .telegram t f false :: rest →
     s.mirror.find? (fun x => x.link == i && x.addr == t.addr.toNat) = some e →
     u = s.setLink i { l with rx := rest } →
     ∀ told : MirrorEntry → Cause → List (Option Nat) → Notice,
     told = (fun x c carried => .value { el := x.el, kind := x.kind, state := x.state, authority := x.authority,
                                         value := x.value, cause := c, carried := carried, moment := s.tick }) →
     (∀ n, judgeTelegram e.kind t = .failed n → exec (.mirrorTakeEntry i) s =
       .next (u.report .fieldInconsistent (some (.link i)) (some t.addr.toNat) (some n))) ∧
     (∀ a v, judgeTelegram e.kind t = .ok (.state a v) →
       (∀ x, e.out = none →
         (e.state ≠ .unknown ∨ l.state = .up →
           x = { e with value := some v, poll := none, authority := a,
                        state := if a = .remote then .held else .reported }) →
         (e.state = .unknown ∧ l.state ≠ .up →
           x = { e with value := some v, poll := none, authority := .unknown }) →
         exec (.mirrorTakeEntry i) s = .next (settle ((u.setEntry x).post (told x .state v.volts)))) ∧
       (∀ o, e.out = some o → a = .remote → (∀ d, o.stage ≠ .pushWait d) →
         ∀ x, x = { e with value := some v, authority := .remote, poll := none } →
         exec (.mirrorTakeEntry i) s = .next (settle ((u.setEntry x).post (told x .state v.volts)))) ∧
       (∀ o, e.out = some o → a ≠ .remote →
         ∀ x, x = { e with value := some v, authority := a, poll := none, state := .reported, out := none,
                           succ := none } →
         exec (.mirrorTakeEntry i) s = .next (settle ((u.setEntry x).posts
           (e.failOutcomes .localCtl ++ [told x .state []] ++ e.failReports .localCtl)))) ∧
       (∀ o d, e.out = some o → a = .remote → o.stage = .pushWait d → o.data.targetMet v = true →
         exec (.mirrorTakeEntry i) s = .next (settle
           ((u.setEntry { e with value := some v, authority := .remote, poll := none, state := .held, out := none }).posts
             [.outcome { el := e.el, data := o.data, token := o.token, result := .already, atIssue := false },
              .follow e.el .state o.data .already]))) ∧
       (∀ o d x q, e.out = some o → a = .remote → o.stage = .pushWait d → o.data.targetMet v = false →
         q = (e.seq + 1) % 256 →
         x = { e with value := some v, authority := .remote, poll := none, state := .ordered, seq := q,
                      out := some { o with seq := q, stage := .queued } } →
         (∀ w, u.offer e.link { el := e.el, addr := e.addr, seq := q, data := o.data, token := o.token } = .taken w →
           exec (.mirrorTakeEntry i) s =
             .next (settle (((w.setEntry x).kick e.link).post (told x .state [])))) ∧
         (∀ r, u.offer e.link { el := e.el, addr := e.addr, seq := q, data := o.data, token := o.token } = .refused r →
           exec (.mirrorTakeEntry i) s = .next (settle
             ((u.setEntry { x with state := .held, out := none }).posts
               [.outcome { el := e.el, data := o.data, token := o.token, result := r, atIssue := false },
                .follow e.el .state o.data r]))))) ∧
     (∀ code train v x, judgeTelegram e.kind t = .ok (.event code train v) →
       x = { e with value := eventValue e code train v } →
       (e.kind = .platform → f = true → exec (.mirrorTakeEntry i) s = .next (u.setEntry x)) ∧
       (e.kind = .platform → f = false → exec (.mirrorTakeEntry i) s = .next (settle ((u.setEntry x).posts
         ([told x (.event code) []] ++
           ((s.stopOfElement e.el).map (fun k => Notice.confirmedEvent (code == 1) train k)).toList)))) ∧
       (e.kind ≠ .platform → exec (.mirrorTakeEntry i) s = .next (settle ((u.setEntry x).post
         (told x (.event code) ((v.map Value.volts).getD [])))))) ∧
     (∀ reason o d, judgeTelegram e.kind t = .ok (.answer 2 reason) → e.out = some o → o.stage = .sent d →
       o.seq = t.seq.toNat →
       (o.defers < 3 → exec (.mirrorTakeEntry i) s = .next (u.setEntry
         { e with out := some { o with defers := o.defers + 1, stage := .pushWait (s.tick + u.answerMs e.link) } })) ∧
       (3 ≤ o.defers → exec (.mirrorTakeEntry i) s = .next (settle
         ((u.setEntry { e with state := .held, out := none }).posts
           [.outcome { el := e.el, data := o.data, token := o.token, result := .deferredOut, atIssue := false },
            .follow e.el .order o.data .deferredOut]))))) ∧
  ((∀ (i : Nat) (l : LinkRec) (t : Telegram) (f : Bool) (rest : List RxEntry) (e : MirrorEntry) (s u : State),
     s.settled → i < 8 → s.links[i]? = some l → l.congested = false → l.rx = .telegram t f false :: rest →
     s.mirror.find? (fun x => x.link == i && x.addr == t.addr.toNat) = some e →
     u = s.setLink i { l with rx := rest } →
     (∀ seconds reason o d, (e.kind, seconds) ∈ [(.breaker, s.params.breakerExec), (.platform, s.params.platformExec),
         (.display, s.params.displayExec)] → e.out = some o → o.seq = t.seq.toNat → o.stage = .sent d →
       (judgeTelegram e.kind t = .ok (.answer 1 reason) → exec (.mirrorTakeEntry i) s = .next (u.setEntry
         { e with out := some { o with stage := .executing (s.tick + seconds * 1000) } })) ∧
       (judgeTelegram e.kind t = .ok (.answer 3 reason) → exec (.mirrorTakeEntry i) s = .next (settle
         ((u.setEntry { e with state := .held, out := none }).posts
           [.outcome { el := e.el, data := o.data, token := o.token, result := .rejected reason, atIssue := false },
            .follow e.el .order o.data (.rejected reason)])))) ∧
     (∀ v, judgeTelegram e.kind t = .ok (.executed v) →
       (∀ o d r, e.out = some o → o.seq = t.seq.toNat → o.stage = .sent d ∨ o.stage = .executing d →
         r = (if o.data.targetMet v then Result.complete else .diverged v) →
         exec (.mirrorTakeEntry i) s = .next (settle
           ((u.setEntry { e with value := some v, authority := .remote, state := .held, out := none }).posts
             [.outcome { el := e.el, data := o.data, token := o.token, result := r, atIssue := false },
              .follow e.el .executed o.data r]))) ∧
       (e.out = none ∨ (∃ o, e.out = some o ∧ (o.seq ≠ t.seq.toNat ∨ o.stage = .queued ∨ ∃ d, o.stage = .pushWait d)) →
         exec (.mirrorTakeEntry i) s = .next u)) ∧
     (∀ code reason, judgeTelegram e.kind t = .ok (.answer code reason) →
       (e.out = none ∨ (∃ o, e.out = some o ∧ (o.seq ≠ t.seq.toNat ∨ ∀ d, o.stage ≠ .sent d)) →
         exec (.mirrorTakeEntry i) s = .next u))) ∧
   (∀ (t : Telegram) (h l x a1 a2 b1 b2 : Byte), t.kind = 4#8 →
     (∀ ind, t.payload = [h, l, x] → at16 [h, l] 0 ≤ 999 →
       (x, ind) ∈ [(0#8, .blank), (1#8, .countdown), (2#8, .go), (3#8, .stop)] →
       judgeTelegram .platform t = .ok (.executed
         (.platform (if at16 [h, l] 0 = 0 then none else some (at16 [h, l] 0)) (some ind)))) ∧
     (t.payload = [h, l, a1, a2, b1, b2] → at16 [h, l] 0 ≤ 1023 → judgeTelegram .display t = .ok (.executed
       (.display { text := at16 [h, l] 0, p1 := at16 [a1, a2] 0, p2 := at16 [b1, b2] 0 })))) ∧
   (∀ (train a b : Nat) (c x : Content) (o : Option Nat) (ind : Option Indication),
     ((OrderData.dwell train a b).targetMet (.platform o ind) = true ↔ ind = some .countdown) ∧
     ((OrderData.release train a).targetMet (.platform o ind) = true ↔ ind = some .go) ∧
     ((OrderData.revoke train).targetMet (.platform o ind) = true ↔ ind = some .stop) ∧
     ((OrderData.showText c).targetMet (.display x) = true ↔ x = c))) ∧
  ((∀ (k : ElemKind) (t : Telegram) (ab : Byte) (a : Authority) (h l x : Byte),
     (ab, a) ∈ [(1#8, .remote), (2#8, .localCtl)] →
     (t.kind = 1#8 → k = .platform → t.payload = [ab, h, l, x] → at16 [h, l] 0 ≤ 999 → ∀ ind,
       (x, ind) ∈ [(0#8, .blank), (1#8, .countdown), (2#8, .go), (3#8, .stop)] →
       judgeTelegram k t = .ok (.state a
         (.platform (if at16 [h, l] 0 = 0 then none else some (at16 [h, l] 0)) (some ind)))) ∧
     (∀ a1 a2 b1 b2, t.kind = 1#8 → k = .display → t.payload = [ab, h, l, a1, a2, b1, b2] → at16 [h, l] 0 ≤ 1023 →
       judgeTelegram k t = .ok (.state a
         (.display { text := at16 [h, l] 0, p1 := at16 [a1, a2] 0, p2 := at16 [b1, b2] 0 }))) ∧
     (∀ v1 v2, t.kind = 1#8 → k = .meter → t.payload = [ab, h, l, 1#8, v1, v2] →
       judgeTelegram k t = .ok (.state a (.meter (min (at16 [h, l] 0) 4095)
         [some (min (at16 [v1, v2] 0) 2000), none, none, none])))) ∧
   (∀ (k : ElemKind) (t : Telegram) (c h l : Byte), t.kind = 2#8 →
     (k = .platform → t.payload = [c, h, l] → c = 1#8 ∨ c = 2#8 → 1 ≤ at16 [h, l] 0 → at16 [h, l] 0 ≤ 999 →
       judgeTelegram k t = .ok (.event c.toNat (at16 [h, l] 0) none)) ∧
     (k = .breaker → t.payload = [3#8] → judgeTelegram k t = .ok (.event 3 0 none)) ∧
     (k = .meter → t.payload = [4#8, h, l, 0#8] →
       judgeTelegram k t = .ok (.event 4 0 (some (.meter (min (at16 [h, l] 0) 4095) [none, none, none, none])))) ∧
     (k = .display → judgeTelegram k t = .failed 4)) ∧
   (∀ (k : ElemKind) (t : Telegram) (c r : Byte), t.kind = 3#8 → t.payload = [c, r] →
     (k ≠ .meter → 1 ≤ c.toNat → c.toNat ≤ 3 → judgeTelegram k t = .ok (.answer c.toNat r.toNat)) ∧
     (k = .meter → judgeTelegram k t = .failed 4) ∧
     (k ≠ .meter → c = 0#8 ∨ 3 < c.toNat → judgeTelegram k t = .failed 5)) ∧
   (∀ (k : ElemKind) (t : Telegram), t.kind = 0#8 ∨ 4 < t.kind.toNat → judgeTelegram k t = .failed 3) ∧
   (∀ (e : MirrorEntry) (train : Nat),
     (∀ o i, e.value = some (.platform o i) → eventValue e 1 train none = some (.platform (some train) i) ∧
       eventValue e 2 train none = some (.platform none i)) ∧
     (e.value = none → eventValue e 1 train none = some (.platform (some train) none) ∧
       eventValue e 2 train none = some (.platform none none)) ∧
     eventValue e 3 train none = some (.breaker .tripped) ∧
     (∀ old load vs new, e.value = some (.meter load vs) → vs.length = 4 → old.length = 4 →
       eventValue e 4 train (some (.meter new old)) = some (.meter new
         ((List.range 4).map (fun c => ((old[c]?).join).or ((vs[c]?).join))))))) ∧
  ((∀ (el : Nat) (d : OrderData) (r : Result),
     (r = .complete ∨ r = .already ∨ (∃ v, r = .diverged v) → failReport el d r = []) ∧
     (∀ n, r = .rejected n → failReport el d r = [.report .orderFailed (some (.element el)) (some 0x12) (some n)]) ∧
     (r.failed = true → (∀ n, r ≠ .rejected n) →
       failReport el d r = [.report .orderFailed (some (.element el)) (some r.code) (some d.code)])) ∧
   ∀ (el : Nat) (c : Cause) (d : OrderData) (r : Result) (e : MirrorEntry) (s : State), s.entry? el = some e →
     ∀ told : MirrorEntry → Notice,
     told = (fun x => .value { el := x.el, kind := x.kind, state := x.state, authority := x.authority, value := x.value,
                               cause := c, carried := [], moment := s.tick }) →
     (e.succ = none → follow el c d r s = s.posts ([told e] ++ failReport e.el d r)) ∧
     (∀ w q tx, e.state = .held → e.out = none → e.succ = some w → q = (e.seq + 1) % 256 →
       tx = { el := e.el, addr := e.addr, seq := q, data := w.data, token := w.token } →
       (∀ u x, s.offer e.link tx = .taken u →
         x = { e with seq := q, state := .ordered, succ := none,
                      out := some { data := w.data, token := w.token, seq := q, stage := .queued, defers := 0 } } →
         follow el c d r s = ((u.setEntry x).kick e.link).posts ([told x] ++ failReport e.el d r)) ∧
       (∀ r', s.offer e.link tx = .refused r' →
         follow el c d r s = (s.setEntry { e with seq := q, succ := none }).posts
           ([.outcome { el := e.el, data := w.data, token := w.token, result := r', atIssue := true },
             told { e with seq := q, succ := none }] ++ failReport e.el d r ++ failReport e.el w.data r'))))
end

