-- ==== Sys2Proof/Laws/State.lean ====
section
/-! SUPPORT. One law per field per update of the state: what each named update leaves and what it writes. -/
namespace Sys2Proof.Machine

@[simp] theorem State.post_pending (s : State) (n : Notice) : (s.post n).pending = s.pending := rfl
@[simp] theorem State.post_tick (s : State) (n : Notice) : (s.post n).tick = s.tick := rfl
@[simp] theorem State.post_lds (s : State) (n : Notice) : (s.post n).lds = s.lds := rfl
@[simp] theorem State.post_clock (s : State) (n : Notice) : (s.post n).clock = s.clock := rfl
@[simp] theorem State.post_links (s : State) (n : Notice) : (s.post n).links = s.links := rfl
@[simp] theorem State.post_mirror (s : State) (n : Notice) : (s.post n).mirror = s.mirror := rfl
@[simp] theorem State.post_window (s : State) (n : Notice) : (s.post n).window = s.window := rfl
@[simp] theorem State.post_reg (s : State) (n : Notice) : (s.post n).reg = s.reg := rfl
@[simp] theorem State.post_rgl (s : State) (n : Notice) : (s.post n).rgl = s.rgl := rfl
@[simp] theorem State.post_tsv (s : State) (n : Notice) : (s.post n).tsv = s.tsv := rfl
@[simp] theorem State.post_inc (s : State) (n : Notice) : (s.post n).inc = s.inc := rfl
@[simp] theorem State.post_anp (s : State) (n : Notice) : (s.post n).anp = s.anp := rfl
@[simp] theorem State.post_hpt (s : State) (n : Notice) : (s.post n).hpt = s.hpt := rfl
@[simp] theorem State.post_agenda (s : State) (n : Notice) : (s.post n).agenda = s.agenda ++ [n] := rfl
@[simp] theorem State.post_orderCount (s : State) (n : Notice) : (s.post n).orderCount = s.orderCount := rfl
@[simp] theorem State.post_freeCount (s : State) (n : Notice) : (s.post n).freeCount = s.freeCount := rfl

@[simp] theorem State.posts_pending (s : State) (ns : List Notice) : (s.posts ns).pending = s.pending := rfl
@[simp] theorem State.posts_tick (s : State) (ns : List Notice) : (s.posts ns).tick = s.tick := rfl
@[simp] theorem State.posts_lds (s : State) (ns : List Notice) : (s.posts ns).lds = s.lds := rfl
@[simp] theorem State.posts_clock (s : State) (ns : List Notice) : (s.posts ns).clock = s.clock := rfl
@[simp] theorem State.posts_links (s : State) (ns : List Notice) : (s.posts ns).links = s.links := rfl
@[simp] theorem State.posts_mirror (s : State) (ns : List Notice) : (s.posts ns).mirror = s.mirror := rfl
@[simp] theorem State.posts_window (s : State) (ns : List Notice) : (s.posts ns).window = s.window := rfl
@[simp] theorem State.posts_reg (s : State) (ns : List Notice) : (s.posts ns).reg = s.reg := rfl
@[simp] theorem State.posts_rgl (s : State) (ns : List Notice) : (s.posts ns).rgl = s.rgl := rfl
@[simp] theorem State.posts_tsv (s : State) (ns : List Notice) : (s.posts ns).tsv = s.tsv := rfl
@[simp] theorem State.posts_inc (s : State) (ns : List Notice) : (s.posts ns).inc = s.inc := rfl
@[simp] theorem State.posts_anp (s : State) (ns : List Notice) : (s.posts ns).anp = s.anp := rfl
@[simp] theorem State.posts_hpt (s : State) (ns : List Notice) : (s.posts ns).hpt = s.hpt := rfl
@[simp] theorem State.posts_agenda (s : State) (ns : List Notice) : (s.posts ns).agenda = s.agenda ++ ns := rfl
@[simp] theorem State.posts_orderCount (s : State) (ns : List Notice) : (s.posts ns).orderCount = s.orderCount := rfl
@[simp] theorem State.posts_freeCount (s : State) (ns : List Notice) : (s.posts ns).freeCount = s.freeCount := rfl

@[simp] theorem State.setAgenda_pending (s : State) (l : List Notice) : (s.setAgenda l).pending = s.pending := rfl
@[simp] theorem State.setAgenda_tick (s : State) (l : List Notice) : (s.setAgenda l).tick = s.tick := rfl
@[simp] theorem State.setAgenda_lds (s : State) (l : List Notice) : (s.setAgenda l).lds = s.lds := rfl
@[simp] theorem State.setAgenda_clock (s : State) (l : List Notice) : (s.setAgenda l).clock = s.clock := rfl
@[simp] theorem State.setAgenda_links (s : State) (l : List Notice) : (s.setAgenda l).links = s.links := rfl
@[simp] theorem State.setAgenda_mirror (s : State) (l : List Notice) : (s.setAgenda l).mirror = s.mirror := rfl
@[simp] theorem State.setAgenda_window (s : State) (l : List Notice) : (s.setAgenda l).window = s.window := rfl
@[simp] theorem State.setAgenda_reg (s : State) (l : List Notice) : (s.setAgenda l).reg = s.reg := rfl
@[simp] theorem State.setAgenda_rgl (s : State) (l : List Notice) : (s.setAgenda l).rgl = s.rgl := rfl
@[simp] theorem State.setAgenda_tsv (s : State) (l : List Notice) : (s.setAgenda l).tsv = s.tsv := rfl
@[simp] theorem State.setAgenda_inc (s : State) (l : List Notice) : (s.setAgenda l).inc = s.inc := rfl
@[simp] theorem State.setAgenda_anp (s : State) (l : List Notice) : (s.setAgenda l).anp = s.anp := rfl
@[simp] theorem State.setAgenda_hpt (s : State) (l : List Notice) : (s.setAgenda l).hpt = s.hpt := rfl
@[simp] theorem State.setAgenda_agenda (s : State) (l : List Notice) : (s.setAgenda l).agenda = l := rfl
@[simp] theorem State.setAgenda_orderCount (s : State) (l : List Notice) : (s.setAgenda l).orderCount = s.orderCount := rfl
@[simp] theorem State.setAgenda_freeCount (s : State) (l : List Notice) : (s.setAgenda l).freeCount = s.freeCount := rfl

@[simp] theorem State.setPending_pending (s : State) (l : List Instr) : (s.setPending l).pending = l := rfl
@[simp] theorem State.setPending_tick (s : State) (l : List Instr) : (s.setPending l).tick = s.tick := rfl
@[simp] theorem State.setPending_lds (s : State) (l : List Instr) : (s.setPending l).lds = s.lds := rfl
@[simp] theorem State.setPending_clock (s : State) (l : List Instr) : (s.setPending l).clock = s.clock := rfl
@[simp] theorem State.setPending_links (s : State) (l : List Instr) : (s.setPending l).links = s.links := rfl
@[simp] theorem State.setPending_mirror (s : State) (l : List Instr) : (s.setPending l).mirror = s.mirror := rfl
@[simp] theorem State.setPending_window (s : State) (l : List Instr) : (s.setPending l).window = s.window := rfl
@[simp] theorem State.setPending_reg (s : State) (l : List Instr) : (s.setPending l).reg = s.reg := rfl
@[simp] theorem State.setPending_rgl (s : State) (l : List Instr) : (s.setPending l).rgl = s.rgl := rfl
@[simp] theorem State.setPending_tsv (s : State) (l : List Instr) : (s.setPending l).tsv = s.tsv := rfl
@[simp] theorem State.setPending_inc (s : State) (l : List Instr) : (s.setPending l).inc = s.inc := rfl
@[simp] theorem State.setPending_anp (s : State) (l : List Instr) : (s.setPending l).anp = s.anp := rfl
@[simp] theorem State.setPending_hpt (s : State) (l : List Instr) : (s.setPending l).hpt = s.hpt := rfl
@[simp] theorem State.setPending_agenda (s : State) (l : List Instr) : (s.setPending l).agenda = s.agenda := rfl
@[simp] theorem State.setPending_orderCount (s : State) (l : List Instr) : (s.setPending l).orderCount = s.orderCount := rfl
@[simp] theorem State.setPending_freeCount (s : State) (l : List Instr) : (s.setPending l).freeCount = s.freeCount := rfl

@[simp] theorem State.reach_pending (s : State) (t : Nat) : (s.reach t).pending = s.pending := rfl
@[simp] theorem State.reach_tick (s : State) (t : Nat) : (s.reach t).tick = max s.tick t := rfl
@[simp] theorem State.reach_lds (s : State) (t : Nat) : (s.reach t).lds = s.lds := rfl
@[simp] theorem State.reach_clock (s : State) (t : Nat) : (s.reach t).clock = s.clock := rfl
@[simp] theorem State.reach_links (s : State) (t : Nat) : (s.reach t).links = s.links := rfl
@[simp] theorem State.reach_mirror (s : State) (t : Nat) : (s.reach t).mirror = s.mirror := rfl
@[simp] theorem State.reach_window (s : State) (t : Nat) : (s.reach t).window = s.window := rfl
@[simp] theorem State.reach_reg (s : State) (t : Nat) : (s.reach t).reg = s.reg := rfl
@[simp] theorem State.reach_rgl (s : State) (t : Nat) : (s.reach t).rgl = s.rgl := rfl
@[simp] theorem State.reach_tsv (s : State) (t : Nat) : (s.reach t).tsv = s.tsv := rfl
@[simp] theorem State.reach_inc (s : State) (t : Nat) : (s.reach t).inc = s.inc := rfl
@[simp] theorem State.reach_anp (s : State) (t : Nat) : (s.reach t).anp = s.anp := rfl
@[simp] theorem State.reach_hpt (s : State) (t : Nat) : (s.reach t).hpt = s.hpt := rfl
@[simp] theorem State.reach_agenda (s : State) (t : Nat) : (s.reach t).agenda = s.agenda := rfl
@[simp] theorem State.reach_orderCount (s : State) (t : Nat) : (s.reach t).orderCount = s.orderCount := rfl
@[simp] theorem State.reach_freeCount (s : State) (t : Nat) : (s.reach t).freeCount = s.freeCount := rfl

@[simp] theorem State.reply_pending (s : State) (r : Reply) : (s.reply r).pending = s.pending := rfl
@[simp] theorem State.reply_tick (s : State) (r : Reply) : (s.reply r).tick = s.tick := rfl
@[simp] theorem State.reply_lds (s : State) (r : Reply) : (s.reply r).lds = s.lds := rfl
@[simp] theorem State.reply_clock (s : State) (r : Reply) : (s.reply r).clock = s.clock := rfl
@[simp] theorem State.reply_links (s : State) (r : Reply) : (s.reply r).links = s.links := rfl
@[simp] theorem State.reply_mirror (s : State) (r : Reply) : (s.reply r).mirror = s.mirror := rfl
@[simp] theorem State.reply_window (s : State) (r : Reply) : (s.reply r).window = s.window := rfl
@[simp] theorem State.reply_reg (s : State) (r : Reply) : (s.reply r).reg = s.reg := rfl
@[simp] theorem State.reply_rgl (s : State) (r : Reply) : (s.reply r).rgl = s.rgl := rfl
@[simp] theorem State.reply_tsv (s : State) (r : Reply) : (s.reply r).tsv = s.tsv := rfl
@[simp] theorem State.reply_inc (s : State) (r : Reply) : (s.reply r).inc = s.inc := rfl
@[simp] theorem State.reply_anp (s : State) (r : Reply) : (s.reply r).anp = s.anp := rfl
@[simp] theorem State.reply_hpt (s : State) (r : Reply) :
    (s.reply r).hpt = { s.hpt with replies := s.hpt.replies ++ [r] } := rfl
@[simp] theorem State.reply_agenda (s : State) (r : Reply) : (s.reply r).agenda = s.agenda := rfl
@[simp] theorem State.reply_orderCount (s : State) (r : Reply) : (s.reply r).orderCount = s.orderCount := rfl
@[simp] theorem State.reply_freeCount (s : State) (r : Reply) : (s.reply r).freeCount = s.freeCount := rfl

@[simp] theorem State.setReceiver_pending (s : State) (r : Receiver) : (s.setReceiver r).pending = s.pending := rfl
@[simp] theorem State.setReceiver_tick (s : State) (r : Receiver) : (s.setReceiver r).tick = s.tick := rfl
@[simp] theorem State.setReceiver_lds (s : State) (r : Receiver) : (s.setReceiver r).lds = s.lds := rfl
@[simp] theorem State.setReceiver_clock (s : State) (r : Receiver) : (s.setReceiver r).clock = s.clock := rfl
@[simp] theorem State.setReceiver_links (s : State) (r : Receiver) : (s.setReceiver r).links = s.links := rfl
@[simp] theorem State.setReceiver_mirror (s : State) (r : Receiver) : (s.setReceiver r).mirror = s.mirror := rfl
@[simp] theorem State.setReceiver_window (s : State) (r : Receiver) : (s.setReceiver r).window = s.window := rfl
@[simp] theorem State.setReceiver_reg (s : State) (r : Receiver) : (s.setReceiver r).reg = s.reg := rfl
@[simp] theorem State.setReceiver_rgl (s : State) (r : Receiver) : (s.setReceiver r).rgl = s.rgl := rfl
@[simp] theorem State.setReceiver_tsv (s : State) (r : Receiver) : (s.setReceiver r).tsv = s.tsv := rfl
@[simp] theorem State.setReceiver_inc (s : State) (r : Receiver) : (s.setReceiver r).inc = s.inc := rfl
@[simp] theorem State.setReceiver_anp (s : State) (r : Receiver) : (s.setReceiver r).anp = s.anp := rfl
@[simp] theorem State.setReceiver_hpt (s : State) (r : Receiver) : (s.setReceiver r).hpt = { s.hpt with receiver := r } := rfl
@[simp] theorem State.setReceiver_agenda (s : State) (r : Receiver) : (s.setReceiver r).agenda = s.agenda := rfl
@[simp] theorem State.setReceiver_orderCount (s : State) (r : Receiver) : (s.setReceiver r).orderCount = s.orderCount := rfl
@[simp] theorem State.setReceiver_freeCount (s : State) (r : Receiver) : (s.setReceiver r).freeCount = s.freeCount := rfl

@[simp] theorem State.setReports_pending (s : State) (l : List Report) : (s.setReports l).pending = s.pending := rfl
@[simp] theorem State.setReports_tick (s : State) (l : List Report) : (s.setReports l).tick = s.tick := rfl
@[simp] theorem State.setReports_lds (s : State) (l : List Report) : (s.setReports l).lds = s.lds := rfl
@[simp] theorem State.setReports_clock (s : State) (l : List Report) : (s.setReports l).clock = s.clock := rfl
@[simp] theorem State.setReports_links (s : State) (l : List Report) : (s.setReports l).links = s.links := rfl
@[simp] theorem State.setReports_mirror (s : State) (l : List Report) : (s.setReports l).mirror = s.mirror := rfl
@[simp] theorem State.setReports_window (s : State) (l : List Report) : (s.setReports l).window = s.window := rfl
@[simp] theorem State.setReports_reg (s : State) (l : List Report) : (s.setReports l).reg = s.reg := rfl
@[simp] theorem State.setReports_rgl (s : State) (l : List Report) : (s.setReports l).rgl = s.rgl := rfl
@[simp] theorem State.setReports_tsv (s : State) (l : List Report) : (s.setReports l).tsv = s.tsv := rfl
@[simp] theorem State.setReports_inc (s : State) (l : List Report) : (s.setReports l).inc = s.inc := rfl
@[simp] theorem State.setReports_anp (s : State) (l : List Report) : (s.setReports l).anp = s.anp := rfl
@[simp] theorem State.setReports_hpt (s : State) (l : List Report) : (s.setReports l).hpt = { s.hpt with reports := l } := rfl
@[simp] theorem State.setReports_agenda (s : State) (l : List Report) : (s.setReports l).agenda = s.agenda := rfl
@[simp] theorem State.setReports_orderCount (s : State) (l : List Report) : (s.setReports l).orderCount = s.orderCount := rfl
@[simp] theorem State.setReports_freeCount (s : State) (l : List Report) : (s.setReports l).freeCount = s.freeCount := rfl

@[simp] theorem State.setLink_pending (s : State) (i : Nat) (l : LinkRec) : (s.setLink i l).pending = s.pending := rfl
@[simp] theorem State.setLink_tick (s : State) (i : Nat) (l : LinkRec) : (s.setLink i l).tick = s.tick := rfl
@[simp] theorem State.setLink_lds (s : State) (i : Nat) (l : LinkRec) : (s.setLink i l).lds = s.lds := rfl
@[simp] theorem State.setLink_clock (s : State) (i : Nat) (l : LinkRec) : (s.setLink i l).clock = s.clock := rfl
@[simp] theorem State.setLink_links (s : State) (i : Nat) (l : LinkRec) : (s.setLink i l).links = s.links.set i l := rfl
@[simp] theorem State.setLink_mirror (s : State) (i : Nat) (l : LinkRec) : (s.setLink i l).mirror = s.mirror := rfl
@[simp] theorem State.setLink_window (s : State) (i : Nat) (l : LinkRec) : (s.setLink i l).window = s.window := rfl
@[simp] theorem State.setLink_reg (s : State) (i : Nat) (l : LinkRec) : (s.setLink i l).reg = s.reg := rfl
@[simp] theorem State.setLink_rgl (s : State) (i : Nat) (l : LinkRec) : (s.setLink i l).rgl = s.rgl := rfl
@[simp] theorem State.setLink_tsv (s : State) (i : Nat) (l : LinkRec) : (s.setLink i l).tsv = s.tsv := rfl
@[simp] theorem State.setLink_inc (s : State) (i : Nat) (l : LinkRec) : (s.setLink i l).inc = s.inc := rfl
@[simp] theorem State.setLink_anp (s : State) (i : Nat) (l : LinkRec) : (s.setLink i l).anp = s.anp := rfl
@[simp] theorem State.setLink_hpt (s : State) (i : Nat) (l : LinkRec) : (s.setLink i l).hpt = s.hpt := rfl
@[simp] theorem State.setLink_agenda (s : State) (i : Nat) (l : LinkRec) : (s.setLink i l).agenda = s.agenda := rfl
@[simp] theorem State.setLink_orderCount (s : State) (i : Nat) (l : LinkRec) : (s.setLink i l).orderCount = s.orderCount := rfl
@[simp] theorem State.setLink_freeCount (s : State) (i : Nat) (l : LinkRec) : (s.setLink i l).freeCount = s.freeCount := rfl

@[simp] theorem State.modLink_pending (s : State) (i : Nat) (f : LinkRec → LinkRec) : (s.modLink i f).pending = s.pending := rfl
@[simp] theorem State.modLink_tick (s : State) (i : Nat) (f : LinkRec → LinkRec) : (s.modLink i f).tick = s.tick := rfl
@[simp] theorem State.modLink_lds (s : State) (i : Nat) (f : LinkRec → LinkRec) : (s.modLink i f).lds = s.lds := rfl
@[simp] theorem State.modLink_clock (s : State) (i : Nat) (f : LinkRec → LinkRec) : (s.modLink i f).clock = s.clock := rfl
@[simp] theorem State.modLink_links (s : State) (i : Nat) (f : LinkRec → LinkRec) :
    (s.modLink i f).links = s.links.modify i f := rfl
@[simp] theorem State.modLink_mirror (s : State) (i : Nat) (f : LinkRec → LinkRec) : (s.modLink i f).mirror = s.mirror := rfl
@[simp] theorem State.modLink_window (s : State) (i : Nat) (f : LinkRec → LinkRec) : (s.modLink i f).window = s.window := rfl
@[simp] theorem State.modLink_reg (s : State) (i : Nat) (f : LinkRec → LinkRec) : (s.modLink i f).reg = s.reg := rfl
@[simp] theorem State.modLink_rgl (s : State) (i : Nat) (f : LinkRec → LinkRec) : (s.modLink i f).rgl = s.rgl := rfl
@[simp] theorem State.modLink_tsv (s : State) (i : Nat) (f : LinkRec → LinkRec) : (s.modLink i f).tsv = s.tsv := rfl
@[simp] theorem State.modLink_inc (s : State) (i : Nat) (f : LinkRec → LinkRec) : (s.modLink i f).inc = s.inc := rfl
@[simp] theorem State.modLink_anp (s : State) (i : Nat) (f : LinkRec → LinkRec) : (s.modLink i f).anp = s.anp := rfl
@[simp] theorem State.modLink_hpt (s : State) (i : Nat) (f : LinkRec → LinkRec) : (s.modLink i f).hpt = s.hpt := rfl
@[simp] theorem State.modLink_agenda (s : State) (i : Nat) (f : LinkRec → LinkRec) : (s.modLink i f).agenda = s.agenda := rfl
@[simp] theorem State.modLink_orderCount (s : State) (i : Nat) (f : LinkRec → LinkRec) :
    (s.modLink i f).orderCount = s.orderCount := rfl
@[simp] theorem State.modLink_freeCount (s : State) (i : Nat) (f : LinkRec → LinkRec) : (s.modLink i f).freeCount = s.freeCount := rfl

@[simp] theorem State.setEntry_pending (s : State) (e : MirrorEntry) : (s.setEntry e).pending = s.pending := rfl
@[simp] theorem State.setEntry_tick (s : State) (e : MirrorEntry) : (s.setEntry e).tick = s.tick := rfl
@[simp] theorem State.setEntry_lds (s : State) (e : MirrorEntry) : (s.setEntry e).lds = s.lds := rfl
@[simp] theorem State.setEntry_clock (s : State) (e : MirrorEntry) : (s.setEntry e).clock = s.clock := rfl
@[simp] theorem State.setEntry_links (s : State) (e : MirrorEntry) : (s.setEntry e).links = s.links := rfl
@[simp] theorem State.setEntry_mirror (s : State) (e : MirrorEntry) :
    (s.setEntry e).mirror = s.mirror.map (fun x => if x.el = e.el then e else x) := rfl
@[simp] theorem State.setEntry_window (s : State) (e : MirrorEntry) : (s.setEntry e).window = s.window := rfl
@[simp] theorem State.setEntry_reg (s : State) (e : MirrorEntry) : (s.setEntry e).reg = s.reg := rfl
@[simp] theorem State.setEntry_rgl (s : State) (e : MirrorEntry) : (s.setEntry e).rgl = s.rgl := rfl
@[simp] theorem State.setEntry_tsv (s : State) (e : MirrorEntry) : (s.setEntry e).tsv = s.tsv := rfl
@[simp] theorem State.setEntry_inc (s : State) (e : MirrorEntry) : (s.setEntry e).inc = s.inc := rfl
@[simp] theorem State.setEntry_anp (s : State) (e : MirrorEntry) : (s.setEntry e).anp = s.anp := rfl
@[simp] theorem State.setEntry_hpt (s : State) (e : MirrorEntry) : (s.setEntry e).hpt = s.hpt := rfl
@[simp] theorem State.setEntry_agenda (s : State) (e : MirrorEntry) : (s.setEntry e).agenda = s.agenda := rfl
@[simp] theorem State.setEntry_orderCount (s : State) (e : MirrorEntry) : (s.setEntry e).orderCount = s.orderCount := rfl
@[simp] theorem State.setEntry_freeCount (s : State) (e : MirrorEntry) : (s.setEntry e).freeCount = s.freeCount := rfl

@[simp] theorem State.setEntries_pending (s : State) (es : List TtEntry) : (s.setEntries es).pending = s.pending := rfl
@[simp] theorem State.setEntries_tick (s : State) (es : List TtEntry) : (s.setEntries es).tick = s.tick := rfl
@[simp] theorem State.setEntries_lds (s : State) (es : List TtEntry) : (s.setEntries es).lds = s.lds := rfl
@[simp] theorem State.setEntries_clock (s : State) (es : List TtEntry) : (s.setEntries es).clock = s.clock := rfl
@[simp] theorem State.setEntries_links (s : State) (es : List TtEntry) : (s.setEntries es).links = s.links := rfl
@[simp] theorem State.setEntries_mirror (s : State) (es : List TtEntry) : (s.setEntries es).mirror = s.mirror := rfl
@[simp] theorem State.setEntries_window (s : State) (es : List TtEntry) :
    (s.setEntries es).window = { s.window with entries := es } := rfl
@[simp] theorem State.setEntries_reg (s : State) (es : List TtEntry) : (s.setEntries es).reg = s.reg := rfl
@[simp] theorem State.setEntries_rgl (s : State) (es : List TtEntry) : (s.setEntries es).rgl = s.rgl := rfl
@[simp] theorem State.setEntries_tsv (s : State) (es : List TtEntry) : (s.setEntries es).tsv = s.tsv := rfl
@[simp] theorem State.setEntries_inc (s : State) (es : List TtEntry) : (s.setEntries es).inc = s.inc := rfl
@[simp] theorem State.setEntries_anp (s : State) (es : List TtEntry) : (s.setEntries es).anp = s.anp := rfl
@[simp] theorem State.setEntries_hpt (s : State) (es : List TtEntry) : (s.setEntries es).hpt = s.hpt := rfl
@[simp] theorem State.setEntries_agenda (s : State) (es : List TtEntry) : (s.setEntries es).agenda = s.agenda := rfl
@[simp] theorem State.setEntries_orderCount (s : State) (es : List TtEntry) : (s.setEntries es).orderCount = s.orderCount := rfl
@[simp] theorem State.setEntries_freeCount (s : State) (es : List TtEntry) : (s.setEntries es).freeCount = s.freeCount := rfl

@[simp] theorem State.setSlot_pending (s : State) (i : Nat) (t : Option Train) : (s.setSlot i t).pending = s.pending := rfl
@[simp] theorem State.setSlot_tick (s : State) (i : Nat) (t : Option Train) : (s.setSlot i t).tick = s.tick := rfl
@[simp] theorem State.setSlot_lds (s : State) (i : Nat) (t : Option Train) : (s.setSlot i t).lds = s.lds := rfl
@[simp] theorem State.setSlot_clock (s : State) (i : Nat) (t : Option Train) : (s.setSlot i t).clock = s.clock := rfl
@[simp] theorem State.setSlot_links (s : State) (i : Nat) (t : Option Train) : (s.setSlot i t).links = s.links := rfl
@[simp] theorem State.setSlot_mirror (s : State) (i : Nat) (t : Option Train) : (s.setSlot i t).mirror = s.mirror := rfl
@[simp] theorem State.setSlot_window (s : State) (i : Nat) (t : Option Train) : (s.setSlot i t).window = s.window := rfl
@[simp] theorem State.setSlot_reg (s : State) (i : Nat) (t : Option Train) :
    (s.setSlot i t).reg = { s.reg with slots := s.reg.slots.set i t } := rfl
@[simp] theorem State.setSlot_rgl (s : State) (i : Nat) (t : Option Train) : (s.setSlot i t).rgl = s.rgl := rfl
@[simp] theorem State.setSlot_tsv (s : State) (i : Nat) (t : Option Train) : (s.setSlot i t).tsv = s.tsv := rfl
@[simp] theorem State.setSlot_inc (s : State) (i : Nat) (t : Option Train) : (s.setSlot i t).inc = s.inc := rfl
@[simp] theorem State.setSlot_anp (s : State) (i : Nat) (t : Option Train) : (s.setSlot i t).anp = s.anp := rfl
@[simp] theorem State.setSlot_hpt (s : State) (i : Nat) (t : Option Train) : (s.setSlot i t).hpt = s.hpt := rfl
@[simp] theorem State.setSlot_agenda (s : State) (i : Nat) (t : Option Train) : (s.setSlot i t).agenda = s.agenda := rfl
@[simp] theorem State.setSlot_orderCount (s : State) (i : Nat) (t : Option Train) : (s.setSlot i t).orderCount = s.orderCount := rfl
@[simp] theorem State.setSlot_freeCount (s : State) (i : Nat) (t : Option Train) : (s.setSlot i t).freeCount = s.freeCount := rfl

@[simp] theorem State.setTrain_pending (s : State) (i : Nat) (t : Train) : (s.setTrain i t).pending = s.pending := rfl
@[simp] theorem State.setTrain_tick (s : State) (i : Nat) (t : Train) : (s.setTrain i t).tick = s.tick := rfl
@[simp] theorem State.setTrain_lds (s : State) (i : Nat) (t : Train) : (s.setTrain i t).lds = s.lds := rfl
@[simp] theorem State.setTrain_clock (s : State) (i : Nat) (t : Train) : (s.setTrain i t).clock = s.clock := rfl
@[simp] theorem State.setTrain_links (s : State) (i : Nat) (t : Train) : (s.setTrain i t).links = s.links := rfl
@[simp] theorem State.setTrain_mirror (s : State) (i : Nat) (t : Train) : (s.setTrain i t).mirror = s.mirror := rfl
@[simp] theorem State.setTrain_window (s : State) (i : Nat) (t : Train) : (s.setTrain i t).window = s.window := rfl
@[simp] theorem State.setTrain_reg (s : State) (i : Nat) (t : Train) :
    (s.setTrain i t).reg = { s.reg with slots := s.reg.slots.set i (some t) } := rfl
@[simp] theorem State.setTrain_rgl (s : State) (i : Nat) (t : Train) : (s.setTrain i t).rgl = s.rgl := rfl
@[simp] theorem State.setTrain_tsv (s : State) (i : Nat) (t : Train) : (s.setTrain i t).tsv = s.tsv := rfl
@[simp] theorem State.setTrain_inc (s : State) (i : Nat) (t : Train) : (s.setTrain i t).inc = s.inc := rfl
@[simp] theorem State.setTrain_anp (s : State) (i : Nat) (t : Train) : (s.setTrain i t).anp = s.anp := rfl
@[simp] theorem State.setTrain_hpt (s : State) (i : Nat) (t : Train) : (s.setTrain i t).hpt = s.hpt := rfl
@[simp] theorem State.setTrain_agenda (s : State) (i : Nat) (t : Train) : (s.setTrain i t).agenda = s.agenda := rfl
@[simp] theorem State.setTrain_orderCount (s : State) (i : Nat) (t : Train) : (s.setTrain i t).orderCount = s.orderCount := rfl
@[simp] theorem State.setTrain_freeCount (s : State) (i : Nat) (t : Train) : (s.setTrain i t).freeCount = s.freeCount := rfl

@[simp] theorem State.setTentative_pending (s : State) (i : Nat) (t : Option TentativeSlot) :
    (s.setTentative i t).pending = s.pending := rfl
@[simp] theorem State.setTentative_tick (s : State) (i : Nat) (t : Option TentativeSlot) : (s.setTentative i t).tick = s.tick := rfl
@[simp] theorem State.setTentative_lds (s : State) (i : Nat) (t : Option TentativeSlot) : (s.setTentative i t).lds = s.lds := rfl
@[simp] theorem State.setTentative_clock (s : State) (i : Nat) (t : Option TentativeSlot) : (s.setTentative i t).clock = s.clock := rfl
@[simp] theorem State.setTentative_links (s : State) (i : Nat) (t : Option TentativeSlot) : (s.setTentative i t).links = s.links := rfl
@[simp] theorem State.setTentative_mirror (s : State) (i : Nat) (t : Option TentativeSlot) :
    (s.setTentative i t).mirror = s.mirror := rfl
@[simp] theorem State.setTentative_window (s : State) (i : Nat) (t : Option TentativeSlot) :
    (s.setTentative i t).window = s.window := rfl
@[simp] theorem State.setTentative_reg (s : State) (i : Nat) (t : Option TentativeSlot) :
    (s.setTentative i t).reg = { s.reg with tentative := s.reg.tentative.set i t } := rfl
@[simp] theorem State.setTentative_rgl (s : State) (i : Nat) (t : Option TentativeSlot) : (s.setTentative i t).rgl = s.rgl := rfl
@[simp] theorem State.setTentative_tsv (s : State) (i : Nat) (t : Option TentativeSlot) : (s.setTentative i t).tsv = s.tsv := rfl
@[simp] theorem State.setTentative_inc (s : State) (i : Nat) (t : Option TentativeSlot) : (s.setTentative i t).inc = s.inc := rfl
@[simp] theorem State.setTentative_anp (s : State) (i : Nat) (t : Option TentativeSlot) : (s.setTentative i t).anp = s.anp := rfl
@[simp] theorem State.setTentative_hpt (s : State) (i : Nat) (t : Option TentativeSlot) : (s.setTentative i t).hpt = s.hpt := rfl
@[simp] theorem State.setTentative_agenda (s : State) (i : Nat) (t : Option TentativeSlot) :
    (s.setTentative i t).agenda = s.agenda := rfl
@[simp] theorem State.setTentative_orderCount (s : State) (i : Nat) (t : Option TentativeSlot) :
    (s.setTentative i t).orderCount = s.orderCount := rfl
@[simp] theorem State.setTentative_freeCount (s : State) (i : Nat) (t : Option TentativeSlot) :
    (s.setTentative i t).freeCount = s.freeCount := rfl

@[simp] theorem State.setStand_pending (s : State) (i : Nat) (x : Option Stand) : (s.setStand i x).pending = s.pending := rfl
@[simp] theorem State.setStand_tick (s : State) (i : Nat) (x : Option Stand) : (s.setStand i x).tick = s.tick := rfl
@[simp] theorem State.setStand_lds (s : State) (i : Nat) (x : Option Stand) : (s.setStand i x).lds = s.lds := rfl
@[simp] theorem State.setStand_clock (s : State) (i : Nat) (x : Option Stand) : (s.setStand i x).clock = s.clock := rfl
@[simp] theorem State.setStand_links (s : State) (i : Nat) (x : Option Stand) : (s.setStand i x).links = s.links := rfl
@[simp] theorem State.setStand_mirror (s : State) (i : Nat) (x : Option Stand) : (s.setStand i x).mirror = s.mirror := rfl
@[simp] theorem State.setStand_window (s : State) (i : Nat) (x : Option Stand) : (s.setStand i x).window = s.window := rfl
@[simp] theorem State.setStand_reg (s : State) (i : Nat) (x : Option Stand) : (s.setStand i x).reg = s.reg := rfl
@[simp] theorem State.setStand_rgl (s : State) (i : Nat) (x : Option Stand) :
    (s.setStand i x).rgl = { s.rgl with stands := s.rgl.stands.set i x } := rfl
@[simp] theorem State.setStand_tsv (s : State) (i : Nat) (x : Option Stand) : (s.setStand i x).tsv = s.tsv := rfl
@[simp] theorem State.setStand_inc (s : State) (i : Nat) (x : Option Stand) : (s.setStand i x).inc = s.inc := rfl
@[simp] theorem State.setStand_anp (s : State) (i : Nat) (x : Option Stand) : (s.setStand i x).anp = s.anp := rfl
@[simp] theorem State.setStand_hpt (s : State) (i : Nat) (x : Option Stand) : (s.setStand i x).hpt = s.hpt := rfl
@[simp] theorem State.setStand_agenda (s : State) (i : Nat) (x : Option Stand) : (s.setStand i x).agenda = s.agenda := rfl
@[simp] theorem State.setStand_orderCount (s : State) (i : Nat) (x : Option Stand) : (s.setStand i x).orderCount = s.orderCount := rfl
@[simp] theorem State.setStand_freeCount (s : State) (i : Nat) (x : Option Stand) : (s.setStand i x).freeCount = s.freeCount := rfl

@[simp] theorem State.putStand_pending (s : State) (i : Nat) (x : Stand) : (s.putStand i x).pending = s.pending := rfl
@[simp] theorem State.putStand_tick (s : State) (i : Nat) (x : Stand) : (s.putStand i x).tick = s.tick := rfl
@[simp] theorem State.putStand_lds (s : State) (i : Nat) (x : Stand) : (s.putStand i x).lds = s.lds := rfl
@[simp] theorem State.putStand_clock (s : State) (i : Nat) (x : Stand) : (s.putStand i x).clock = s.clock := rfl
@[simp] theorem State.putStand_links (s : State) (i : Nat) (x : Stand) : (s.putStand i x).links = s.links := rfl
@[simp] theorem State.putStand_mirror (s : State) (i : Nat) (x : Stand) : (s.putStand i x).mirror = s.mirror := rfl
@[simp] theorem State.putStand_window (s : State) (i : Nat) (x : Stand) : (s.putStand i x).window = s.window := rfl
@[simp] theorem State.putStand_reg (s : State) (i : Nat) (x : Stand) : (s.putStand i x).reg = s.reg := rfl
@[simp] theorem State.putStand_rgl (s : State) (i : Nat) (x : Stand) :
    (s.putStand i x).rgl = { s.rgl with stands := s.rgl.stands.set i (some x) } := rfl
@[simp] theorem State.putStand_tsv (s : State) (i : Nat) (x : Stand) : (s.putStand i x).tsv = s.tsv := rfl
@[simp] theorem State.putStand_inc (s : State) (i : Nat) (x : Stand) : (s.putStand i x).inc = s.inc := rfl
@[simp] theorem State.putStand_anp (s : State) (i : Nat) (x : Stand) : (s.putStand i x).anp = s.anp := rfl
@[simp] theorem State.putStand_hpt (s : State) (i : Nat) (x : Stand) : (s.putStand i x).hpt = s.hpt := rfl
@[simp] theorem State.putStand_agenda (s : State) (i : Nat) (x : Stand) : (s.putStand i x).agenda = s.agenda := rfl
@[simp] theorem State.putStand_orderCount (s : State) (i : Nat) (x : Stand) : (s.putStand i x).orderCount = s.orderCount := rfl
@[simp] theorem State.putStand_freeCount (s : State) (i : Nat) (x : Stand) : (s.putStand i x).freeCount = s.freeCount := rfl

@[simp] theorem State.setHostHold_pending (s : State) (i : Nat) (b : Bool) : (s.setHostHold i b).pending = s.pending := rfl
@[simp] theorem State.setHostHold_tick (s : State) (i : Nat) (b : Bool) : (s.setHostHold i b).tick = s.tick := rfl
@[simp] theorem State.setHostHold_lds (s : State) (i : Nat) (b : Bool) : (s.setHostHold i b).lds = s.lds := rfl
@[simp] theorem State.setHostHold_clock (s : State) (i : Nat) (b : Bool) : (s.setHostHold i b).clock = s.clock := rfl
@[simp] theorem State.setHostHold_links (s : State) (i : Nat) (b : Bool) : (s.setHostHold i b).links = s.links := rfl
@[simp] theorem State.setHostHold_mirror (s : State) (i : Nat) (b : Bool) : (s.setHostHold i b).mirror = s.mirror := rfl
@[simp] theorem State.setHostHold_window (s : State) (i : Nat) (b : Bool) : (s.setHostHold i b).window = s.window := rfl
@[simp] theorem State.setHostHold_reg (s : State) (i : Nat) (b : Bool) : (s.setHostHold i b).reg = s.reg := rfl
@[simp] theorem State.setHostHold_rgl (s : State) (i : Nat) (b : Bool) :
    (s.setHostHold i b).rgl = { s.rgl with hostHold := s.rgl.hostHold.set i b } := rfl
@[simp] theorem State.setHostHold_tsv (s : State) (i : Nat) (b : Bool) : (s.setHostHold i b).tsv = s.tsv := rfl
@[simp] theorem State.setHostHold_inc (s : State) (i : Nat) (b : Bool) : (s.setHostHold i b).inc = s.inc := rfl
@[simp] theorem State.setHostHold_anp (s : State) (i : Nat) (b : Bool) : (s.setHostHold i b).anp = s.anp := rfl
@[simp] theorem State.setHostHold_hpt (s : State) (i : Nat) (b : Bool) : (s.setHostHold i b).hpt = s.hpt := rfl
@[simp] theorem State.setHostHold_agenda (s : State) (i : Nat) (b : Bool) : (s.setHostHold i b).agenda = s.agenda := rfl
@[simp] theorem State.setHostHold_orderCount (s : State) (i : Nat) (b : Bool) : (s.setHostHold i b).orderCount = s.orderCount := rfl
@[simp] theorem State.setHostHold_freeCount (s : State) (i : Nat) (b : Bool) : (s.setHostHold i b).freeCount = s.freeCount := rfl

@[simp] theorem State.setWorking_pending (s : State) (b t : Nat) : (s.setWorking b t).pending = s.pending := rfl
@[simp] theorem State.setWorking_tick (s : State) (b t : Nat) : (s.setWorking b t).tick = s.tick := rfl
@[simp] theorem State.setWorking_lds (s : State) (b t : Nat) : (s.setWorking b t).lds = s.lds := rfl
@[simp] theorem State.setWorking_clock (s : State) (b t : Nat) : (s.setWorking b t).clock = s.clock := rfl
@[simp] theorem State.setWorking_links (s : State) (b t : Nat) : (s.setWorking b t).links = s.links := rfl
@[simp] theorem State.setWorking_mirror (s : State) (b t : Nat) : (s.setWorking b t).mirror = s.mirror := rfl
@[simp] theorem State.setWorking_window (s : State) (b t : Nat) : (s.setWorking b t).window = s.window := rfl
@[simp] theorem State.setWorking_reg (s : State) (b t : Nat) : (s.setWorking b t).reg = s.reg := rfl
@[simp] theorem State.setWorking_rgl (s : State) (b t : Nat) :
    (s.setWorking b t).rgl = { s.rgl with beta := some b, threshold := some t } := rfl
@[simp] theorem State.setWorking_tsv (s : State) (b t : Nat) : (s.setWorking b t).tsv = s.tsv := rfl
@[simp] theorem State.setWorking_inc (s : State) (b t : Nat) : (s.setWorking b t).inc = s.inc := rfl
@[simp] theorem State.setWorking_anp (s : State) (b t : Nat) : (s.setWorking b t).anp = s.anp := rfl
@[simp] theorem State.setWorking_hpt (s : State) (b t : Nat) : (s.setWorking b t).hpt = s.hpt := rfl
@[simp] theorem State.setWorking_agenda (s : State) (b t : Nat) : (s.setWorking b t).agenda = s.agenda := rfl
@[simp] theorem State.setWorking_orderCount (s : State) (b t : Nat) : (s.setWorking b t).orderCount = s.orderCount := rfl
@[simp] theorem State.setWorking_freeCount (s : State) (b t : Nat) : (s.setWorking b t).freeCount = s.freeCount := rfl

@[simp] theorem State.setSect_pending (s : State) (i : Nat) (r : SectRec) : (s.setSect i r).pending = s.pending := rfl
@[simp] theorem State.setSect_tick (s : State) (i : Nat) (r : SectRec) : (s.setSect i r).tick = s.tick := rfl
@[simp] theorem State.setSect_lds (s : State) (i : Nat) (r : SectRec) : (s.setSect i r).lds = s.lds := rfl
@[simp] theorem State.setSect_clock (s : State) (i : Nat) (r : SectRec) : (s.setSect i r).clock = s.clock := rfl
@[simp] theorem State.setSect_links (s : State) (i : Nat) (r : SectRec) : (s.setSect i r).links = s.links := rfl
@[simp] theorem State.setSect_mirror (s : State) (i : Nat) (r : SectRec) : (s.setSect i r).mirror = s.mirror := rfl
@[simp] theorem State.setSect_window (s : State) (i : Nat) (r : SectRec) : (s.setSect i r).window = s.window := rfl
@[simp] theorem State.setSect_reg (s : State) (i : Nat) (r : SectRec) : (s.setSect i r).reg = s.reg := rfl
@[simp] theorem State.setSect_rgl (s : State) (i : Nat) (r : SectRec) : (s.setSect i r).rgl = s.rgl := rfl
@[simp] theorem State.setSect_tsv (s : State) (i : Nat) (r : SectRec) :
    (s.setSect i r).tsv = { s.tsv with sects := s.tsv.sects.set i r } := rfl
@[simp] theorem State.setSect_inc (s : State) (i : Nat) (r : SectRec) : (s.setSect i r).inc = s.inc := rfl
@[simp] theorem State.setSect_anp (s : State) (i : Nat) (r : SectRec) : (s.setSect i r).anp = s.anp := rfl
@[simp] theorem State.setSect_hpt (s : State) (i : Nat) (r : SectRec) : (s.setSect i r).hpt = s.hpt := rfl
@[simp] theorem State.setSect_agenda (s : State) (i : Nat) (r : SectRec) : (s.setSect i r).agenda = s.agenda := rfl
@[simp] theorem State.setSect_orderCount (s : State) (i : Nat) (r : SectRec) : (s.setSect i r).orderCount = s.orderCount := rfl
@[simp] theorem State.setSect_freeCount (s : State) (i : Nat) (r : SectRec) : (s.setSect i r).freeCount = s.freeCount := rfl

@[simp] theorem State.modSect_pending (s : State) (i : Nat) (f : SectRec → SectRec) : (s.modSect i f).pending = s.pending := rfl
@[simp] theorem State.modSect_tick (s : State) (i : Nat) (f : SectRec → SectRec) : (s.modSect i f).tick = s.tick := rfl
@[simp] theorem State.modSect_lds (s : State) (i : Nat) (f : SectRec → SectRec) : (s.modSect i f).lds = s.lds := rfl
@[simp] theorem State.modSect_clock (s : State) (i : Nat) (f : SectRec → SectRec) : (s.modSect i f).clock = s.clock := rfl
@[simp] theorem State.modSect_links (s : State) (i : Nat) (f : SectRec → SectRec) : (s.modSect i f).links = s.links := rfl
@[simp] theorem State.modSect_mirror (s : State) (i : Nat) (f : SectRec → SectRec) : (s.modSect i f).mirror = s.mirror := rfl
@[simp] theorem State.modSect_window (s : State) (i : Nat) (f : SectRec → SectRec) : (s.modSect i f).window = s.window := rfl
@[simp] theorem State.modSect_reg (s : State) (i : Nat) (f : SectRec → SectRec) : (s.modSect i f).reg = s.reg := rfl
@[simp] theorem State.modSect_rgl (s : State) (i : Nat) (f : SectRec → SectRec) : (s.modSect i f).rgl = s.rgl := rfl
@[simp] theorem State.modSect_tsv (s : State) (i : Nat) (f : SectRec → SectRec) :
    (s.modSect i f).tsv = { s.tsv with sects := s.tsv.sects.modify i f } := rfl
@[simp] theorem State.modSect_inc (s : State) (i : Nat) (f : SectRec → SectRec) : (s.modSect i f).inc = s.inc := rfl
@[simp] theorem State.modSect_anp (s : State) (i : Nat) (f : SectRec → SectRec) : (s.modSect i f).anp = s.anp := rfl
@[simp] theorem State.modSect_hpt (s : State) (i : Nat) (f : SectRec → SectRec) : (s.modSect i f).hpt = s.hpt := rfl
@[simp] theorem State.modSect_agenda (s : State) (i : Nat) (f : SectRec → SectRec) : (s.modSect i f).agenda = s.agenda := rfl
@[simp] theorem State.modSect_orderCount (s : State) (i : Nat) (f : SectRec → SectRec) :
    (s.modSect i f).orderCount = s.orderCount := rfl
@[simp] theorem State.modSect_freeCount (s : State) (i : Nat) (f : SectRec → SectRec) : (s.modSect i f).freeCount = s.freeCount := rfl

@[simp] theorem State.setSects_pending (s : State) (l : List SectRec) : (s.setSects l).pending = s.pending := rfl
@[simp] theorem State.setSects_tick (s : State) (l : List SectRec) : (s.setSects l).tick = s.tick := rfl
@[simp] theorem State.setSects_lds (s : State) (l : List SectRec) : (s.setSects l).lds = s.lds := rfl
@[simp] theorem State.setSects_clock (s : State) (l : List SectRec) : (s.setSects l).clock = s.clock := rfl
@[simp] theorem State.setSects_links (s : State) (l : List SectRec) : (s.setSects l).links = s.links := rfl
@[simp] theorem State.setSects_mirror (s : State) (l : List SectRec) : (s.setSects l).mirror = s.mirror := rfl
@[simp] theorem State.setSects_window (s : State) (l : List SectRec) : (s.setSects l).window = s.window := rfl
@[simp] theorem State.setSects_reg (s : State) (l : List SectRec) : (s.setSects l).reg = s.reg := rfl
@[simp] theorem State.setSects_rgl (s : State) (l : List SectRec) : (s.setSects l).rgl = s.rgl := rfl
@[simp] theorem State.setSects_tsv (s : State) (l : List SectRec) : (s.setSects l).tsv = { s.tsv with sects := l } := rfl
@[simp] theorem State.setSects_inc (s : State) (l : List SectRec) : (s.setSects l).inc = s.inc := rfl
@[simp] theorem State.setSects_anp (s : State) (l : List SectRec) : (s.setSects l).anp = s.anp := rfl
@[simp] theorem State.setSects_hpt (s : State) (l : List SectRec) : (s.setSects l).hpt = s.hpt := rfl
@[simp] theorem State.setSects_agenda (s : State) (l : List SectRec) : (s.setSects l).agenda = s.agenda := rfl
@[simp] theorem State.setSects_orderCount (s : State) (l : List SectRec) : (s.setSects l).orderCount = s.orderCount := rfl
@[simp] theorem State.setSects_freeCount (s : State) (l : List SectRec) : (s.setSects l).freeCount = s.freeCount := rfl

@[simp] theorem State.setPairs_pending (s : State) (l : List PairRec) : (s.setPairs l).pending = s.pending := rfl
@[simp] theorem State.setPairs_tick (s : State) (l : List PairRec) : (s.setPairs l).tick = s.tick := rfl
@[simp] theorem State.setPairs_lds (s : State) (l : List PairRec) : (s.setPairs l).lds = s.lds := rfl
@[simp] theorem State.setPairs_clock (s : State) (l : List PairRec) : (s.setPairs l).clock = s.clock := rfl
@[simp] theorem State.setPairs_links (s : State) (l : List PairRec) : (s.setPairs l).links = s.links := rfl
@[simp] theorem State.setPairs_mirror (s : State) (l : List PairRec) : (s.setPairs l).mirror = s.mirror := rfl
@[simp] theorem State.setPairs_window (s : State) (l : List PairRec) : (s.setPairs l).window = s.window := rfl
@[simp] theorem State.setPairs_reg (s : State) (l : List PairRec) : (s.setPairs l).reg = s.reg := rfl
@[simp] theorem State.setPairs_rgl (s : State) (l : List PairRec) : (s.setPairs l).rgl = s.rgl := rfl
@[simp] theorem State.setPairs_tsv (s : State) (l : List PairRec) : (s.setPairs l).tsv = { s.tsv with pairs := l } := rfl
@[simp] theorem State.setPairs_inc (s : State) (l : List PairRec) : (s.setPairs l).inc = s.inc := rfl
@[simp] theorem State.setPairs_anp (s : State) (l : List PairRec) : (s.setPairs l).anp = s.anp := rfl
@[simp] theorem State.setPairs_hpt (s : State) (l : List PairRec) : (s.setPairs l).hpt = s.hpt := rfl
@[simp] theorem State.setPairs_agenda (s : State) (l : List PairRec) : (s.setPairs l).agenda = s.agenda := rfl
@[simp] theorem State.setPairs_orderCount (s : State) (l : List PairRec) : (s.setPairs l).orderCount = s.orderCount := rfl
@[simp] theorem State.setPairs_freeCount (s : State) (l : List PairRec) : (s.setPairs l).freeCount = s.freeCount := rfl

@[simp] theorem State.setSubs_pending (s : State) (l : List SubRec) : (s.setSubs l).pending = s.pending := rfl
@[simp] theorem State.setSubs_tick (s : State) (l : List SubRec) : (s.setSubs l).tick = s.tick := rfl
@[simp] theorem State.setSubs_lds (s : State) (l : List SubRec) : (s.setSubs l).lds = s.lds := rfl
@[simp] theorem State.setSubs_clock (s : State) (l : List SubRec) : (s.setSubs l).clock = s.clock := rfl
@[simp] theorem State.setSubs_links (s : State) (l : List SubRec) : (s.setSubs l).links = s.links := rfl
@[simp] theorem State.setSubs_mirror (s : State) (l : List SubRec) : (s.setSubs l).mirror = s.mirror := rfl
@[simp] theorem State.setSubs_window (s : State) (l : List SubRec) : (s.setSubs l).window = s.window := rfl
@[simp] theorem State.setSubs_reg (s : State) (l : List SubRec) : (s.setSubs l).reg = s.reg := rfl
@[simp] theorem State.setSubs_rgl (s : State) (l : List SubRec) : (s.setSubs l).rgl = s.rgl := rfl
@[simp] theorem State.setSubs_tsv (s : State) (l : List SubRec) : (s.setSubs l).tsv = { s.tsv with subs := l } := rfl
@[simp] theorem State.setSubs_inc (s : State) (l : List SubRec) : (s.setSubs l).inc = s.inc := rfl
@[simp] theorem State.setSubs_anp (s : State) (l : List SubRec) : (s.setSubs l).anp = s.anp := rfl
@[simp] theorem State.setSubs_hpt (s : State) (l : List SubRec) : (s.setSubs l).hpt = s.hpt := rfl
@[simp] theorem State.setSubs_agenda (s : State) (l : List SubRec) : (s.setSubs l).agenda = s.agenda := rfl
@[simp] theorem State.setSubs_orderCount (s : State) (l : List SubRec) : (s.setSubs l).orderCount = s.orderCount := rfl
@[simp] theorem State.setSubs_freeCount (s : State) (l : List SubRec) : (s.setSubs l).freeCount = s.freeCount := rfl

@[simp] theorem State.setWaitList_pending (s : State) (l : List PermitRequest) : (s.setWaitList l).pending = s.pending := rfl
@[simp] theorem State.setWaitList_tick (s : State) (l : List PermitRequest) : (s.setWaitList l).tick = s.tick := rfl
@[simp] theorem State.setWaitList_lds (s : State) (l : List PermitRequest) : (s.setWaitList l).lds = s.lds := rfl
@[simp] theorem State.setWaitList_clock (s : State) (l : List PermitRequest) : (s.setWaitList l).clock = s.clock := rfl
@[simp] theorem State.setWaitList_links (s : State) (l : List PermitRequest) : (s.setWaitList l).links = s.links := rfl
@[simp] theorem State.setWaitList_mirror (s : State) (l : List PermitRequest) : (s.setWaitList l).mirror = s.mirror := rfl
@[simp] theorem State.setWaitList_window (s : State) (l : List PermitRequest) : (s.setWaitList l).window = s.window := rfl
@[simp] theorem State.setWaitList_reg (s : State) (l : List PermitRequest) : (s.setWaitList l).reg = s.reg := rfl
@[simp] theorem State.setWaitList_rgl (s : State) (l : List PermitRequest) : (s.setWaitList l).rgl = s.rgl := rfl
@[simp] theorem State.setWaitList_tsv (s : State) (l : List PermitRequest) :
    (s.setWaitList l).tsv = { s.tsv with waitList := l } := rfl
@[simp] theorem State.setWaitList_inc (s : State) (l : List PermitRequest) : (s.setWaitList l).inc = s.inc := rfl
@[simp] theorem State.setWaitList_anp (s : State) (l : List PermitRequest) : (s.setWaitList l).anp = s.anp := rfl
@[simp] theorem State.setWaitList_hpt (s : State) (l : List PermitRequest) : (s.setWaitList l).hpt = s.hpt := rfl
@[simp] theorem State.setWaitList_agenda (s : State) (l : List PermitRequest) : (s.setWaitList l).agenda = s.agenda := rfl
@[simp] theorem State.setWaitList_orderCount (s : State) (l : List PermitRequest) : (s.setWaitList l).orderCount = s.orderCount := rfl
@[simp] theorem State.setWaitList_freeCount (s : State) (l : List PermitRequest) : (s.setWaitList l).freeCount = s.freeCount := rfl

@[simp] theorem State.setPermits_pending (s : State) (l : List PermitRec) : (s.setPermits l).pending = s.pending := rfl
@[simp] theorem State.setPermits_tick (s : State) (l : List PermitRec) : (s.setPermits l).tick = s.tick := rfl
@[simp] theorem State.setPermits_lds (s : State) (l : List PermitRec) : (s.setPermits l).lds = s.lds := rfl
@[simp] theorem State.setPermits_clock (s : State) (l : List PermitRec) : (s.setPermits l).clock = s.clock := rfl
@[simp] theorem State.setPermits_links (s : State) (l : List PermitRec) : (s.setPermits l).links = s.links := rfl
@[simp] theorem State.setPermits_mirror (s : State) (l : List PermitRec) : (s.setPermits l).mirror = s.mirror := rfl
@[simp] theorem State.setPermits_window (s : State) (l : List PermitRec) : (s.setPermits l).window = s.window := rfl
@[simp] theorem State.setPermits_reg (s : State) (l : List PermitRec) : (s.setPermits l).reg = s.reg := rfl
@[simp] theorem State.setPermits_rgl (s : State) (l : List PermitRec) : (s.setPermits l).rgl = s.rgl := rfl
@[simp] theorem State.setPermits_tsv (s : State) (l : List PermitRec) : (s.setPermits l).tsv = { s.tsv with permits := l } := rfl
@[simp] theorem State.setPermits_inc (s : State) (l : List PermitRec) : (s.setPermits l).inc = s.inc := rfl
@[simp] theorem State.setPermits_anp (s : State) (l : List PermitRec) : (s.setPermits l).anp = s.anp := rfl
@[simp] theorem State.setPermits_hpt (s : State) (l : List PermitRec) : (s.setPermits l).hpt = s.hpt := rfl
@[simp] theorem State.setPermits_agenda (s : State) (l : List PermitRec) : (s.setPermits l).agenda = s.agenda := rfl
@[simp] theorem State.setPermits_orderCount (s : State) (l : List PermitRec) : (s.setPermits l).orderCount = s.orderCount := rfl
@[simp] theorem State.setPermits_freeCount (s : State) (l : List PermitRec) : (s.setPermits l).freeCount = s.freeCount := rfl

@[simp] theorem State.setLoads_pending (s : State) (l : List (Option LoadNote)) : (s.setLoads l).pending = s.pending := rfl
@[simp] theorem State.setLoads_tick (s : State) (l : List (Option LoadNote)) : (s.setLoads l).tick = s.tick := rfl
@[simp] theorem State.setLoads_lds (s : State) (l : List (Option LoadNote)) : (s.setLoads l).lds = s.lds := rfl
@[simp] theorem State.setLoads_clock (s : State) (l : List (Option LoadNote)) : (s.setLoads l).clock = s.clock := rfl
@[simp] theorem State.setLoads_links (s : State) (l : List (Option LoadNote)) : (s.setLoads l).links = s.links := rfl
@[simp] theorem State.setLoads_mirror (s : State) (l : List (Option LoadNote)) : (s.setLoads l).mirror = s.mirror := rfl
@[simp] theorem State.setLoads_window (s : State) (l : List (Option LoadNote)) : (s.setLoads l).window = s.window := rfl
@[simp] theorem State.setLoads_reg (s : State) (l : List (Option LoadNote)) : (s.setLoads l).reg = s.reg := rfl
@[simp] theorem State.setLoads_rgl (s : State) (l : List (Option LoadNote)) : (s.setLoads l).rgl = s.rgl := rfl
@[simp] theorem State.setLoads_tsv (s : State) (l : List (Option LoadNote)) :
    (s.setLoads l).tsv = { s.tsv with loads := l } := rfl
@[simp] theorem State.setLoads_inc (s : State) (l : List (Option LoadNote)) : (s.setLoads l).inc = s.inc := rfl
@[simp] theorem State.setLoads_anp (s : State) (l : List (Option LoadNote)) : (s.setLoads l).anp = s.anp := rfl
@[simp] theorem State.setLoads_hpt (s : State) (l : List (Option LoadNote)) : (s.setLoads l).hpt = s.hpt := rfl
@[simp] theorem State.setLoads_agenda (s : State) (l : List (Option LoadNote)) : (s.setLoads l).agenda = s.agenda := rfl
@[simp] theorem State.setLoads_orderCount (s : State) (l : List (Option LoadNote)) : (s.setLoads l).orderCount = s.orderCount := rfl
@[simp] theorem State.setLoads_freeCount (s : State) (l : List (Option LoadNote)) : (s.setLoads l).freeCount = s.freeCount := rfl

@[simp] theorem State.setTable_pending (s : State) (t : List Incident) : (s.setTable t).pending = s.pending := rfl
@[simp] theorem State.setTable_tick (s : State) (t : List Incident) : (s.setTable t).tick = s.tick := rfl
@[simp] theorem State.setTable_lds (s : State) (t : List Incident) : (s.setTable t).lds = s.lds := rfl
@[simp] theorem State.setTable_clock (s : State) (t : List Incident) : (s.setTable t).clock = s.clock := rfl
@[simp] theorem State.setTable_links (s : State) (t : List Incident) : (s.setTable t).links = s.links := rfl
@[simp] theorem State.setTable_mirror (s : State) (t : List Incident) : (s.setTable t).mirror = s.mirror := rfl
@[simp] theorem State.setTable_window (s : State) (t : List Incident) : (s.setTable t).window = s.window := rfl
@[simp] theorem State.setTable_reg (s : State) (t : List Incident) : (s.setTable t).reg = s.reg := rfl
@[simp] theorem State.setTable_rgl (s : State) (t : List Incident) : (s.setTable t).rgl = s.rgl := rfl
@[simp] theorem State.setTable_tsv (s : State) (t : List Incident) : (s.setTable t).tsv = s.tsv := rfl
@[simp] theorem State.setTable_inc (s : State) (t : List Incident) : (s.setTable t).inc = { s.inc with table := t } := rfl
@[simp] theorem State.setTable_anp (s : State) (t : List Incident) : (s.setTable t).anp = s.anp := rfl
@[simp] theorem State.setTable_hpt (s : State) (t : List Incident) : (s.setTable t).hpt = s.hpt := rfl
@[simp] theorem State.setTable_agenda (s : State) (t : List Incident) : (s.setTable t).agenda = s.agenda := rfl
@[simp] theorem State.setTable_orderCount (s : State) (t : List Incident) : (s.setTable t).orderCount = s.orderCount := rfl
@[simp] theorem State.setTable_freeCount (s : State) (t : List Incident) : (s.setTable t).freeCount = s.freeCount := rfl

@[simp] theorem State.enter_pending (s : State) (x : Incident) : (s.enter x).pending = s.pending := rfl
@[simp] theorem State.enter_tick (s : State) (x : Incident) : (s.enter x).tick = s.tick := rfl
@[simp] theorem State.enter_lds (s : State) (x : Incident) : (s.enter x).lds = s.lds := rfl
@[simp] theorem State.enter_clock (s : State) (x : Incident) : (s.enter x).clock = s.clock := rfl
@[simp] theorem State.enter_links (s : State) (x : Incident) : (s.enter x).links = s.links := rfl
@[simp] theorem State.enter_mirror (s : State) (x : Incident) : (s.enter x).mirror = s.mirror := rfl
@[simp] theorem State.enter_window (s : State) (x : Incident) : (s.enter x).window = s.window := rfl
@[simp] theorem State.enter_reg (s : State) (x : Incident) : (s.enter x).reg = s.reg := rfl
@[simp] theorem State.enter_rgl (s : State) (x : Incident) : (s.enter x).rgl = s.rgl := rfl
@[simp] theorem State.enter_tsv (s : State) (x : Incident) : (s.enter x).tsv = s.tsv := rfl
@[simp] theorem State.enter_inc (s : State) (x : Incident) :
    (s.enter x).inc = { s.inc with table := s.inc.table ++ [x], next := succNumber x.number } := rfl
@[simp] theorem State.enter_anp (s : State) (x : Incident) : (s.enter x).anp = s.anp := rfl
@[simp] theorem State.enter_hpt (s : State) (x : Incident) : (s.enter x).hpt = s.hpt := rfl
@[simp] theorem State.enter_agenda (s : State) (x : Incident) : (s.enter x).agenda = s.agenda := rfl
@[simp] theorem State.enter_orderCount (s : State) (x : Incident) : (s.enter x).orderCount = s.orderCount := rfl
@[simp] theorem State.enter_freeCount (s : State) (x : Incident) : (s.enter x).freeCount = s.freeCount := rfl

@[simp] theorem State.setStation_pending (s : State) (i : Nat) (r : StationRec) : (s.setStation i r).pending = s.pending := rfl
@[simp] theorem State.setStation_tick (s : State) (i : Nat) (r : StationRec) : (s.setStation i r).tick = s.tick := rfl
@[simp] theorem State.setStation_lds (s : State) (i : Nat) (r : StationRec) : (s.setStation i r).lds = s.lds := rfl
@[simp] theorem State.setStation_clock (s : State) (i : Nat) (r : StationRec) : (s.setStation i r).clock = s.clock := rfl
@[simp] theorem State.setStation_links (s : State) (i : Nat) (r : StationRec) : (s.setStation i r).links = s.links := rfl
@[simp] theorem State.setStation_mirror (s : State) (i : Nat) (r : StationRec) : (s.setStation i r).mirror = s.mirror := rfl
@[simp] theorem State.setStation_window (s : State) (i : Nat) (r : StationRec) : (s.setStation i r).window = s.window := rfl
@[simp] theorem State.setStation_reg (s : State) (i : Nat) (r : StationRec) : (s.setStation i r).reg = s.reg := rfl
@[simp] theorem State.setStation_rgl (s : State) (i : Nat) (r : StationRec) : (s.setStation i r).rgl = s.rgl := rfl
@[simp] theorem State.setStation_tsv (s : State) (i : Nat) (r : StationRec) : (s.setStation i r).tsv = s.tsv := rfl
@[simp] theorem State.setStation_inc (s : State) (i : Nat) (r : StationRec) : (s.setStation i r).inc = s.inc := rfl
@[simp] theorem State.setStation_anp (s : State) (i : Nat) (r : StationRec) :
    (s.setStation i r).anp = { s.anp with stations := s.anp.stations.set i r } := rfl
@[simp] theorem State.setStation_hpt (s : State) (i : Nat) (r : StationRec) : (s.setStation i r).hpt = s.hpt := rfl
@[simp] theorem State.setStation_agenda (s : State) (i : Nat) (r : StationRec) : (s.setStation i r).agenda = s.agenda := rfl
@[simp] theorem State.setStation_orderCount (s : State) (i : Nat) (r : StationRec) : (s.setStation i r).orderCount = s.orderCount := rfl
@[simp] theorem State.setStation_freeCount (s : State) (i : Nat) (r : StationRec) : (s.setStation i r).freeCount = s.freeCount := rfl

@[simp] theorem State.setStaging_pending (s : State) (x : Staging) : (s.setStaging x).pending = s.pending := rfl
@[simp] theorem State.setStaging_tick (s : State) (x : Staging) : (s.setStaging x).tick = s.tick := rfl
@[simp] theorem State.setStaging_lds (s : State) (x : Staging) : (s.setStaging x).lds = s.lds := rfl
@[simp] theorem State.setStaging_clock (s : State) (x : Staging) : (s.setStaging x).clock = s.clock := rfl
@[simp] theorem State.setStaging_links (s : State) (x : Staging) : (s.setStaging x).links = s.links := rfl
@[simp] theorem State.setStaging_mirror (s : State) (x : Staging) : (s.setStaging x).mirror = s.mirror := rfl
@[simp] theorem State.setStaging_window (s : State) (x : Staging) : (s.setStaging x).window = s.window := rfl
@[simp] theorem State.setStaging_reg (s : State) (x : Staging) : (s.setStaging x).reg = s.reg := rfl
@[simp] theorem State.setStaging_rgl (s : State) (x : Staging) : (s.setStaging x).rgl = s.rgl := rfl
@[simp] theorem State.setStaging_tsv (s : State) (x : Staging) : (s.setStaging x).tsv = s.tsv := rfl
@[simp] theorem State.setStaging_inc (s : State) (x : Staging) : (s.setStaging x).inc = s.inc := rfl
@[simp] theorem State.setStaging_anp (s : State) (x : Staging) : (s.setStaging x).anp = { s.anp with staging := x } := rfl
@[simp] theorem State.setStaging_hpt (s : State) (x : Staging) : (s.setStaging x).hpt = s.hpt := rfl
@[simp] theorem State.setStaging_agenda (s : State) (x : Staging) : (s.setStaging x).agenda = s.agenda := rfl
@[simp] theorem State.setStaging_orderCount (s : State) (x : Staging) : (s.setStaging x).orderCount = s.orderCount := rfl
@[simp] theorem State.setStaging_freeCount (s : State) (x : Staging) : (s.setStaging x).freeCount = s.freeCount := rfl

@[simp] theorem State.setTrigger_pending (s : State) (z : Nat) (t : Trigger) : (s.setTrigger z t).pending = s.pending := rfl
@[simp] theorem State.setTrigger_tick (s : State) (z : Nat) (t : Trigger) : (s.setTrigger z t).tick = s.tick := rfl
@[simp] theorem State.setTrigger_lds (s : State) (z : Nat) (t : Trigger) : (s.setTrigger z t).lds = s.lds := rfl
@[simp] theorem State.setTrigger_clock (s : State) (z : Nat) (t : Trigger) : (s.setTrigger z t).clock = s.clock := rfl
@[simp] theorem State.setTrigger_links (s : State) (z : Nat) (t : Trigger) : (s.setTrigger z t).links = s.links := rfl
@[simp] theorem State.setTrigger_mirror (s : State) (z : Nat) (t : Trigger) : (s.setTrigger z t).mirror = s.mirror := rfl
@[simp] theorem State.setTrigger_window (s : State) (z : Nat) (t : Trigger) : (s.setTrigger z t).window = s.window := rfl
@[simp] theorem State.setTrigger_reg (s : State) (z : Nat) (t : Trigger) : (s.setTrigger z t).reg = s.reg := rfl
@[simp] theorem State.setTrigger_rgl (s : State) (z : Nat) (t : Trigger) : (s.setTrigger z t).rgl = s.rgl := rfl
@[simp] theorem State.setTrigger_tsv (s : State) (z : Nat) (t : Trigger) : (s.setTrigger z t).tsv = s.tsv := rfl
@[simp] theorem State.setTrigger_inc (s : State) (z : Nat) (t : Trigger) : (s.setTrigger z t).inc = s.inc := rfl
@[simp] theorem State.setTrigger_anp (s : State) (z : Nat) (t : Trigger) :
    (s.setTrigger z t).anp = { s.anp with triggers := s.anp.triggers.set z t } := rfl
@[simp] theorem State.setTrigger_hpt (s : State) (z : Nat) (t : Trigger) : (s.setTrigger z t).hpt = s.hpt := rfl
@[simp] theorem State.setTrigger_agenda (s : State) (z : Nat) (t : Trigger) : (s.setTrigger z t).agenda = s.agenda := rfl
@[simp] theorem State.setTrigger_orderCount (s : State) (z : Nat) (t : Trigger) : (s.setTrigger z t).orderCount = s.orderCount := rfl
@[simp] theorem State.setTrigger_freeCount (s : State) (z : Nat) (t : Trigger) : (s.setTrigger z t).freeCount = s.freeCount := rfl

@[simp] theorem State.setLds_pending (s : State) (l : Lds) : (s.setLds l).pending = s.pending := rfl
@[simp] theorem State.setLds_tick (s : State) (l : Lds) : (s.setLds l).tick = s.tick := rfl
@[simp] theorem State.setLds_lds (s : State) (l : Lds) : (s.setLds l).lds = l := rfl
@[simp] theorem State.setLds_clock (s : State) (l : Lds) : (s.setLds l).clock = s.clock := rfl
@[simp] theorem State.setLds_links (s : State) (l : Lds) : (s.setLds l).links = s.links := rfl
@[simp] theorem State.setLds_mirror (s : State) (l : Lds) : (s.setLds l).mirror = s.mirror := rfl
@[simp] theorem State.setLds_window (s : State) (l : Lds) : (s.setLds l).window = s.window := rfl
@[simp] theorem State.setLds_reg (s : State) (l : Lds) : (s.setLds l).reg = s.reg := rfl
@[simp] theorem State.setLds_rgl (s : State) (l : Lds) : (s.setLds l).rgl = s.rgl := rfl
@[simp] theorem State.setLds_tsv (s : State) (l : Lds) : (s.setLds l).tsv = s.tsv := rfl
@[simp] theorem State.setLds_inc (s : State) (l : Lds) : (s.setLds l).inc = s.inc := rfl
@[simp] theorem State.setLds_anp (s : State) (l : Lds) : (s.setLds l).anp = s.anp := rfl
@[simp] theorem State.setLds_hpt (s : State) (l : Lds) : (s.setLds l).hpt = s.hpt := rfl
@[simp] theorem State.setLds_agenda (s : State) (l : Lds) : (s.setLds l).agenda = s.agenda := rfl
@[simp] theorem State.setLds_orderCount (s : State) (l : Lds) : (s.setLds l).orderCount = s.orderCount := rfl
@[simp] theorem State.setLds_freeCount (s : State) (l : Lds) : (s.setLds l).freeCount = s.freeCount := rfl

@[simp] theorem State.setService_pending (s : State) (x : ServiceState) : (s.setService x).pending = s.pending := rfl
@[simp] theorem State.setService_tick (s : State) (x : ServiceState) : (s.setService x).tick = s.tick := rfl
@[simp] theorem State.setService_lds (s : State) (x : ServiceState) : (s.setService x).lds = { s.lds with service := x } := rfl
@[simp] theorem State.setService_clock (s : State) (x : ServiceState) : (s.setService x).clock = s.clock := rfl
@[simp] theorem State.setService_links (s : State) (x : ServiceState) : (s.setService x).links = s.links := rfl
@[simp] theorem State.setService_mirror (s : State) (x : ServiceState) : (s.setService x).mirror = s.mirror := rfl
@[simp] theorem State.setService_window (s : State) (x : ServiceState) : (s.setService x).window = s.window := rfl
@[simp] theorem State.setService_reg (s : State) (x : ServiceState) : (s.setService x).reg = s.reg := rfl
@[simp] theorem State.setService_rgl (s : State) (x : ServiceState) : (s.setService x).rgl = s.rgl := rfl
@[simp] theorem State.setService_tsv (s : State) (x : ServiceState) : (s.setService x).tsv = s.tsv := rfl
@[simp] theorem State.setService_inc (s : State) (x : ServiceState) : (s.setService x).inc = s.inc := rfl
@[simp] theorem State.setService_anp (s : State) (x : ServiceState) : (s.setService x).anp = s.anp := rfl
@[simp] theorem State.setService_hpt (s : State) (x : ServiceState) : (s.setService x).hpt = s.hpt := rfl
@[simp] theorem State.setService_agenda (s : State) (x : ServiceState) : (s.setService x).agenda = s.agenda := rfl
@[simp] theorem State.setService_orderCount (s : State) (x : ServiceState) : (s.setService x).orderCount = s.orderCount := rfl
@[simp] theorem State.setService_freeCount (s : State) (x : ServiceState) : (s.setService x).freeCount = s.freeCount := rfl

@[simp] theorem State.setTime_pending (s : State) (t : Nat) : (s.setTime t).pending = s.pending := rfl
@[simp] theorem State.setTime_tick (s : State) (t : Nat) : (s.setTime t).tick = s.tick := rfl
@[simp] theorem State.setTime_lds (s : State) (t : Nat) : (s.setTime t).lds = s.lds := rfl
@[simp] theorem State.setTime_clock (s : State) (t : Nat) : (s.setTime t).clock = { s.clock with time := t } := rfl
@[simp] theorem State.setTime_links (s : State) (t : Nat) : (s.setTime t).links = s.links := rfl
@[simp] theorem State.setTime_mirror (s : State) (t : Nat) : (s.setTime t).mirror = s.mirror := rfl
@[simp] theorem State.setTime_window (s : State) (t : Nat) : (s.setTime t).window = s.window := rfl
@[simp] theorem State.setTime_reg (s : State) (t : Nat) : (s.setTime t).reg = s.reg := rfl
@[simp] theorem State.setTime_rgl (s : State) (t : Nat) : (s.setTime t).rgl = s.rgl := rfl
@[simp] theorem State.setTime_tsv (s : State) (t : Nat) : (s.setTime t).tsv = s.tsv := rfl
@[simp] theorem State.setTime_inc (s : State) (t : Nat) : (s.setTime t).inc = s.inc := rfl
@[simp] theorem State.setTime_anp (s : State) (t : Nat) : (s.setTime t).anp = s.anp := rfl
@[simp] theorem State.setTime_hpt (s : State) (t : Nat) : (s.setTime t).hpt = s.hpt := rfl
@[simp] theorem State.setTime_agenda (s : State) (t : Nat) : (s.setTime t).agenda = s.agenda := rfl
@[simp] theorem State.setTime_orderCount (s : State) (t : Nat) : (s.setTime t).orderCount = s.orderCount := rfl
@[simp] theorem State.setTime_freeCount (s : State) (t : Nat) : (s.setTime t).freeCount = s.freeCount := rfl

@[simp] theorem State.issueOrder_pending (s : State) (el : Nat) (d : OrderData) : (s.issueOrder el d).pending = s.pending := rfl
@[simp] theorem State.issueOrder_tick (s : State) (el : Nat) (d : OrderData) : (s.issueOrder el d).tick = s.tick := rfl
@[simp] theorem State.issueOrder_lds (s : State) (el : Nat) (d : OrderData) : (s.issueOrder el d).lds = s.lds := rfl
@[simp] theorem State.issueOrder_clock (s : State) (el : Nat) (d : OrderData) : (s.issueOrder el d).clock = s.clock := rfl
@[simp] theorem State.issueOrder_links (s : State) (el : Nat) (d : OrderData) : (s.issueOrder el d).links = s.links := rfl
@[simp] theorem State.issueOrder_mirror (s : State) (el : Nat) (d : OrderData) : (s.issueOrder el d).mirror = s.mirror := rfl
@[simp] theorem State.issueOrder_window (s : State) (el : Nat) (d : OrderData) : (s.issueOrder el d).window = s.window := rfl
@[simp] theorem State.issueOrder_reg (s : State) (el : Nat) (d : OrderData) : (s.issueOrder el d).reg = s.reg := rfl
@[simp] theorem State.issueOrder_rgl (s : State) (el : Nat) (d : OrderData) : (s.issueOrder el d).rgl = s.rgl := rfl
@[simp] theorem State.issueOrder_tsv (s : State) (el : Nat) (d : OrderData) : (s.issueOrder el d).tsv = s.tsv := rfl
@[simp] theorem State.issueOrder_inc (s : State) (el : Nat) (d : OrderData) : (s.issueOrder el d).inc = s.inc := rfl
@[simp] theorem State.issueOrder_anp (s : State) (el : Nat) (d : OrderData) : (s.issueOrder el d).anp = s.anp := rfl
@[simp] theorem State.issueOrder_hpt (s : State) (el : Nat) (d : OrderData) : (s.issueOrder el d).hpt = s.hpt := rfl
@[simp] theorem State.issueOrder_agenda (s : State) (el : Nat) (d : OrderData) :
    (s.issueOrder el d).agenda = s.agenda ++ [.issue el d s.orderCount] := rfl
@[simp] theorem State.issueOrder_orderCount (s : State) (el : Nat) (d : OrderData) :
    (s.issueOrder el d).orderCount = s.orderCount + 1 := rfl
@[simp] theorem State.issueOrder_freeCount (s : State) (el : Nat) (d : OrderData) : (s.issueOrder el d).freeCount = s.freeCount := rfl

@[simp] theorem State.flagFrameError_pending (s : State) : s.flagFrameError.pending = s.pending := rfl
@[simp] theorem State.flagFrameError_tick (s : State) : s.flagFrameError.tick = s.tick := rfl
@[simp] theorem State.flagFrameError_lds (s : State) : s.flagFrameError.lds = s.lds := rfl
@[simp] theorem State.flagFrameError_clock (s : State) : s.flagFrameError.clock = s.clock := rfl
@[simp] theorem State.flagFrameError_links (s : State) : s.flagFrameError.links = s.links := rfl
@[simp] theorem State.flagFrameError_mirror (s : State) : s.flagFrameError.mirror = s.mirror := rfl
@[simp] theorem State.flagFrameError_window (s : State) : s.flagFrameError.window = s.window := rfl
@[simp] theorem State.flagFrameError_reg (s : State) : s.flagFrameError.reg = s.reg := rfl
@[simp] theorem State.flagFrameError_rgl (s : State) : s.flagFrameError.rgl = s.rgl := rfl
@[simp] theorem State.flagFrameError_tsv (s : State) : s.flagFrameError.tsv = s.tsv := rfl
@[simp] theorem State.flagFrameError_inc (s : State) : s.flagFrameError.inc = s.inc := rfl
@[simp] theorem State.flagFrameError_anp (s : State) : s.flagFrameError.anp = s.anp := rfl
@[simp] theorem State.flagFrameError_hpt (s : State) :
    s.flagFrameError.hpt = { s.hpt with flags := { s.hpt.flags with hostFrameError := true } } := rfl
@[simp] theorem State.flagFrameError_agenda (s : State) : s.flagFrameError.agenda = s.agenda := rfl
@[simp] theorem State.flagFrameError_orderCount (s : State) : s.flagFrameError.orderCount = s.orderCount := rfl
@[simp] theorem State.flagFrameError_freeCount (s : State) : s.flagFrameError.freeCount = s.freeCount := rfl

@[simp] theorem State.flagIncidentOverflow_pending (s : State) : s.flagIncidentOverflow.pending = s.pending := rfl
@[simp] theorem State.flagIncidentOverflow_tick (s : State) : s.flagIncidentOverflow.tick = s.tick := rfl
@[simp] theorem State.flagIncidentOverflow_lds (s : State) : s.flagIncidentOverflow.lds = s.lds := rfl
@[simp] theorem State.flagIncidentOverflow_clock (s : State) : s.flagIncidentOverflow.clock = s.clock := rfl
@[simp] theorem State.flagIncidentOverflow_links (s : State) : s.flagIncidentOverflow.links = s.links := rfl
@[simp] theorem State.flagIncidentOverflow_mirror (s : State) : s.flagIncidentOverflow.mirror = s.mirror := rfl
@[simp] theorem State.flagIncidentOverflow_window (s : State) : s.flagIncidentOverflow.window = s.window := rfl
@[simp] theorem State.flagIncidentOverflow_reg (s : State) : s.flagIncidentOverflow.reg = s.reg := rfl
@[simp] theorem State.flagIncidentOverflow_rgl (s : State) : s.flagIncidentOverflow.rgl = s.rgl := rfl
@[simp] theorem State.flagIncidentOverflow_tsv (s : State) : s.flagIncidentOverflow.tsv = s.tsv := rfl
@[simp] theorem State.flagIncidentOverflow_inc (s : State) : s.flagIncidentOverflow.inc = s.inc := rfl
@[simp] theorem State.flagIncidentOverflow_anp (s : State) : s.flagIncidentOverflow.anp = s.anp := rfl
@[simp] theorem State.flagIncidentOverflow_hpt (s : State) :
    s.flagIncidentOverflow.hpt = { s.hpt with flags := { s.hpt.flags with incidentOverflow := true } } := rfl
@[simp] theorem State.flagIncidentOverflow_agenda (s : State) : s.flagIncidentOverflow.agenda = s.agenda := rfl
@[simp] theorem State.flagIncidentOverflow_orderCount (s : State) : s.flagIncidentOverflow.orderCount = s.orderCount := rfl
@[simp] theorem State.flagIncidentOverflow_freeCount (s : State) : s.flagIncidentOverflow.freeCount = s.freeCount := rfl

@[simp] theorem State.latch_pending (s : State) : s.latch.pending = s.pending := rfl
@[simp] theorem State.latch_tick (s : State) : s.latch.tick = s.tick := rfl
@[simp] theorem State.latch_lds (s : State) : s.latch.lds = s.lds := rfl
@[simp] theorem State.latch_clock (s : State) : s.latch.clock = s.clock := rfl
@[simp] theorem State.latch_links (s : State) : s.latch.links = s.links := rfl
@[simp] theorem State.latch_mirror (s : State) : s.latch.mirror = s.mirror := rfl
@[simp] theorem State.latch_window (s : State) : s.latch.window = s.window := rfl
@[simp] theorem State.latch_reg (s : State) : s.latch.reg = s.reg := rfl
@[simp] theorem State.latch_rgl (s : State) : s.latch.rgl = s.rgl := rfl
@[simp] theorem State.latch_tsv (s : State) : s.latch.tsv = s.tsv := rfl
@[simp] theorem State.latch_inc (s : State) : s.latch.inc = s.inc := rfl
@[simp] theorem State.latch_anp (s : State) : s.latch.anp = s.anp := rfl
@[simp] theorem State.latch_hpt (s : State) :
    s.latch.hpt = { s.hpt with flags := s.hpt.flags.latch s.hpt.causes s.causesNow, causes := s.causesNow } := rfl
@[simp] theorem State.latch_agenda (s : State) : s.latch.agenda = s.agenda := rfl
@[simp] theorem State.latch_orderCount (s : State) : s.latch.orderCount = s.orderCount := rfl
@[simp] theorem State.latch_freeCount (s : State) : s.latch.freeCount = s.freeCount := rfl

@[simp] theorem State.viewSect_pending (s : State) (i : Nat) (x : SectState) (b : Bool) :
    (s.viewSect i x b).pending = s.pending := rfl
@[simp] theorem State.viewSect_tick (s : State) (i : Nat) (x : SectState) (b : Bool) :
    (s.viewSect i x b).tick = s.tick := rfl
@[simp] theorem State.viewSect_lds (s : State) (i : Nat) (x : SectState) (b : Bool) :
    (s.viewSect i x b).lds = s.lds := rfl
@[simp] theorem State.viewSect_clock (s : State) (i : Nat) (x : SectState) (b : Bool) :
    (s.viewSect i x b).clock = s.clock := rfl
@[simp] theorem State.viewSect_links (s : State) (i : Nat) (x : SectState) (b : Bool) :
    (s.viewSect i x b).links = s.links := rfl
@[simp] theorem State.viewSect_mirror (s : State) (i : Nat) (x : SectState) (b : Bool) :
    (s.viewSect i x b).mirror = s.mirror := rfl
@[simp] theorem State.viewSect_window (s : State) (i : Nat) (x : SectState) (b : Bool) :
    (s.viewSect i x b).window = s.window := rfl
@[simp] theorem State.viewSect_reg (s : State) (i : Nat) (x : SectState) (b : Bool) :
    (s.viewSect i x b).reg = s.reg := rfl
@[simp] theorem State.viewSect_rgl (s : State) (i : Nat) (x : SectState) (b : Bool) :
    (s.viewSect i x b).rgl = { s.rgl with sectView := s.rgl.sectView.set i (x, b) } := rfl
@[simp] theorem State.viewSect_tsv (s : State) (i : Nat) (x : SectState) (b : Bool) :
    (s.viewSect i x b).tsv = s.tsv := rfl
@[simp] theorem State.viewSect_inc (s : State) (i : Nat) (x : SectState) (b : Bool) :
    (s.viewSect i x b).inc = s.inc := rfl
@[simp] theorem State.viewSect_anp (s : State) (i : Nat) (x : SectState) (b : Bool) :
    (s.viewSect i x b).anp = s.anp := rfl
@[simp] theorem State.viewSect_hpt (s : State) (i : Nat) (x : SectState) (b : Bool) :
    (s.viewSect i x b).hpt = s.hpt := rfl
@[simp] theorem State.viewSect_agenda (s : State) (i : Nat) (x : SectState) (b : Bool) :
    (s.viewSect i x b).agenda = s.agenda := rfl
@[simp] theorem State.viewSect_orderCount (s : State) (i : Nat) (x : SectState) (b : Bool) :
    (s.viewSect i x b).orderCount = s.orderCount := rfl
@[simp] theorem State.viewSect_freeCount (s : State) (i : Nat) (x : SectState) (b : Bool) :
    (s.viewSect i x b).freeCount = s.freeCount := rfl

@[simp] theorem State.viewHeld_pending (s : State) (l : List Nat) : (s.viewHeld l).pending = s.pending := rfl
@[simp] theorem State.viewHeld_tick (s : State) (l : List Nat) : (s.viewHeld l).tick = s.tick := rfl
@[simp] theorem State.viewHeld_lds (s : State) (l : List Nat) : (s.viewHeld l).lds = s.lds := rfl
@[simp] theorem State.viewHeld_clock (s : State) (l : List Nat) : (s.viewHeld l).clock = s.clock := rfl
@[simp] theorem State.viewHeld_links (s : State) (l : List Nat) : (s.viewHeld l).links = s.links := rfl
@[simp] theorem State.viewHeld_mirror (s : State) (l : List Nat) : (s.viewHeld l).mirror = s.mirror := rfl
@[simp] theorem State.viewHeld_window (s : State) (l : List Nat) : (s.viewHeld l).window = s.window := rfl
@[simp] theorem State.viewHeld_reg (s : State) (l : List Nat) : (s.viewHeld l).reg = s.reg := rfl
@[simp] theorem State.viewHeld_rgl (s : State) (l : List Nat) :
    (s.viewHeld l).rgl = { s.rgl with heldStations := l } := rfl
@[simp] theorem State.viewHeld_tsv (s : State) (l : List Nat) : (s.viewHeld l).tsv = s.tsv := rfl
@[simp] theorem State.viewHeld_inc (s : State) (l : List Nat) : (s.viewHeld l).inc = s.inc := rfl
@[simp] theorem State.viewHeld_anp (s : State) (l : List Nat) : (s.viewHeld l).anp = s.anp := rfl
@[simp] theorem State.viewHeld_hpt (s : State) (l : List Nat) : (s.viewHeld l).hpt = s.hpt := rfl
@[simp] theorem State.viewHeld_agenda (s : State) (l : List Nat) : (s.viewHeld l).agenda = s.agenda := rfl
@[simp] theorem State.viewHeld_orderCount (s : State) (l : List Nat) : (s.viewHeld l).orderCount = s.orderCount := rfl
@[simp] theorem State.viewHeld_freeCount (s : State) (l : List Nat) : (s.viewHeld l).freeCount = s.freeCount := rfl

@[simp] theorem State.noteHeld_pending (s : State) (l : List Nat) : (s.noteHeld l).pending = s.pending := rfl
@[simp] theorem State.noteHeld_tick (s : State) (l : List Nat) : (s.noteHeld l).tick = s.tick := rfl
@[simp] theorem State.noteHeld_lds (s : State) (l : List Nat) : (s.noteHeld l).lds = s.lds := rfl
@[simp] theorem State.noteHeld_clock (s : State) (l : List Nat) : (s.noteHeld l).clock = s.clock := rfl
@[simp] theorem State.noteHeld_links (s : State) (l : List Nat) : (s.noteHeld l).links = s.links := rfl
@[simp] theorem State.noteHeld_mirror (s : State) (l : List Nat) : (s.noteHeld l).mirror = s.mirror := rfl
@[simp] theorem State.noteHeld_window (s : State) (l : List Nat) : (s.noteHeld l).window = s.window := rfl
@[simp] theorem State.noteHeld_reg (s : State) (l : List Nat) : (s.noteHeld l).reg = s.reg := rfl
@[simp] theorem State.noteHeld_rgl (s : State) (l : List Nat) : (s.noteHeld l).rgl = s.rgl := rfl
@[simp] theorem State.noteHeld_tsv (s : State) (l : List Nat) : (s.noteHeld l).tsv = s.tsv := rfl
@[simp] theorem State.noteHeld_inc (s : State) (l : List Nat) :
    (s.noteHeld l).inc = { s.inc with lastHeld := l } := rfl
@[simp] theorem State.noteHeld_anp (s : State) (l : List Nat) : (s.noteHeld l).anp = s.anp := rfl
@[simp] theorem State.noteHeld_hpt (s : State) (l : List Nat) : (s.noteHeld l).hpt = s.hpt := rfl
@[simp] theorem State.noteHeld_agenda (s : State) (l : List Nat) : (s.noteHeld l).agenda = s.agenda := rfl
@[simp] theorem State.noteHeld_orderCount (s : State) (l : List Nat) : (s.noteHeld l).orderCount = s.orderCount := rfl
@[simp] theorem State.noteHeld_freeCount (s : State) (l : List Nat) : (s.noteHeld l).freeCount = s.freeCount := rfl

@[simp] theorem State.noteDemand_pending (s : State) (l : List Nat) : (s.noteDemand l).pending = s.pending := rfl
@[simp] theorem State.noteDemand_tick (s : State) (l : List Nat) : (s.noteDemand l).tick = s.tick := rfl
@[simp] theorem State.noteDemand_lds (s : State) (l : List Nat) : (s.noteDemand l).lds = s.lds := rfl
@[simp] theorem State.noteDemand_clock (s : State) (l : List Nat) : (s.noteDemand l).clock = s.clock := rfl
@[simp] theorem State.noteDemand_links (s : State) (l : List Nat) : (s.noteDemand l).links = s.links := rfl
@[simp] theorem State.noteDemand_mirror (s : State) (l : List Nat) : (s.noteDemand l).mirror = s.mirror := rfl
@[simp] theorem State.noteDemand_window (s : State) (l : List Nat) : (s.noteDemand l).window = s.window := rfl
@[simp] theorem State.noteDemand_reg (s : State) (l : List Nat) : (s.noteDemand l).reg = s.reg := rfl
@[simp] theorem State.noteDemand_rgl (s : State) (l : List Nat) : (s.noteDemand l).rgl = s.rgl := rfl
@[simp] theorem State.noteDemand_tsv (s : State) (l : List Nat) : (s.noteDemand l).tsv = s.tsv := rfl
@[simp] theorem State.noteDemand_inc (s : State) (l : List Nat) :
    (s.noteDemand l).inc = { s.inc with lastDemand := l } := rfl
@[simp] theorem State.noteDemand_anp (s : State) (l : List Nat) : (s.noteDemand l).anp = s.anp := rfl
@[simp] theorem State.noteDemand_hpt (s : State) (l : List Nat) : (s.noteDemand l).hpt = s.hpt := rfl
@[simp] theorem State.noteDemand_agenda (s : State) (l : List Nat) : (s.noteDemand l).agenda = s.agenda := rfl
@[simp] theorem State.noteDemand_orderCount (s : State) (l : List Nat) :
    (s.noteDemand l).orderCount = s.orderCount := rfl
@[simp] theorem State.noteDemand_freeCount (s : State) (l : List Nat) :
    (s.noteDemand l).freeCount = s.freeCount := rfl

@[simp] theorem State.noteContent_pending (s : State) (i : Nat) (c : Option Content) :
    (s.noteContent i c).pending = s.pending := rfl
@[simp] theorem State.noteContent_tick (s : State) (i : Nat) (c : Option Content) :
    (s.noteContent i c).tick = s.tick := rfl
@[simp] theorem State.noteContent_lds (s : State) (i : Nat) (c : Option Content) :
    (s.noteContent i c).lds = s.lds := rfl
@[simp] theorem State.noteContent_clock (s : State) (i : Nat) (c : Option Content) :
    (s.noteContent i c).clock = s.clock := rfl
@[simp] theorem State.noteContent_links (s : State) (i : Nat) (c : Option Content) :
    (s.noteContent i c).links = s.links := rfl
@[simp] theorem State.noteContent_mirror (s : State) (i : Nat) (c : Option Content) :
    (s.noteContent i c).mirror = s.mirror := rfl
@[simp] theorem State.noteContent_window (s : State) (i : Nat) (c : Option Content) :
    (s.noteContent i c).window = s.window := rfl
@[simp] theorem State.noteContent_reg (s : State) (i : Nat) (c : Option Content) :
    (s.noteContent i c).reg = s.reg := rfl
@[simp] theorem State.noteContent_rgl (s : State) (i : Nat) (c : Option Content) :
    (s.noteContent i c).rgl = s.rgl := rfl
@[simp] theorem State.noteContent_tsv (s : State) (i : Nat) (c : Option Content) :
    (s.noteContent i c).tsv = s.tsv := rfl
@[simp] theorem State.noteContent_inc (s : State) (i : Nat) (c : Option Content) :
    (s.noteContent i c).inc = { s.inc with lastContent := (List.range s.stationCount).map (fun j => if j = i then c else s.lastContent j) } := rfl
@[simp] theorem State.noteContent_anp (s : State) (i : Nat) (c : Option Content) :
    (s.noteContent i c).anp = s.anp := rfl
@[simp] theorem State.noteContent_hpt (s : State) (i : Nat) (c : Option Content) :
    (s.noteContent i c).hpt = s.hpt := rfl
@[simp] theorem State.noteContent_agenda (s : State) (i : Nat) (c : Option Content) :
    (s.noteContent i c).agenda = s.agenda := rfl
@[simp] theorem State.noteContent_orderCount (s : State) (i : Nat) (c : Option Content) :
    (s.noteContent i c).orderCount = s.orderCount := rfl
@[simp] theorem State.noteContent_freeCount (s : State) (i : Nat) (c : Option Content) :
    (s.noteContent i c).freeCount = s.freeCount := rfl

end Sys2Proof.Machine
end

