-- ==== Sys2Proof/Laws/Fixed.lean ====
section
/-! SUPPORT. What no notice ever changes: the queue of commands, the description, the clock, the receiver, the masks, the
staging record, the triggers, the working values, the sections' feeders, the mirror's elements, and how many records each table has. One law per operation that the
handling of a notice uses, then the law of the whole running out. -/
namespace Sys2Proof.Machine

/-- The parts of the state that only a command itself changes, never a notice. -/
def State.fixed (s : State) : List Instr × Lds × Clock × HostRate × Receiver × Conditions × ClassMask × Bool × Staging ×
    List Trigger × Option Nat × Option Nat × List (List Nat) × List Nat ×
    List Nat :=
  (s.pending, s.lds, s.clock, s.hpt.rate, s.hpt.receiver, s.hpt.condMask, s.hpt.classMask, s.hpt.attention,
   s.anp.staging, s.anp.triggers, s.rgl.beta, s.rgl.threshold,
   s.tsv.sects.map (·.feeders), s.mirror.map (·.el),
   [s.links.length, s.mirror.length, s.reg.slots.length, s.reg.tentative.length, s.rgl.stands.length,
    s.rgl.hostHold.length, s.rgl.sectView.length, s.tsv.sects.length, s.tsv.pairs.length, s.tsv.subs.length,
    s.tsv.loads.length, s.anp.stations.length])

/-- A fold of operations that keep the fixed parts keeps them. -/
@[simp] theorem foldl_fixed (f : State → α → State) (h : ∀ s a, (f s a).fixed = s.fixed) (l : List α) (s : State) :
    (l.foldl f s).fixed = s.fixed := by
  induction l generalizing s with
  | nil => rfl
  | cons a l ih => simp [List.foldl_cons, ih, h]

@[simp] theorem State.setAgenda_fixed (l : List Notice) (s : State) :
    (State.setAgenda l s).fixed = s.fixed := rfl

@[simp] theorem State.latch_fixed (s : State) :
    (State.latch s).fixed = s.fixed := by
  simp [State.fixed, State.latch]

@[simp] theorem State.flagFrameError_fixed (s : State) :
    (State.flagFrameError s).fixed = s.fixed := by
  simp [State.fixed, State.flagFrameError]

@[simp] theorem State.flagIncidentOverflow_fixed (s : State) :
    (State.flagIncidentOverflow s).fixed = s.fixed := by
  simp [State.fixed, State.flagIncidentOverflow]

@[simp] theorem State.post_fixed (n : Notice) (s : State) :
    (State.post n s).fixed = s.fixed := by
  simp [State.fixed, State.post]

@[simp] theorem State.posts_fixed (ns : List Notice) (s : State) :
    (State.posts ns s).fixed = s.fixed := by
  simp [State.fixed, State.posts]

@[simp] theorem State.report_fixed (k : ReportKind) (subject : Option Subject) (d1 d2 : Option Nat) (s : State) :
    (State.report k subject d1 d2 s).fixed = s.fixed := by
  unfold State.report
  repeat' split
  all_goals simp [State.fixed]

@[simp] theorem State.reply_fixed (r : Reply) (s : State) :
    (State.reply r s).fixed = s.fixed := by
  simp [State.fixed, State.reply]

@[simp] theorem State.done_fixed (tag : Byte) (data : List Byte) (s : State) :
    (State.done tag data s).fixed = s.fixed := by
  simp [State.fixed, State.done]

@[simp] theorem State.reach_fixed (deadline : Nat) (s : State) :
    (State.reach deadline s).fixed = s.fixed := by
  simp [State.fixed, State.reach]

@[simp] theorem State.setLink_fixed (i : Nat) (l : LinkRec) (s : State) :
    (State.setLink i l s).fixed = s.fixed := by
  simp [State.fixed, State.setLink]

@[simp] theorem State.modLink_fixed (i : Nat) (f : LinkRec → LinkRec) (s : State) :
    (State.modLink i f s).fixed = s.fixed := by
  simp [State.fixed, State.modLink]

@[simp] theorem State.setEntry_fixed (e : MirrorEntry) (s : State) :
    (State.setEntry e s).fixed = s.fixed := by
  simp only [State.fixed, State.setEntry, List.map_map, List.length_map, Prod.mk.injEq, true_and, and_true]
  apply List.map_congr_left
  intro a _
  simp only [Function.comp]
  split <;> simp_all

@[simp] theorem State.setSlot_fixed (slot : Nat) (t : Option Train) (s : State) :
    (State.setSlot slot t s).fixed = s.fixed := by
  simp [State.fixed, State.setSlot]

@[simp] theorem State.setTrain_fixed (slot : Nat) (t : Train) (s : State) :
    (State.setTrain slot t s).fixed = s.fixed := by
  simp [State.fixed, State.setTrain]

@[simp] theorem State.setTentative_fixed (link : Nat) (t : Option TentativeSlot) (s : State) :
    (State.setTentative link t s).fixed = s.fixed := by
  simp [State.fixed, State.setTentative]

@[simp] theorem State.setStand_fixed (slot : Nat) (st : Option Stand) (s : State) :
    (State.setStand slot st s).fixed = s.fixed := by
  simp [State.fixed, State.setStand]

@[simp] theorem State.putStand_fixed (slot : Nat) (st : Stand) (s : State) :
    (State.putStand slot st s).fixed = s.fixed := by
  simp [State.fixed, State.putStand]

@[simp] theorem State.setHostHold_fixed (slot : Nat) (b : Bool) (s : State) :
    (State.setHostHold slot b s).fixed = s.fixed := by
  simp [State.fixed, State.setHostHold]

/-- Modifying one record of a list by a change that keeps what `g` reads keeps what `g` reads of every record. -/
theorem map_modify (g : α → β) (f : α → α) (h : ∀ a, g (f a) = g a) (l : List α) (i : Nat) :
    (l.modify i f).map g = l.map g := by
  induction l generalizing i with
  | nil => simp
  | cons a l ih => cases i <;> simp [List.modify_cons, h, ih]

@[simp] theorem State.modSect_fixed (i : Nat) (f : SectRec → SectRec) (s : State)
    (h : ∀ r, (f r).feeders = r.feeders := by intro r; rfl) :
    (State.modSect i f s).fixed = s.fixed := by
  simp [State.fixed, State.modSect, map_modify _ _ h]

@[simp] theorem State.setSects_fixed (l : List SectRec) (s : State)
    (h : l.map (·.feeders) = s.tsv.sects.map (·.feeders)) : (State.setSects l s).fixed = s.fixed := by
  have hl := congrArg List.length h
  simp only [List.length_map] at hl
  simp [State.fixed, State.setSects, h, hl]

@[simp] theorem State.setPairs_fixed (l : List PairRec) (s : State) (h : l.length = s.tsv.pairs.length) :
    (State.setPairs l s).fixed = s.fixed := by
  simp [State.fixed, State.setPairs, h]

@[simp] theorem State.setSubs_fixed (l : List SubRec) (s : State) (h : l.length = s.tsv.subs.length) :
    (State.setSubs l s).fixed = s.fixed := by
  simp [State.fixed, State.setSubs, h]

@[simp] theorem State.setWaitList_fixed (l : List PermitRequest) (s : State) :
    (State.setWaitList l s).fixed = s.fixed := by
  simp [State.fixed, State.setWaitList]

@[simp] theorem State.setPermits_fixed (l : List PermitRec) (s : State) :
    (State.setPermits l s).fixed = s.fixed := by
  simp [State.fixed, State.setPermits]

@[simp] theorem State.setLoads_fixed (l : List (Option LoadNote)) (s : State) (h : l.length = s.tsv.loads.length) :
    (State.setLoads l s).fixed = s.fixed := by
  simp [State.fixed, State.setLoads, h]

@[simp] theorem State.setStation_fixed (i : Nat) (r : StationRec) (s : State) :
    (State.setStation i r s).fixed = s.fixed := by
  simp [State.fixed, State.setStation]

@[simp] theorem State.setTable_fixed (t : List Incident) (s : State) :
    (State.setTable t s).fixed = s.fixed := by
  simp [State.fixed, State.setTable]

@[simp] theorem State.issueOrder_fixed (el : Nat) (d : OrderData) (s : State) :
    (State.issueOrder el d s).fixed = s.fixed := by
  simp [State.fixed, State.issueOrder]

@[simp] theorem State.refuse_fixed (tag : Byte) (c : RefusalCode) (s : State) :
    (State.refuse tag c s).fixed = s.fixed := by
  simp [State.fixed, State.refuse]

@[simp] theorem State.rxJoin_fixed (i : Nat) (mk : Bool → RxEntry) (s : State) :
    (State.rxJoin i mk s).fixed = s.fixed := by
  unfold State.rxJoin
  try dsimp only
  repeat' split
  all_goals simp

@[simp] theorem State.rxAnnotate_fixed (i : Nat) (a : Annotation) (s : State) :
    (State.rxAnnotate i a s).fixed = s.fixed := by
  unfold State.rxAnnotate
  simp

@[simp] theorem State.choose_fixed (i : Nat) (l : LinkRec) (s : State) :
    (State.choose i l s).fixed = s.fixed := by
  unfold State.choose
  repeat' split
  all_goals simp

@[simp] theorem State.kick_fixed (i : Nat) (s : State) :
    (State.kick i s).fixed = s.fixed := by
  unfold State.kick
  repeat' split
  all_goals simp

@[simp] theorem State.poll_fixed (i el : Nat) (s : State) :
    (State.poll i el s).fixed = s.fixed := by
  unfold State.poll
  repeat' split
  all_goals simp

@[simp] theorem State.pollSweep_fixed (i : Nat) (s : State) :
    (State.pollSweep i s).fixed = s.fixed := by
  unfold State.pollSweep
  simp

/-- R28: an order taken by a link keeps the fixed parts. -/
theorem State.offer_fixed (i : Nat) (e : TxEntry) (s t : State) (h : s.offer i e = .taken t) : t.fixed = s.fixed := by
  unfold State.offer at h
  repeat' split at h
  all_goals first
    | (cases h; simp)
    | simp at h

@[simp] theorem State.replaceQueued_fixed (i token : Nat) (e : TxEntry) (s : State) :
    (State.replaceQueued i token e s).fixed = s.fixed := by
  unfold State.replaceQueued
  simp

@[simp] theorem State.forward_fixed (i : Nat) (bytes : List Byte) (damaged : Bool) (s : State) :
    (State.forward i bytes damaged s).fixed = s.fixed := by
  unfold State.forward
  repeat' split
  all_goals simp

@[simp] theorem State.withdrawTentative_fixed (i : Nat) (s : State) :
    (State.withdrawTentative i s).fixed = s.fixed := by
  unfold State.withdrawTentative
  repeat' split
  all_goals simp

@[simp] theorem State.judgeComplete_fixed (i : Nat) (bytes : List Byte) (damaged : Bool) (s : State) :
    (State.judgeComplete i bytes damaged s).fixed = s.fixed := by
  unfold State.judgeComplete
  repeat' split
  all_goals simp

@[simp] theorem State.judgeTentative_fixed (i : Nat) (l : LinkRec) (bytes : List Byte) (damaged : Bool) (s : State) :
    (State.judgeTentative i l bytes damaged s).fixed = s.fixed := by
  unfold State.judgeTentative
  repeat' split
  all_goals simp

@[simp] theorem State.telegramComplete_fixed (i : Nat) (bytes : List Byte) (damaged : Bool) (s : State) :
    (State.telegramComplete i bytes damaged s).fixed = s.fixed := by
  unfold State.telegramComplete
  repeat' split
  all_goals simp

@[simp] theorem State.fragment_fixed (i : Nat) (s : State) :
    (State.fragment i s).fixed = s.fixed := by
  unfold State.fragment
  simp

@[simp] theorem State.asmEffect_fixed (i : Nat) (e : AsmEvent) (s : State) :
    (State.asmEffect i e s).fixed = s.fixed := by
  unfold State.asmEffect
  repeat' split
  all_goals simp

@[simp] theorem State.feed_fixed (i : Nat) (c : Received) (s : State) :
    (State.feed i c s).fixed = s.fixed := by
  unfold State.feed
  repeat' split
  all_goals simp

@[simp] theorem State.takeChar_fixed (i : Nat) (c : FieldChar) (s : State) :
    (State.takeChar i c s).fixed = s.fixed := by
  unfold State.takeChar
  repeat' split
  all_goals simp

@[simp] theorem State.loopRest_fixed (i : Nat) (s : State) :
    (State.loopRest i s).fixed = s.fixed := by
  unfold State.loopRest
  repeat' split
  all_goals simp

@[simp] theorem State.quiesce_fixed (i : Nat) (s : State) :
    (State.quiesce i s).fixed = s.fixed := by
  unfold State.quiesce
  repeat' split
  all_goals simp

@[simp] theorem State.moveLink_fixed (i : Nat) (new : LinkState) (s : State) :
    (State.moveLink i new s).fixed = s.fixed := by
  unfold State.moveLink
  repeat' split
  all_goals simp

@[simp] theorem State.linkUp_fixed (i : Nat) (s : State) :
    (State.linkUp i s).fixed = s.fixed := by
  unfold State.linkUp
  simp

@[simp] theorem State.rxPop_fixed (i : Nat) (l : LinkRec) (rest : List RxEntry) (s : State) :
    (State.rxPop i l rest s).fixed = s.fixed := by
  unfold State.rxPop
  repeat' split
  all_goals simp

@[simp] theorem State.endHeld_fixed (e : MirrorEntry) (o : Order) (r : Result) (c : Cause) (s : State) :
    (State.endHeld e o r c s).fixed = s.fixed := by
  unfold State.endHeld
  simp

@[simp] theorem State.endLost_fixed (e e' : MirrorEntry) (r : Result) (c : Cause) (s : State) :
    (State.endLost e e' r c s).fixed = s.fixed := by
  unfold State.endLost
  simp

@[simp] theorem State.failAtIssue_fixed (el : Nat) (d : OrderData) (token : Nat) (r : Result) (s : State) :
    (State.failAtIssue el d token r s).fixed = s.fixed := by
  unfold State.failAtIssue
  simp

@[simp] theorem State.startOrder_fixed (e : MirrorEntry) (d : OrderData) (token : Nat) (s : State) :
    (State.startOrder e d token s).fixed = s.fixed := by
  unfold State.startOrder
  repeat' split
  all_goals first
    | (simp; done)
    | (rename_i h; simp [State.offer_fixed _ _ _ _ h]; done)

@[simp] theorem State.overtake_fixed (e : MirrorEntry) (o : Order) (d : OrderData) (token : Nat) (s : State) :
    (State.overtake e o d token s).fixed = s.fixed := by
  unfold State.overtake
  repeat' split
  all_goals first
    | (simp; done)
    | (rename_i h; simp [State.offer_fixed _ _ _ _ h]; done)

@[simp] theorem State.wait_fixed (e : MirrorEntry) (d : OrderData) (token : Nat) (s : State) :
    (State.wait e d token s).fixed = s.fixed := by
  unfold State.wait
  simp

@[simp] theorem issue_fixed (el : Nat) (d : OrderData) (token : Nat) (s : State) :
    (issue el d token s).fixed = s.fixed := by
  unfold issue
  repeat' split
  all_goals simp

@[simp] theorem State.followBy_fixed (e : MirrorEntry) (w : Waiting) (c : Cause) (d : OrderData) (r : Result) (s : State) :
    (State.followBy e w c d r s).fixed = s.fixed := by
  unfold State.followBy
  dsimp only
  split
  · next h => simp [State.offer_fixed _ _ _ _ h]
  · simp

@[simp] theorem follow_fixed (el : Nat) (c : Cause) (d : OrderData) (r : Result) (s : State) :
    (follow el c d r s).fixed = s.fixed := by
  unfold follow
  repeat' split
  all_goals simp

@[simp] theorem evicted_fixed (el token : Nat) (s : State) :
    (evicted el token s).fixed = s.fixed := by
  unfold evicted
  repeat' split
  all_goals simp

@[simp] theorem State.sentNotice_fixed (w : Sending) (looped : Bool) (s : State) :
    (State.sentNotice w looped s).fixed = s.fixed := by
  unfold State.sentNotice
  repeat' split
  all_goals simp

@[simp] theorem State.orderExpired_fixed (e : MirrorEntry) (r : Result) (s : State) :
    (State.orderExpired e r s).fixed = s.fixed := by
  unfold State.orderExpired
  simp

@[simp] theorem State.answerTimeout_fixed (el : Nat) (s : State) :
    (State.answerTimeout el s).fixed = s.fixed := by
  unfold State.answerTimeout
  repeat' split
  all_goals simp

@[simp] theorem State.execTimeout_fixed (el : Nat) (s : State) :
    (State.execTimeout el s).fixed = s.fixed := by
  unfold State.execTimeout
  repeat' split
  all_goals simp

@[simp] theorem State.noPush_fixed (el : Nat) (s : State) :
    (State.noPush el s).fixed = s.fixed := by
  unfold State.noPush
  repeat' split
  all_goals simp

@[simp] theorem State.elementSilent_fixed (el : Nat) (s : State) :
    (State.elementSilent el s).fixed = s.fixed := by
  unfold State.elementSilent
  repeat' split
  all_goals simp

@[simp] theorem State.stateSettled_fixed (e : MirrorEntry) (a : Authority) (v : Value) (carried : List (Option Nat)) (linkUp : Bool) (s : State) :
    (State.stateSettled e a v carried linkUp s).fixed = s.fixed := by
  unfold State.stateSettled
  simp

@[simp] theorem State.push_fixed (e : MirrorEntry) (o : Order) (a : Authority) (v : Value) (s : State) :
    (State.push e o a v s).fixed = s.fixed := by
  unfold State.push
  simp only []
  repeat' split
  all_goals first
    | (simp; done)
    | (rename_i h; simp [State.offer_fixed _ _ _ _ h]; done)

@[simp] theorem State.stateTelegram_fixed (e : MirrorEntry) (a : Authority) (v : Value) (s : State) :
    (State.stateTelegram e a v s).fixed = s.fixed := by
  unfold State.stateTelegram
  repeat' split
  all_goals simp

@[simp] theorem State.eventTelegram_fixed (e : MirrorEntry) (code train : Nat) (v : Option Value) (forwarded : Bool) (s : State) :
    (State.eventTelegram e code train v forwarded s).fixed = s.fixed := by
  unfold State.eventTelegram
  repeat' split
  all_goals simp

@[simp] theorem State.answerTaken_fixed (e : MirrorEntry) (o : Order) (code reason : Nat) (s : State) :
    (State.answerTaken e o code reason s).fixed = s.fixed := by
  unfold State.answerTaken
  repeat' split
  all_goals simp

@[simp] theorem State.answerTelegram_fixed (e : MirrorEntry) (seq code reason : Nat) (s : State) :
    (State.answerTelegram e seq code reason s).fixed = s.fixed := by
  unfold State.answerTelegram
  repeat' split
  all_goals simp

@[simp] theorem State.executedTaken_fixed (e : MirrorEntry) (o : Order) (v : Value) (s : State) :
    (State.executedTaken e o v s).fixed = s.fixed := by
  unfold State.executedTaken
  simp

@[simp] theorem State.executedTelegram_fixed (e : MirrorEntry) (seq : Nat) (v : Value) (s : State) :
    (State.executedTelegram e seq v s).fixed = s.fixed := by
  unfold State.executedTelegram
  repeat' split
  all_goals simp

@[simp] theorem State.inconsistent_fixed (i : Nat) (t : Telegram) (check : Nat) (s : State) :
    (State.inconsistent i t check s).fixed = s.fixed := by
  unfold State.inconsistent
  simp

@[simp] theorem State.takeTelegram_fixed (i : Nat) (t : Telegram) (forwarded looped : Bool) (s : State) :
    (State.takeTelegram i t forwarded looped s).fixed = s.fixed := by
  unfold State.takeTelegram
  repeat' split
  all_goals simp

@[simp] theorem State.takeEntry_fixed (i : Nat) (s : State) :
    (State.takeEntry i s).fixed = s.fixed := by
  unfold State.takeEntry
  repeat' split
  all_goals simp

@[simp] theorem State.loseElements_fixed (i : Nat) (orders : List TxEntry) (s : State) :
    (State.loseElements i orders s).fixed = s.fixed := by
  unfold State.loseElements
  rw [State.posts_fixed]
  simp only [State.fixed, List.map_map, List.length_map, Prod.mk.injEq, true_and, and_true]
  apply List.map_congr_left
  intro a _
  simp only [Function.comp]
  split <;> rfl

@[simp] theorem State.leaveLink_fixed (i : Nat) (new : LinkState) (s : State) :
    (State.leaveLink i new s).fixed = s.fixed := by
  unfold State.leaveLink
  simp

@[simp] theorem pollAll_fixed (s : State) :
    (pollAll s).fixed = s.fixed := by
  unfold pollAll
  simp

@[simp] theorem State.setEntries_fixed (es : List TtEntry) (s : State) :
    (State.setEntries es s).fixed = s.fixed := by
  simp [State.fixed, State.setEntries]

@[simp] theorem State.ttRelease_fixed (train : Nat) (s : State) :
    (State.ttRelease train s).fixed = s.fixed := by
  unfold State.ttRelease
  repeat' split
  all_goals simp

@[simp] theorem State.ttBind_fixed (train trip stop : Nat) (s : State) :
    (State.ttBind train trip stop s).fixed = s.fixed := by
  unfold State.ttBind
  repeat' split
  all_goals simp

@[simp] theorem State.ttDepart_fixed (train stop : Nat) (trip : Option Nat) (d : Nat) (s : State) :
    (State.ttDepart train stop trip d s).fixed = s.fixed := by
  unfold State.ttDepart
  simp [State.fixed]

@[simp] theorem expire_fixed (s : State) :
    (expire s).fixed = s.fixed := by
  unfold expire
  simp

@[simp] theorem State.append_fixed (tag : Byte) (es : List TtEntry) (s : State) :
    (State.append tag es s).fixed = s.fixed := by
  unfold State.append
  simp

@[simp] theorem State.amend_fixed (tag : Byte) (old e : TtEntry) (s : State) :
    (State.amend tag old e s).fixed = s.fixed := by
  unfold State.amend
  simp

@[simp] theorem State.setTrainLoad_fixed (slot : Nat) (t : Train) (s : State) :
    (State.setTrainLoad slot t s).fixed = s.fixed := by
  unfold State.setTrainLoad
  simp

@[simp] theorem State.endStartWindow_fixed (t : Train) (s : State) :
    (State.endStartWindow t s).fixed = s.fixed := by
  unfold State.endStartWindow
  repeat' split
  all_goals simp

@[simp] theorem tentativeEvent_fixed (link el : Nat) (arrival : Bool) (train : Nat) (s : State) :
    (tentativeEvent link el arrival train s).fixed = s.fixed := by
  unfold tentativeEvent
  try dsimp only
  repeat' split
  all_goals simp

@[simp] theorem State.voidEvents_fixed (train : Nat) (s : State) :
    (State.voidEvents train s).fixed = s.fixed := by
  unfold State.voidEvents
  simp [State.fixed]

@[simp] theorem State.acceptArrival_fixed (slot : Nat) (t : Train) (stop a : Nat) (s : State) :
    (State.acceptArrival slot t stop a s).fixed = s.fixed := by
  unfold State.acceptArrival
  repeat' split
  all_goals simp

@[simp] theorem State.conflict_fixed (slot : Nat) (t : Train) (stop : Nat) (s : State) :
    (State.conflict slot t stop s).fixed = s.fixed := by
  unfold State.conflict
  simp

@[simp] theorem State.settleArrival_fixed (slot : Nat) (t : Train) (stop : Nat) (s : State) :
    (State.settleArrival slot t stop s).fixed = s.fixed := by
  unfold State.settleArrival
  repeat' split
  all_goals simp

@[simp] theorem State.confirmDeparture_fixed (slot : Nat) (t : Train) (stop d : Nat) (s : State) :
    (State.confirmDeparture slot t stop d s).fixed = s.fixed := by
  unfold State.confirmDeparture
  rw [State.posts_fixed]
  exact (State.setTrain_fixed slot _ (s.ttDepart t.id stop t.trip d)).trans (State.ttDepart_fixed ..)

@[simp] theorem State.giveUpStand_fixed (slot : Nat) (t : Train) (s : State) :
    (State.giveUpStand slot t s).fixed = s.fixed := by
  unfold State.giveUpStand
  simp

@[simp] theorem positionReport_fixed (train stop : Nat) (was : Option Nat) (jump : Bool) (s : State) :
    (positionReport train stop was jump s).fixed = s.fixed := by
  unfold positionReport
  repeat' split
  all_goals simp

@[simp] theorem State.unknownTrain_fixed (train stop : Nat) (s : State) :
    (State.unknownTrain train stop s).fixed = s.fixed := by
  unfold State.unknownTrain
  simp

@[simp] theorem State.judgeArrival_fixed (train stop : Nat) (s : State) :
    (State.judgeArrival train stop s).fixed = s.fixed := by
  unfold State.judgeArrival
  repeat' split
  all_goals simp

@[simp] theorem State.judgeDeparture_fixed (train stop : Nat) (s : State) :
    (State.judgeDeparture train stop s).fixed = s.fixed := by
  unfold State.judgeDeparture
  repeat' split
  all_goals simp

@[simp] theorem confirmedEvent_fixed (arrival : Bool) (train stop : Nat) (s : State) :
    (confirmedEvent arrival train stop s).fixed = s.fixed := by
  unfold confirmedEvent
  repeat' split
  all_goals simp

@[simp] theorem State.endApplied_fixed (slot : Nat) (t : Train) (arrival confirmed : Bool) (s : State) :
    (State.endApplied slot t arrival confirmed s).fixed = s.fixed := by
  unfold State.endApplied
  repeat' split
  all_goals simp

@[simp] theorem tentativeEnd_fixed (link : Nat) (confirmed : Bool) (s : State) :
    (tentativeEnd link confirmed s).fixed = s.fixed := by
  unfold tentativeEnd
  try dsimp only
  repeat' split
  all_goals simp

@[simp] theorem State.reconcile_fixed (v : ValueNotice) (s : State) :
    (State.reconcile v s).fixed = s.fixed := by
  unfold State.reconcile
  repeat' split
  all_goals simp

@[simp] theorem permitGiven_fixed (train level : Nat) (s : State) :
    (permitGiven train level s).fixed = s.fixed := by
  unfold permitGiven
  repeat' split
  all_goals simp

@[simp] theorem permitReturned_fixed (train : Nat) (s : State) :
    (permitReturned train s).fixed = s.fixed := by
  unfold permitReturned
  repeat' split
  all_goals simp

@[simp] theorem State.startWindowDeadline_fixed (slot : Nat) (s : State) :
    (State.startWindowDeadline slot s).fixed = s.fixed := by
  unfold State.startWindowDeadline
  repeat' split
  all_goals simp

@[simp] theorem State.removeTrain_fixed (slot : Nat) (t : Train) (s : State) :
    (State.removeTrain slot t s).fixed = s.fixed := by
  unfold State.removeTrain
  simp

@[simp] theorem slotFreed_fixed (slot train : Nat) (s : State) :
    (slotFreed slot train s).fixed = s.fixed := by
  unfold slotFreed
  simp

@[simp] theorem State.requestPermit_fixed (slot : Nat) (st : Stand) (s : State) :
    (State.requestPermit slot st s).fixed = s.fixed := by
  unfold State.requestPermit
  simp

@[simp] theorem State.issueRevoke_fixed (slot : Nat) (st : Stand) (s : State) :
    (State.issueRevoke slot st s).fixed = s.fixed := by
  unfold State.issueRevoke
  simp

@[simp] theorem State.becameHeld_fixed (slot : Nat) (st : Stand) (s : State) :
    (State.becameHeld slot st s).fixed = s.fixed := by
  unfold State.becameHeld
  repeat' split
  all_goals simp

@[simp] theorem State.becameFree_fixed (slot : Nat) (st : Stand) (s : State) :
    (State.becameFree slot st s).fixed = s.fixed := by
  unfold State.becameFree
  repeat' split
  all_goals simp

@[simp] theorem State.holdChange_fixed (slot : Nat) (before : Bool) (st : Stand) (s : State) :
    (State.holdChange slot before st s).fixed = s.fixed := by
  unfold State.holdChange
  try dsimp only
  repeat' split
  all_goals simp

@[simp] theorem recompute_fixed (slot : Nat) (s : State) :
    (recompute slot s).fixed = s.fixed := by
  unfold recompute
  repeat' split
  all_goals simp

/-- An act on every stand keeps the fixed parts if the act on one stand does. -/
theorem State.eachStand_fixed (act : Nat → State → State) (s : State) (h : ∀ i t, (act i t).fixed = t.fixed) :
    (s.eachStand act).fixed = s.fixed := foldl_fixed _ (fun t i => h i t) _ _

@[simp] theorem sectChanged_fixed (sect : Nat) (st : SectState) (low : Bool) (s : State) :
    (sectChanged sect st low s).fixed = s.fixed := by
  unfold sectChanged
  rw [State.eachStand_fixed _ _ recompute_fixed]
  simp [State.fixed]

@[simp] theorem heldStations_fixed (set : List Nat) (s : State) :
    (heldStations set s).fixed = s.fixed := by
  unfold heldStations
  rw [State.eachStand_fixed _ _ recompute_fixed]
  simp [State.fixed]

@[simp] theorem requestRemoved_fixed (train : Nat) (st : SectState) (low : Bool) (s : State) :
    (requestRemoved train st low s).fixed = s.fixed := by
  unfold requestRemoved
  repeat' split
  all_goals simp

@[simp] theorem State.holdTrain_fixed (slot : Nat) (s : State) :
    (State.holdTrain slot s).fixed = s.fixed := by
  unfold State.holdTrain
  repeat' split
  all_goals simp

@[simp] theorem State.unholdTrain_fixed (slot : Nat) (s : State) :
    (State.unholdTrain slot s).fixed = s.fixed := by
  unfold State.unholdTrain
  repeat' split
  all_goals simp

@[simp] theorem standTentative_fixed (slot : Nat) (s : State) :
    (standTentative slot s).fixed = s.fixed := by
  unfold standTentative
  repeat' split
  all_goals simp

@[simp] theorem standWithdrawn_fixed (slot : Nat) (s : State) :
    (standWithdrawn slot s).fixed = s.fixed := by
  unfold standWithdrawn
  simp

@[simp] theorem State.startDwelling_fixed (slot train : Nat) (st : Stand) (pl : Plan) (s : State) :
    (State.startDwelling slot train st pl s).fixed = s.fixed := by
  unfold State.startDwelling
  simp

@[simp] theorem State.arrivedStand_fixed (slot : Nat) (t : Train) (st : Stand) (s : State) :
    (State.arrivedStand slot t st s).fixed = s.fixed := by
  unfold State.arrivedStand
  repeat' split
  all_goals simp

@[simp] theorem standArrived_fixed (slot : Nat) (s : State) :
    (standArrived slot s).fixed = s.fixed := by
  unfold standArrived
  repeat' split
  all_goals simp

@[simp] theorem due_fixed (slot : Nat) (s : State) :
    (due slot s).fixed = s.fixed := by
  unfold due
  repeat' split
  all_goals simp

@[simp] theorem State.issueRelease_fixed (slot level : Nat) (st : Stand) (s : State) :
    (State.issueRelease slot level st s).fixed = s.fixed := by
  unfold State.issueRelease
  simp

@[simp] theorem State.takeGrant_fixed (slot train t : Nat) (st : Stand) (s : State) :
    (State.takeGrant slot train t st s).fixed = s.fixed := by
  unfold State.takeGrant
  repeat' split
  all_goals simp

@[simp] theorem granted_fixed (train t : Nat) (s : State) :
    (granted train t s).fixed = s.fixed := by
  unfold granted
  repeat' split
  all_goals simp

@[simp] theorem State.dwellOutcome_fixed (slot : Nat) (st : Stand) (r : Result) (s : State) :
    (State.dwellOutcome slot st r s).fixed = s.fixed := by
  unfold State.dwellOutcome
  repeat' split
  all_goals simp

@[simp] theorem State.afterFailure_fixed (slot : Nat) (st : Stand) (s : State) :
    (State.afterFailure slot st s).fixed = s.fixed := by
  unfold State.afterFailure
  repeat' split
  all_goals simp

@[simp] theorem State.releaseFailure_fixed (slot : Nat) (st : Stand) (r : Result) (s : State) :
    (State.releaseFailure slot st r s).fixed = s.fixed := by
  unfold State.releaseFailure
  simp

@[simp] theorem State.releaseOutcome_fixed (slot : Nat) (st : Stand) (r : Result) (s : State) :
    (State.releaseOutcome slot st r s).fixed = s.fixed := by
  unfold State.releaseOutcome
  repeat' split
  all_goals simp

@[simp] theorem State.revokeReached_fixed (slot : Nat) (st : Stand) (s : State) :
    (State.revokeReached slot st s).fixed = s.fixed := by
  unfold State.revokeReached
  simp

@[simp] theorem State.revokeOutcome_fixed (slot : Nat) (st : Stand) (r : Result) (s : State) :
    (State.revokeOutcome slot st r s).fixed = s.fixed := by
  unfold State.revokeOutcome
  repeat' split
  all_goals simp

@[simp] theorem State.earlierOutcome_fixed (o : OutcomeMsg) (s : State) :
    (State.earlierOutcome o s).fixed = s.fixed := by
  unfold State.earlierOutcome
  repeat' split
  all_goals simp

@[simp] theorem State.platformOutcome_fixed (o : OutcomeMsg) (s : State) :
    (State.platformOutcome o s).fixed = s.fixed := by
  unfold State.platformOutcome
  repeat' split
  all_goals simp

@[simp] theorem standDeparted_fixed (slot train : Nat) (late : Option Int) (trip p : Option Nat) (s : State) :
    (standDeparted slot train late trip p s).fixed = s.fixed := by
  unfold standDeparted
  simp

@[simp] theorem State.endStandRecord_fixed (slot train : Nat) (s : State) :
    (State.endStandRecord slot train s).fixed = s.fixed := by
  unfold State.endStandRecord
  repeat' split
  all_goals simp

@[simp] theorem standEnded_fixed (slot : Nat) (s : State) :
    (standEnded slot s).fixed = s.fixed := by
  unfold standEnded
  simp

@[simp] theorem trainGone_fixed (slot train : Nat) (s : State) :
    (trainGone slot train s).fixed = s.fixed := by
  unfold trainGone
  simp

@[simp] theorem State.planStanding_fixed (slot : Nat) (t : Train) (st : Stand) (s : State) :
    (State.planStanding slot t st s).fixed = s.fixed := by
  unfold State.planStanding
  repeat' split
  all_goals simp

@[simp] theorem startStand_fixed (slot : Nat) (s : State) :
    (startStand slot s).fixed = s.fixed := by
  unfold startStand
  repeat' split
  all_goals simp

@[simp] theorem resumeStand_fixed (slot : Nat) (s : State) :
    (resumeStand slot s).fixed = s.fixed := by
  unfold resumeStand
  repeat' split
  all_goals simp

@[simp] theorem State.standDown_fixed (slot : Nat) (st : Stand) (phase : Option Phase) (s : State) :
    (State.standDown slot st phase s).fixed = s.fixed := by
  unfold State.standDown
  simp

@[simp] theorem suspendStand_fixed (slot : Nat) (s : State) :
    (suspendStand slot s).fixed = s.fixed := by
  unfold suspendStand
  repeat' split
  all_goals simp

@[simp] theorem endStand_fixed (slot : Nat) (s : State) :
    (endStand slot s).fixed = s.fixed := by
  unfold endStand
  repeat' split
  all_goals simp

@[simp] theorem State.carrierReturn_fixed (i : Nat) (s : State) :
    (State.carrierReturn i s).fixed = s.fixed := by
  unfold State.carrierReturn
  repeat' split
  all_goals simp

@[simp] theorem State.carrierLoss_fixed (i : Nat) (s : State) :
    (State.carrierLoss i s).fixed = s.fixed := by
  unfold State.carrierLoss
  repeat' split
  all_goals simp

@[simp] theorem State.gapTimeout_fixed (i : Nat) (s : State) :
    (State.gapTimeout i s).fixed = s.fixed := by
  unfold State.gapTimeout
  repeat' split
  all_goals simp

@[simp] theorem State.telegramSent_fixed (i : Nat) (s : State) :
    (State.telegramSent i s).fixed = s.fixed := by
  unfold State.telegramSent
  repeat' split
  all_goals simp

@[simp] theorem State.enterLoop_fixed (i : Nat) (l : LinkRec) (s : State) :
    (State.enterLoop i l s).fixed = s.fixed := by
  unfold State.enterLoop
  repeat' split
  all_goals simp

@[simp] theorem State.leaveLoop_fixed (i : Nat) (l : LinkRec) (s : State) :
    (State.leaveLoop i l s).fixed = s.fixed := by
  unfold State.leaveLoop
  repeat' split
  all_goals simp

@[simp] theorem State.setStates_fixed (g : List Nat) (new : SectState) (s : State) :
    (State.setStates g new s).fixed = s.fixed := by
  unfold State.setStates
  exact foldl_fixed _ (fun s i => State.modSect_fixed i _ s) g s

@[simp] theorem State.changeTo_fixed (g : List Nat) (new : SectState) (s : State) :
    (State.changeTo g new s).fixed = s.fixed := by
  unfold State.changeTo
  simp

@[simp] theorem State.setSeq_fixed (base : Nat) (q : Option Sequence) (s : State) :
    (State.setSeq base q s).fixed = s.fixed := by
  unfold State.setSeq
  simp

@[simp] theorem State.dropRequests_fixed (i : Nat) (s : State) :
    (State.dropRequests i s).fixed = s.fixed := by
  unfold State.dropRequests
  simp

@[simp] theorem leftLive_fixed (i : Nat) (s : State) :
    (leftLive i s).fixed = s.fixed := by
  unfold leftLive
  simp

@[simp] theorem becameLive_fixed (i : Nat) (s : State) :
    (becameLive i s).fixed = s.fixed := by
  unfold becameLive
  simp

@[simp] theorem State.recount_fixed (s : State) :
    (State.recount s).fixed = s.fixed := by
  unfold State.recount
  simp

@[simp] theorem State.recountAndExamine_fixed (s : State) :
    (State.recountAndExamine s).fixed = s.fixed := by
  unfold State.recountAndExamine
  repeat' split
  all_goals simp

@[simp] theorem State.setLoad_fixed (slot : Nat) (n : Option LoadNote) (s : State) :
    (State.setLoad slot n s).fixed = s.fixed := by
  unfold State.setLoad
  simp

theorem State.mem_strandedIn (s : State) (slot j : Nat) (keep : Option Nat) :
    j ∈ s.strandedIn slot keep ↔ keep ≠ some j ∧ ∃ r, s.sect? j = some r ∧ slot ∈ r.stranded := by
  unfold State.strandedIn numbersBelow
  simp only [List.mem_filter, List.mem_range, State.sect?, Bool.and_eq_true, bne_iff_ne]
  constructor
  · rintro ⟨hl, hk, ha⟩
    refine ⟨fun h => hk h.symm, ?_⟩
    rw [List.getElem?_eq_getElem hl] at ha ⊢
    simpa using ha
  · rintro ⟨hk, r, hr, hm⟩
    refine ⟨(List.getElem?_eq_some_iff.mp hr).1, fun h => hk h.symm, ?_⟩
    rw [hr]
    simpa using hm

@[simp] theorem State.unstrand_fixed (slot : Nat) (keep : Option Nat) (s : State) :
    (State.unstrand slot keep s).fixed = s.fixed := by
  unfold State.unstrand
  simp

@[simp] theorem State.strand_fixed (slot : Nat) (i : Option Nat) (s : State) :
    (State.strand slot i s).fixed = s.fixed := by
  unfold State.strand
  repeat' split
  all_goals simp

@[simp] theorem load_fixed (slot : Nat) (n : LoadNote) (s : State) :
    (load slot n s).fixed = s.fixed := by
  unfold load
  simp

@[simp] theorem unload_fixed (slot train : Nat) (s : State) :
    (unload slot train s).fixed = s.fixed := by
  unfold unload
  simp

@[simp] theorem State.countStart_fixed (train : Nat) (s : State) :
    (State.countStart train s).fixed = s.fixed := by
  unfold State.countStart
  simp

@[simp] theorem State.grant_fixed (r : PermitRequest) (s : State) :
    (State.grant r s).fixed = s.fixed := by
  unfold State.grant
  simp

@[simp] theorem walk_fixed (trains : List Nat) (s : State) :
    (walk trains s).fixed = s.fixed := by
  unfold walk
  repeat' split
  all_goals simp

@[simp] theorem reexamine_fixed (s : State) :
    (reexamine s).fixed = s.fixed := by
  unfold reexamine
  simp

@[simp] theorem permitRequest_fixed (train i : Nat) (s : State) :
    (permitRequest train i s).fixed = s.fixed := by
  unfold permitRequest
  repeat' split
  all_goals simp

@[simp] theorem permitWithdraw_fixed (train : Nat) (s : State) :
    (permitWithdraw train s).fixed = s.fixed := by
  unfold permitWithdraw
  repeat' split
  all_goals simp

@[simp] theorem permitEnded_fixed (train : Nat) (s : State) :
    (permitEnded train s).fixed = s.fixed := by
  unfold permitEnded
  simp

@[simp] theorem State.permitWaitLong_fixed (train : Nat) (s : State) :
    (State.permitWaitLong train s).fixed = s.fixed := by
  unfold State.permitWaitLong
  repeat' split
  all_goals simp

@[simp] theorem openBreaker_fixed (el : Nat) (s : State) :
    (openBreaker el s).fixed = s.fixed := by
  unfold openBreaker
  repeat' split
  all_goals simp

@[simp] theorem State.isolate_fixed (i : Nat) (kind : IsoKind) (ordered : List Nat) (mustRead : Bool) (after : List Notice) (s : State) :
    (State.isolate i kind ordered mustRead after s).fixed = s.fixed := by
  unfold State.isolate
  simp

@[simp] theorem State.isolateHost_fixed (i : Nat) (s : State) :
    (State.isolateHost i s).fixed = s.fixed := by
  unfold State.isolateHost
  repeat' split
  all_goals simp

@[simp] theorem isolationCheck_fixed (base : Nat) (s : State) :
    (isolationCheck base s).fixed = s.fixed := by
  unfold isolationCheck
  repeat' split
  all_goals simp

@[simp] theorem State.abort_fixed (base : Nat) (c : AbortCause) (s : State) :
    (State.abort base c s).fixed = s.fixed := by
  unfold State.abort
  repeat' split
  all_goals simp

@[simp] theorem State.chargeFailure_fixed (base named : Nat) (ordered : List Nat) (s : State) :
    (State.chargeFailure base named ordered s).fixed = s.fixed := by
  unfold State.chargeFailure
  simp

@[simp] theorem State.trip_fixed (i : Nat) (s : State) :
    (State.trip i s).fixed = s.fixed := by
  unfold State.trip
  simp

@[simp] theorem State.takeDerived_fixed (i : Nat) (d : Derived) (s : State) :
    (State.takeDerived i d s).fixed = s.fixed := by
  unfold State.takeDerived
  repeat' split
  all_goals simp

@[simp] theorem derive_fixed (i : Nat) (s : State) :
    (derive i s).fixed = s.fixed := by
  unfold derive
  repeat' split
  all_goals simp

@[simp] theorem demandAct_fixed (i : Nat) (s : State) :
    (demandAct i s).fixed = s.fixed := by
  unfold demandAct
  repeat' split
  all_goals simp

@[simp] theorem demands_fixed (set : List Nat) (s : State) :
    (demands set s).fixed = s.fixed := by
  unfold demands
  rw [State.posts_fixed, State.setSects_fixed]
  apply List.ext_getElem <;> simp

@[simp] theorem State.prechargeFirst_fixed (base named : Nat) (ordered : List Nat) (s : State) :
    (State.prechargeFirst base named ordered s).fixed = s.fixed := by
  unfold State.prechargeFirst
  repeat' split
  all_goals simp

@[simp] theorem State.firstStep_fixed (base named : Nat) (s : State) :
    (State.firstStep base named s).fixed = s.fixed := by
  unfold State.firstStep
  repeat' split
  all_goals simp

@[simp] theorem nextClose_fixed (base : Nat) (s : State) :
    (nextClose base s).fixed = s.fixed := by
  unfold nextClose
  repeat' split
  all_goals simp

@[simp] theorem State.prechargeExpiry_fixed (i : Nat) (s : State) :
    (State.prechargeExpiry i s).fixed = s.fixed := by
  unfold State.prechargeExpiry
  try dsimp only
  repeat' split
  all_goals simp

@[simp] theorem State.closeReached_fixed (base el named : Nat) (step : EnergizeStep) (ordered : List Nat) (m v : Option Nat) (s : State) :
    (State.closeReached base el named step ordered m v s).fixed = s.fixed := by
  unfold State.closeReached
  try dsimp only
  repeat' split
  all_goals simp

@[simp] theorem State.closeOutcome_fixed (o : OutcomeMsg) (s : State) :
    (State.closeOutcome o s).fixed = s.fixed := by
  unfold State.closeOutcome
  repeat' split
  all_goals simp

@[simp] theorem State.breakerOutcome_fixed (o : OutcomeMsg) (s : State) :
    (State.breakerOutcome o s).fixed = s.fixed := by
  unfold State.breakerOutcome
  repeat' split
  all_goals simp

@[simp] theorem State.breakerNotice_fixed (v : ValueNotice) (s : State) :
    (State.breakerNotice v s).fixed = s.fixed := by
  unfold State.breakerNotice
  repeat' split
  all_goals simp

@[simp] theorem State.judgeOverload_fixed (f load : Nat) (s : State) :
    (State.judgeOverload f load s).fixed = s.fixed := by
  unfold State.judgeOverload
  repeat' split
  all_goals simp

@[simp] theorem State.measure_fixed (f load moment : Nat) (s : State) :
    (State.measure f load moment s).fixed = s.fixed := by
  unfold State.measure
  simp

@[simp] theorem State.meterStale_fixed (f : Nat) (s : State) :
    (State.meterStale f s).fixed = s.fixed := by
  unfold State.meterStale
  repeat' split
  all_goals simp

@[simp] theorem State.voltage_fixed (i v moment : Nat) (s : State) :
    (State.voltage i v moment s).fixed = s.fixed := by
  unfold State.voltage
  simp

@[simp] theorem State.meterNotice_fixed (v : ValueNotice) (s : State) :
    (State.meterNotice v s).fixed = s.fixed := by
  unfold State.meterNotice
  have h1 := foldl_fixed
    (fun (s : State) i => match s.carriedFor v i with
      | some x => s.voltage i x v.moment
      | none => s)
    (by intro s i; split <;> simp) (List.range s.tsv.sects.length) s
  have h2 : ∀ (load : Nat) (l : List Nat) (t : State), (l.foldl
      (fun s f => if (s.tsv.subs[f]?).any (fun r => r.meter == v.el) then s.measure f load v.moment else s) t).fixed =
      t.fixed := fun load l t => foldl_fixed _ (by intro s f; split <;> simp) l t
  dsimp only
  repeat' split
  · exact (h2 _ _ _).trans h1
  · exact h1
  · exact h1

@[simp] theorem State.setLow_fixed (i : Nat) (s : State) :
    (State.setLow i s).fixed = s.fixed := by
  unfold State.setLow
  simp

@[simp] theorem State.clearLow_fixed (i : Nat) (s : State) :
    (State.clearLow i s).fixed = s.fixed := by
  unfold State.clearLow
  simp

@[simp] theorem State.voltageExpiry_fixed (i : Nat) (s : State) :
    (State.voltageExpiry i s).fixed = s.fixed := by
  unfold State.voltageExpiry
  repeat' split
  all_goals simp

@[simp] theorem State.isolateByState_fixed (tag : Byte) (i : Nat) (s : State) :
    (State.isolateByState tag i s).fixed = s.fixed := by
  unfold State.isolateByState
  repeat' split
  all_goals simp

@[simp] theorem State.setMode_fixed (m : Nat) (mode : PairMode) (s : State) :
    (State.setMode m mode s).fixed = s.fixed := by
  unfold State.setMode
  simp

@[simp] theorem State.changeMode_fixed (tag : Byte) (m : Nat) (mode : PairMode) (s : State) :
    (State.changeMode tag m mode s).fixed = s.fixed := by
  unfold State.changeMode
  simp

@[simp] theorem State.enter_fixed (x : Incident) (s : State) :
    (State.enter x s).fixed = s.fixed := by
  simp [State.fixed, State.enter]

@[simp] theorem State.putIncident_fixed (x : Incident) (s : State) :
    (State.putIncident x s).fixed = s.fixed := by
  unfold State.putIncident
  simp

@[simp] theorem State.mergeReport_fixed (x : Incident) (mark : Nat) (s : State) :
    (State.mergeReport x mark s).fixed = s.fixed := by
  unfold State.mergeReport
  simp

@[simp] theorem State.reopen_fixed (y : Incident) (s : State) :
    (State.reopen y s).fixed = s.fixed := by
  unfold State.reopen
  simp

@[simp] theorem State.raiseReport_fixed (x : Incident) (s : State) :
    (State.raiseReport x s).fixed = s.fixed := by
  unfold State.raiseReport
  simp

@[simp] theorem raise_fixed (k : IncKind) (key : Nat) (s : State) :
    (raise k key s).fixed = s.fixed := by
  unfold raise
  repeat' split
  all_goals simp

@[simp] theorem resolve_fixed (k : IncKind) (key : Nat) (s : State) :
    (resolve k key s).fixed = s.fixed := by
  unfold resolve
  repeat' split
  all_goals simp

@[simp] theorem State.escalateReport_fixed (number severity mark : Nat) (s : State) :
    (State.escalateReport number severity mark s).fixed = s.fixed := by
  unfold State.escalateReport
  simp

@[simp] theorem State.escalate_fixed (x : Incident) (d : Nat) (s : State) :
    (State.escalate x d s).fixed = s.fixed := by
  unfold State.escalate
  repeat' split
  all_goals simp

@[simp] theorem State.escalationDeadline_fixed (number : Nat) (s : State) :
    (State.escalationDeadline number s).fixed = s.fixed := by
  unfold State.escalationDeadline
  repeat' split
  all_goals simp

@[simp] theorem deriveEffects_fixed (s : State) :
    (deriveEffects s).fixed = s.fixed := by
  unfold deriveEffects
  simp

@[simp] theorem handHeld_fixed (s : State) : (handHeld s).fixed = s.fixed := by
  unfold handHeld
  split <;> simp [State.fixed]

@[simp] theorem handDemands_fixed (s : State) : (handDemands s).fixed = s.fixed := by
  unfold handDemands
  split <;> simp [State.fixed]

@[simp] theorem handContent_fixed (station : Nat) (s : State) : (handContent station s).fixed = s.fixed := by
  unfold handContent
  split <;> simp [State.fixed]

@[simp] theorem State.raiseHost_fixed (tag : Byte) (x : Incident) (s : State) :
    (State.raiseHost tag x s).fixed = s.fixed := by
  unfold State.raiseHost
  simp

@[simp] theorem State.sendShow_fixed (i el : Nat) (r : StationRec) (s : State) :
    (State.sendShow i el r s).fixed = s.fixed := by
  unfold State.sendShow
  repeat' split
  all_goals simp

@[simp] theorem judge_fixed (i : Nat) (s : State) :
    (judge i s).fixed = s.fixed := by
  unfold judge
  repeat' split
  all_goals simp

@[simp] theorem showRaised_fixed (i : Nat) (s : State) :
    (showRaised i s).fixed = s.fixed := by
  unfold showRaised
  repeat' split
  all_goals simp

@[simp] theorem State.sendingEnds_fixed (i el : Nat) (r : StationRec) (x : Result) (s : State) :
    (State.sendingEnds i el r x s).fixed = s.fixed := by
  unfold State.sendingEnds
  repeat' split
  all_goals simp

@[simp] theorem State.showOutcome_fixed (o : OutcomeMsg) (s : State) :
    (State.showOutcome o s).fixed = s.fixed := by
  unfold State.showOutcome
  repeat' split
  all_goals simp

@[simp] theorem State.shownNotice_fixed (v : ValueNotice) (s : State) :
    (State.shownNotice v s).fixed = s.fixed := by
  unfold State.shownNotice
  repeat' split
  all_goals simp

@[simp] theorem releaseStation_fixed (i : Nat) (s : State) :
    (releaseStation i s).fixed = s.fixed := by
  unfold releaseStation
  repeat' split
  all_goals simp

@[simp] theorem trainArrived_fixed (stop : Nat) (s : State) :
    (trainArrived stop s).fixed = s.fixed := by
  unfold trainArrived
  simp

@[simp] theorem State.minuteBoundary_fixed (s : State) :
    (State.minuteBoundary s).fixed = s.fixed := by
  unfold State.minuteBoundary
  simp

@[simp] theorem incidentContent_fixed (i : Nat) (c : Option Content) (s : State) :
    (incidentContent i c s).fixed = s.fixed := by
  unfold incidentContent
  repeat' split
  all_goals simp

@[simp] theorem delayWrite_fixed (i : Nat) (n : DelayNotice) (s : State) :
    (delayWrite i n s).fixed = s.fixed := by
  unfold delayWrite
  repeat' split
  all_goals simp

@[simp] theorem State.clearDelay_fixed (i train : Nat) (s : State) :
    (State.clearDelay i train s).fixed = s.fixed := by
  unfold State.clearDelay
  repeat' split
  all_goals simp

@[simp] theorem delayWithdraw_fixed (train : Nat) (s : State) :
    (delayWithdraw train s).fixed = s.fixed := by
  unfold delayWithdraw
  simp

@[simp] theorem trainDeparted_fixed (train stop : Nat) (s : State) :
    (trainDeparted train stop s).fixed = s.fixed := by
  unfold trainDeparted
  simp

@[simp] theorem State.startDisplays_fixed (s : State) :
    (State.startDisplays s).fixed = s.fixed := by
  unfold State.startDisplays
  simp [State.fixed]

@[simp] theorem State.replySent_fixed (s : State) :
    (State.replySent s).fixed = s.fixed := by
  simp [State.fixed, State.replySent]

@[simp] theorem State.setReports_fixed (l : List Report) (s : State) :
    (State.setReports l s).fixed = s.fixed := by
  simp [State.fixed, State.setReports]

@[simp] theorem State.clearConditions_fixed (s : State) :
    (State.clearConditions s).fixed = s.fixed := by
  simp [State.fixed, State.clearConditions]

@[simp] theorem takeOutcome_fixed (o : OutcomeMsg) (s : State) :
    (takeOutcome o s).fixed = s.fixed := by
  unfold takeOutcome
  repeat' split
  all_goals simp

@[simp] theorem takeValue_fixed (v : ValueNotice) (s : State) :
    (takeValue v s).fixed = s.fixed := by
  unfold takeValue
  repeat' split
  all_goals simp

@[simp] theorem takeAnswer_fixed (tag : Byte) (a : Answer) (s : State) :
    (takeAnswer tag a s).fixed = s.fixed := by
  unfold takeAnswer
  simp

@[simp] theorem handle_fixed (n : Notice) (s : State) :
    (handle n s).fixed = s.fixed := by
  cases n <;> simp [handle]

@[simp] theorem State.behind_fixed (rest : List Notice) (s : State) :
    (State.behind rest s).fixed = s.fixed := by
  unfold State.behind
  simp

@[simp] theorem State.takeNotice_fixed (n : Notice) (rest : List Notice) (s : State) :
    (State.takeNotice n rest s).fixed = s.fixed := by
  unfold State.takeNotice
  rw [State.behind_fixed, State.latch_fixed, handle_fixed, State.setAgenda_fixed]

/-- The running out of the agenda keeps the fixed parts. -/
@[simp] theorem State.run_fixed (k : Nat) (s : State) : (s.run k).fixed = s.fixed := by
  induction k generalizing s with
  | zero => rfl
  | succ k ih =>
    unfold State.run
    split
    · rfl
    · rw [ih, State.takeNotice_fixed]

/-- What a command leaves settled keeps the fixed parts. -/
@[simp] theorem settle_fixed (s : State) : (settle s).fixed = s.fixed := by
  simp [settle]

end Sys2Proof.Machine
end

