-- ==== Sys2Proof/Laws/Bounded.lean ====
section
/-! SUPPORT. What every notice keeps within its bounds: the report queue, the links' queues, the incident table and the
timetable window. One law per operation that the handling of a notice uses, then the law of the whole running out. -/
namespace Sys2Proof.Machine

/-- The bounds of R23, R28, R60, R133 and R176 together. -/
def State.bounded (s : State) : Prop :=
  s.reportsBounded ∧ (∀ l ∈ s.links, l.bounded) ∧ s.incidentsBounded ∧ s.windowBounded

/-- A link of a bounded state has its queues within their bounds. -/
theorem State.bounded.link {s : State} (h : s.bounded) {i : Nat} {l : LinkRec} (e : s.links[i]? = some l) : l.bounded :=
  h.2.1 l (List.mem_of_getElem? e)

/-- A link record with the queues of a link of a bounded state has them within their bounds. -/
theorem State.bounded.like {s : State} (h : s.bounded) {i : Nat} {l l' : LinkRec} (e : s.links[i]? = some l)
    (hr : l'.rx = l.rx) (ht : l'.tx = l.tx) : l'.bounded := by
  have := h.link e
  exact ⟨hr ▸ this.1, ht ▸ this.2⟩

/-- Entries no more than before keep the bounds. -/
theorem State.setEntries_bounded (es : List TtEntry) (s : State) (h : s.bounded)
    (hl : es.length ≤ s.window.entries.length) : (s.setEntries es).bounded :=
  ⟨h.1, h.2.1, h.2.2.1, Nat.le_trans hl h.2.2.2⟩

/-- A table no longer than before keeps the bounds. -/
theorem State.setTable_bounded (t : List Incident) (s : State) (h : s.bounded)
    (hl : t.length ≤ s.inc.table.length) : (s.setTable t).bounded :=
  ⟨h.1, h.2.1, Nat.le_trans hl h.2.2.1, h.2.2.2⟩

/-- R34: the record with its next looped character gone has the same queues. -/
theorem LinkRec.loopChar_queues (l l' : LinkRec) (b : Byte) (h : l.loopChar = some (b, l')) :
    l'.rx = l.rx ∧ l'.tx = l.tx := by
  unfold LinkRec.loopChar at h
  repeat' split at h
  all_goals simp at h
  obtain ⟨_, rfl⟩ := h
  exact ⟨rfl, rfl⟩

/-- A fold of operations that keep the bounds keeps them. -/
@[simp] theorem foldl_bounded (f : State → α → State) (hf : ∀ s a, s.bounded → (f s a).bounded) (l : List α) (s : State)
    (h : s.bounded) : (l.foldl f s).bounded := by
  induction l generalizing s with
  | nil => exact h
  | cons a l ih => exact ih _ (hf _ _ h)

@[simp] theorem State.setLink_bounded (i : Nat) (l : LinkRec) (s : State) (h : s.bounded) (hl : l.bounded) :
    (s.setLink i l).bounded := by
  refine ⟨h.1, ?_, h.2.2⟩
  intro x hx
  rcases List.mem_or_eq_of_mem_set hx with hx | hx
  · exact h.2.1 x hx
  · exact hx ▸ hl

@[simp] theorem State.modLink_bounded (i : Nat) (f : LinkRec → LinkRec) (s : State) (h : s.bounded)
    (hf : ∀ l : LinkRec, l.bounded → (f l).bounded) : (s.modLink i f).bounded := by
  refine ⟨h.1, ?_, h.2.2⟩
  intro x hx
  simp only [modLink_links] at hx
  obtain ⟨n, hn⟩ := List.getElem?_of_mem hx
  rw [List.getElem?_modify] at hn
  cases e : s.links[n]? with
  | none => simp [e] at hn
  | some y =>
    have hy := h.2.1 y (List.mem_of_getElem? e)
    simp only [e, Option.map_eq_map, Option.map_some, Option.some.injEq] at hn
    subst hn
    split
    · exact hf y hy
    · exact hy

theorem takeClass_length (c : OrderClass) (q : List TxEntry) (x : TxEntry) (r : List TxEntry)
    (h : takeClass c q = some (x, r)) : r.length + 1 = q.length := by
  induction q generalizing x r with
  | nil => simp [takeClass] at h
  | cons e rest ih =>
    unfold takeClass at h
    split at h
    · cases h; rfl
    · cases e2 : takeClass c rest with
      | none => simp [e2] at h
      | some y =>
        obtain ⟨y1, y2⟩ := y
        simp only [e2, Option.map_some, Option.some.injEq, Prod.mk.injEq] at h
        obtain ⟨_, rfl⟩ := h
        simp [← ih y1 y2 e2]

theorem evictNewest_length (c : OrderClass) (q : List TxEntry) (x : TxEntry) (r : List TxEntry)
    (h : evictNewest c q = some (x, r)) : r.length + 1 = q.length := by
  unfold evictNewest at h
  cases e2 : takeClass c q.reverse with
  | none => simp [e2] at h
  | some y =>
    obtain ⟨y1, y2⟩ := y
    simp only [e2, Option.map_some, Option.some.injEq, Prod.mk.injEq] at h
    obtain ⟨_, rfl⟩ := h
    simpa using takeClass_length c q.reverse y1 y2 e2

@[simp] theorem State.setAgenda_bounded (l : List Notice) (s : State) (h : s.bounded) :
    (State.setAgenda l s).bounded := h

@[simp] theorem State.latch_bounded (s : State) (h : s.bounded) :
    (State.latch s).bounded := h

@[simp] theorem State.flagFrameError_bounded (s : State) (h : s.bounded) :
    (State.flagFrameError s).bounded := h

@[simp] theorem State.flagIncidentOverflow_bounded (s : State) (h : s.bounded) :
    (State.flagIncidentOverflow s).bounded := h

@[simp] theorem State.post_bounded (n : Notice) (s : State) (h : s.bounded) :
    (State.post n s).bounded := h

@[simp] theorem State.posts_bounded (ns : List Notice) (s : State) (h : s.bounded) :
    (State.posts ns s).bounded := h

@[simp] theorem State.report_bounded (k : ReportKind) (subject : Option Subject) (d1 d2 : Option Nat) (s : State) (h : s.bounded) :
    (State.report k subject d1 d2 s).bounded := by
  unfold State.report
  split
  · exact h
  · split
    · next hlt =>
      refine ⟨?_, h.2⟩
      simp only [State.reportsBounded, List.length_append, List.length_singleton]
      omega
    · exact h

@[simp] theorem State.reply_bounded (r : Reply) (s : State) (h : s.bounded) :
    (State.reply r s).bounded := h

@[simp] theorem State.done_bounded (tag : Byte) (data : List Byte) (s : State) (h : s.bounded) :
    (State.done tag data s).bounded := h

@[simp] theorem State.reach_bounded (deadline : Nat) (s : State) (h : s.bounded) :
    (State.reach deadline s).bounded := h

@[simp] theorem State.setEntry_bounded (e : MirrorEntry) (s : State) (h : s.bounded) :
    (State.setEntry e s).bounded := h

@[simp] theorem State.setSlot_bounded (slot : Nat) (t : Option Train) (s : State) (h : s.bounded) :
    (State.setSlot slot t s).bounded := h

@[simp] theorem State.setTrain_bounded (slot : Nat) (t : Train) (s : State) (h : s.bounded) :
    (State.setTrain slot t s).bounded := h

@[simp] theorem State.setTentative_bounded (link : Nat) (t : Option TentativeSlot) (s : State) (h : s.bounded) :
    (State.setTentative link t s).bounded := h

@[simp] theorem State.setStand_bounded (slot : Nat) (st : Option Stand) (s : State) (h : s.bounded) :
    (State.setStand slot st s).bounded := h

@[simp] theorem State.putStand_bounded (slot : Nat) (st : Stand) (s : State) (h : s.bounded) :
    (State.putStand slot st s).bounded := h

@[simp] theorem State.setHostHold_bounded (slot : Nat) (b : Bool) (s : State) (h : s.bounded) :
    (State.setHostHold slot b s).bounded := h

@[simp] theorem State.setSect_bounded (i : Nat) (r : SectRec) (s : State) (h : s.bounded) :
    (State.setSect i r s).bounded := h

@[simp] theorem State.modSect_bounded (i : Nat) (f : SectRec → SectRec) (s : State) (h : s.bounded) :
    (State.modSect i f s).bounded := h

@[simp] theorem State.setSects_bounded (l : List SectRec) (s : State) (h : s.bounded) :
    (State.setSects l s).bounded := h

@[simp] theorem State.setPairs_bounded (l : List PairRec) (s : State) (h : s.bounded) :
    (State.setPairs l s).bounded := h

@[simp] theorem State.setSubs_bounded (l : List SubRec) (s : State) (h : s.bounded) :
    (State.setSubs l s).bounded := h

@[simp] theorem State.setWaitList_bounded (l : List PermitRequest) (s : State) (h : s.bounded) :
    (State.setWaitList l s).bounded := h

@[simp] theorem State.setPermits_bounded (l : List PermitRec) (s : State) (h : s.bounded) :
    (State.setPermits l s).bounded := h

@[simp] theorem State.setLoads_bounded (l : List (Option LoadNote)) (s : State) (h : s.bounded) :
    (State.setLoads l s).bounded := h

@[simp] theorem State.setStation_bounded (i : Nat) (r : StationRec) (s : State) (h : s.bounded) :
    (State.setStation i r s).bounded := h

@[simp] theorem State.issueOrder_bounded (el : Nat) (d : OrderData) (s : State) (h : s.bounded) :
    (State.issueOrder el d s).bounded := h

@[simp] theorem State.refuse_bounded (tag : Byte) (c : RefusalCode) (s : State) (h : s.bounded) :
    (State.refuse tag c s).bounded := h

@[simp] theorem State.rxJoin_bounded (i : Nat) (mk : Bool → RxEntry) (s : State) (h : s.bounded) :
    (State.rxJoin i mk s).bounded := by
  unfold State.rxJoin
  split
  · exact h
  · next l hl =>
    have hb := h.link hl
    dsimp only
    split
    · exact State.setLink_bounded _ _ _ h hb
    · next hlt =>
      have h1 : l.rx.length + 1 ≤ Config.maxReceive := by omega
      split
      · exact State.report_bounded _ _ _ _ _
          (State.setLink_bounded _ _ _ h ⟨by simpa using h1, hb.2⟩)
      · exact State.setLink_bounded _ _ _ h ⟨by simpa using h1, hb.2⟩

@[simp] theorem State.rxAnnotate_bounded (i : Nat) (a : Annotation) (s : State) (h : s.bounded) :
    (State.rxAnnotate i a s).bounded := by
  unfold State.rxAnnotate
  simp (maxDischargeDepth := 30) [h]

@[simp] theorem State.choose_bounded (i : Nat) (l : LinkRec) (s : State) (h : s.bounded) (hl : l.bounded) :
    (State.choose i l s).bounded := by
  have hb := hl.2
  unfold State.choose
  split
  · next e rest he =>
    have := takeClass_length _ _ _ _ he
    exact State.setLink_bounded _ _ _ h ⟨hl.1, by simp only [LinkRec.load]; omega⟩
  · split
    · next e rest he =>
      have := takeClass_length _ _ _ _ he
      exact State.setLink_bounded _ _ _ h ⟨hl.1, by simp only [LinkRec.load]; omega⟩
    · split
      · split
        · exact State.setLink_bounded _ _ _ (State.setEntry_bounded _ _ h) hl
        · exact State.setLink_bounded _ _ _ h hl
      · split
        · exact h
        · split
          · next e rest he =>
            have := takeClass_length _ _ _ _ he
            exact State.setLink_bounded _ _ _ h ⟨hl.1, by simp only [LinkRec.load]; omega⟩
          · exact h

@[simp] theorem State.kick_bounded (i : Nat) (s : State) (h : s.bounded) :
    (State.kick i s).bounded := by
  unfold State.kick
  repeat' split
  all_goals repeat' first
    | exact h
    | exact h.link (by assumption)
    | (refine h.like (by assumption) ?_ ?_ <;> rfl)
    | (with_reducible refine foldl_bounded _ (fun t a ht => ?_) _ _ ?_)
    | exact ht
    | exact State.offer_bounded _ _ _ _ (by assumption) h
    | with_reducible apply State.choose_bounded

@[simp] theorem State.poll_bounded (i el : Nat) (s : State) (h : s.bounded) :
    (State.poll i el s).bounded := by
  unfold State.poll
  repeat' split
  all_goals repeat' first
    | exact h
    | exact h.link (by assumption)
    | (refine h.like (by assumption) ?_ ?_ <;> rfl)
    | (with_reducible refine foldl_bounded _ (fun t a ht => ?_) _ _ ?_)
    | exact ht
    | exact State.offer_bounded _ _ _ _ (by assumption) h
    | with_reducible apply State.setLink_bounded
    | with_reducible apply State.kick_bounded

@[simp] theorem State.pollSweep_bounded (i : Nat) (s : State) (h : s.bounded) :
    (State.pollSweep i s).bounded := by
  unfold State.pollSweep
  repeat' split
  all_goals repeat' first
    | exact h
    | exact h.link (by assumption)
    | (refine h.like (by assumption) ?_ ?_ <;> rfl)
    | (with_reducible refine foldl_bounded _ (fun t a ht => ?_) _ _ ?_)
    | exact ht
    | exact State.offer_bounded _ _ _ _ (by assumption) h
    | with_reducible apply State.poll_bounded

@[simp] theorem State.forward_bounded (i : Nat) (bytes : List Byte) (damaged : Bool) (s : State) (h : s.bounded) :
    (State.forward i bytes damaged s).bounded := by
  unfold State.forward
  repeat' split
  all_goals repeat' first
    | exact h
    | exact h.link (by assumption)
    | (refine h.like (by assumption) ?_ ?_ <;> rfl)
    | (with_reducible refine foldl_bounded _ (fun t a ht => ?_) _ _ ?_)
    | exact ht
    | exact State.offer_bounded _ _ _ _ (by assumption) h
    | with_reducible apply State.post_bounded
    | with_reducible apply State.setLink_bounded

@[simp] theorem State.withdrawTentative_bounded (i : Nat) (s : State) (h : s.bounded) :
    (State.withdrawTentative i s).bounded := by
  unfold State.withdrawTentative
  repeat' split
  all_goals repeat' first
    | exact h
    | exact h.link (by assumption)
    | (refine h.like (by assumption) ?_ ?_ <;> rfl)
    | (with_reducible refine foldl_bounded _ (fun t a ht => ?_) _ _ ?_)
    | exact ht
    | exact State.offer_bounded _ _ _ _ (by assumption) h
    | with_reducible apply State.post_bounded
    | with_reducible apply State.setLink_bounded

@[simp] theorem State.judgeComplete_bounded (i : Nat) (bytes : List Byte) (damaged : Bool) (s : State) (h : s.bounded) :
    (State.judgeComplete i bytes damaged s).bounded := by
  unfold State.judgeComplete
  repeat' split
  all_goals simp (maxDischargeDepth := 30) [h]

@[simp] theorem State.judgeTentative_bounded (i : Nat) (l : LinkRec) (bytes : List Byte) (damaged : Bool) (s : State) (h : s.bounded) (hl : l.bounded) :
    (State.judgeTentative i l bytes damaged s).bounded := by
  unfold State.judgeTentative
  have h1 : ({ l with errCheck := true } : LinkRec).bounded := hl
  have h2 : ({ l with errOverrun := true } : LinkRec).bounded := hl
  repeat' split
  all_goals simp (maxDischargeDepth := 30) [h, h1, h2]

@[simp] theorem State.telegramComplete_bounded (i : Nat) (bytes : List Byte) (damaged : Bool) (s : State) (h : s.bounded) :
    (State.telegramComplete i bytes damaged s).bounded := by
  unfold State.telegramComplete
  repeat' split
  all_goals repeat' first
    | exact h
    | exact h.link (by assumption)
    | (refine h.like (by assumption) ?_ ?_ <;> rfl)
    | (with_reducible refine foldl_bounded _ (fun t a ht => ?_) _ _ ?_)
    | exact ht
    | exact State.offer_bounded _ _ _ _ (by assumption) h
    | with_reducible apply State.setLink_bounded
    | with_reducible apply State.judgeComplete_bounded
    | with_reducible apply State.judgeTentative_bounded

@[simp] theorem State.fragment_bounded (i : Nat) (s : State) (h : s.bounded) :
    (State.fragment i s).bounded := by
  unfold State.fragment
  simp (maxDischargeDepth := 30) [h]

@[simp] theorem State.asmEffect_bounded (i : Nat) (e : AsmEvent) (s : State) (h : s.bounded) :
    (State.asmEffect i e s).bounded := by
  unfold State.asmEffect
  repeat' split
  all_goals simp (maxDischargeDepth := 30) [h]

@[simp] theorem State.feed_bounded (i : Nat) (c : Received) (s : State) (h : s.bounded) :
    (State.feed i c s).bounded := by
  unfold State.feed
  repeat' split
  all_goals repeat' first
    | exact h
    | exact h.link (by assumption)
    | (refine h.like (by assumption) ?_ ?_ <;> rfl)
    | (with_reducible refine foldl_bounded _ (fun t a ht => ?_) _ _ ?_)
    | exact ht
    | exact State.offer_bounded _ _ _ _ (by assumption) h
    | with_reducible apply State.setLink_bounded
    | with_reducible apply State.asmEffect_bounded

@[simp] theorem State.takeChar_bounded (i : Nat) (c : FieldChar) (s : State) (h : s.bounded) :
    (State.takeChar i c s).bounded := by
  unfold State.takeChar
  split
  · exact h
  · next l hl =>
    split
    · simp (maxDischargeDepth := 30) [h]
    · split
      · next b l' hc =>
        have hq := LinkRec.loopChar_queues _ _ _ hc
        exact State.feed_bounded _ _ _ (State.setLink_bounded _ _ _ h (h.like hl hq.1 hq.2))
      · exact h
    · exact h
    · exact h

@[simp] theorem State.loopRest_bounded (i : Nat) (s : State) (h : s.bounded) :
    (State.loopRest i s).bounded := by
  unfold State.loopRest
  repeat' split
  all_goals repeat' first
    | exact h
    | exact h.link (by assumption)
    | (refine h.like (by assumption) ?_ ?_ <;> rfl)
    | (with_reducible refine foldl_bounded _ (fun t a ht => ?_) _ _ ?_)
    | exact ht
    | exact State.offer_bounded _ _ _ _ (by assumption) h
    | with_reducible apply State.setLink_bounded
    | with_reducible apply State.feed_bounded

@[simp] theorem State.quiesce_bounded (i : Nat) (s : State) (h : s.bounded) :
    (State.quiesce i s).bounded := by
  unfold State.quiesce
  apply State.modLink_bounded
  · repeat' split
    all_goals simp (maxDischargeDepth := 30) [h]
  · intro l hl
    exact ⟨hl.1, by simp⟩

@[simp] theorem State.moveLink_bounded (i : Nat) (new : LinkState) (s : State) (h : s.bounded) :
    (State.moveLink i new s).bounded := by
  unfold State.moveLink
  repeat' split
  all_goals repeat' first
    | exact h
    | exact h.link (by assumption)
    | (refine h.like (by assumption) ?_ ?_ <;> rfl)
    | (with_reducible refine foldl_bounded _ (fun t a ht => ?_) _ _ ?_)
    | exact ht
    | exact State.offer_bounded _ _ _ _ (by assumption) h
    | with_reducible apply State.post_bounded
    | with_reducible apply State.report_bounded
    | with_reducible apply State.setLink_bounded

@[simp] theorem State.linkUp_bounded (i : Nat) (s : State) (h : s.bounded) :
    (State.linkUp i s).bounded := by
  unfold State.linkUp
  simp (maxDischargeDepth := 30) [h]

@[simp] theorem State.rxPop_bounded (i : Nat) (l : LinkRec) (rest : List RxEntry) (s : State) (h : s.bounded) (hl : ({ l with rx := rest } : LinkRec).bounded) :
    (State.rxPop i l rest s).bounded := by
  unfold State.rxPop
  have h1 : ({ l with rx := rest } : LinkRec).bounded := hl
  have h2 : ({ l with rx := rest, congested := false } : LinkRec).bounded := hl
  split
  · exact State.kick_bounded _ _ (State.setLink_bounded _ _ _ h h2)
  · exact State.setLink_bounded _ _ _ h h1

@[simp] theorem State.endHeld_bounded (e : MirrorEntry) (o : Order) (r : Result) (c : Cause) (s : State) (h : s.bounded) :
    (State.endHeld e o r c s).bounded := by
  unfold State.endHeld
  simp (maxDischargeDepth := 30) [h]

@[simp] theorem State.endLost_bounded (e e' : MirrorEntry) (r : Result) (c : Cause) (s : State) (h : s.bounded) :
    (State.endLost e e' r c s).bounded := by
  unfold State.endLost
  simp (maxDischargeDepth := 30) [h]

@[simp] theorem State.failAtIssue_bounded (el : Nat) (d : OrderData) (token : Nat) (r : Result) (s : State) (h : s.bounded) :
    (State.failAtIssue el d token r s).bounded := by
  unfold State.failAtIssue
  simp (maxDischargeDepth := 30) [h]

/-- R28: an order taken by a link leaves the bounds kept. -/
theorem State.offer_bounded (i : Nat) (e : TxEntry) (s t : State) (hs : s.offer i e = .taken t) (h : s.bounded) :
    t.bounded := by
  unfold State.offer at hs
  cases hl : s.links[i]? with
  | none => simp [hl] at hs
  | some l =>
    have hb := h.link hl
    simp only [hl] at hs
    split at hs
    · simp at hs
    · split at hs
      · next hlt =>
        cases hs
        refine State.setLink_bounded _ _ _ h ⟨hb.1, ?_⟩
        simp only [List.length_append, List.length_singleton]
        omega
      · split at hs
        · simp at hs
        · split at hs
          · next x rest he =>
            have := evictNewest_length _ _ _ _ he
            cases hs
            refine State.post_bounded _ _ (State.setLink_bounded _ _ _ h ⟨hb.1, ?_⟩)
            simp only [List.length_append, List.length_singleton]
            have := hb.2
            omega
          · split at hs
            · next x rest he =>
              have := evictNewest_length _ _ _ _ he
              cases hs
              refine State.post_bounded _ _ (State.setLink_bounded _ _ _ h ⟨hb.1, ?_⟩)
              simp only [List.length_append, List.length_singleton]
              have := hb.2
              omega
            · simp at hs

/-- R47: the order removed from the queue was in it, so the queue is no longer than before. -/
theorem State.replaceQueued_bounded (i token : Nat) (e : TxEntry) (s : State) (h : s.bounded)
    (hq : s.isQueued i token = true) : (s.replaceQueued i token e).bounded := by
  unfold State.isQueued at hq
  unfold State.replaceQueued
  refine ⟨h.1, ?_, h.2.2⟩
  intro x hx
  simp only [modLink_links] at hx
  obtain ⟨n, hn⟩ := List.getElem?_of_mem hx
  rw [List.getElem?_modify] at hn
  cases e0 : s.links[n]? with
  | none => simp [e0] at hn
  | some y =>
    have hy := h.2.1 y (List.mem_of_getElem? e0)
    simp only [e0, Option.map_eq_map, Option.map_some, Option.some.injEq] at hn
    subst hn
    split
    · next hi =>
      subst hi
      simp only [e0, Option.any_some, List.any_eq_true] at hq
      obtain ⟨z, hz, hzt⟩ := hq
      have hlt : (y.tx.filter (fun x => x.token != token)).length < y.tx.length := by
        apply List.length_filter_lt_length_iff_exists.mpr
        exact ⟨z, hz, by simpa using hzt⟩
      refine ⟨hy.1, ?_⟩
      have := hy.2
      simp only [List.length_append, List.length_singleton]
      omega
    · exact hy

@[simp] theorem State.startOrder_bounded (e : MirrorEntry) (d : OrderData) (token : Nat) (s : State) (h : s.bounded) :
    (State.startOrder e d token s).bounded := by
  unfold State.startOrder
  split
  · next e2 =>
    have h2 := State.offer_bounded _ _ _ _ e2 h
    simp (maxDischargeDepth := 30) [h2]
  · simp (maxDischargeDepth := 30) [h]

@[simp] theorem State.overtake_bounded (e : MirrorEntry) (o : Order) (d : OrderData) (token : Nat) (s : State) (h : s.bounded) :
    (State.overtake e o d token s).bounded := by
  unfold State.overtake
  split
  · next hq =>
    dsimp only
    exact State.posts_bounded _ _ (State.kick_bounded _ _ (State.setEntry_bounded _ _
      (State.replaceQueued_bounded _ _ _ _ h hq)))
  · split
    · next e2 =>
      have h2 := State.offer_bounded _ _ _ _ e2 h
      simp (maxDischargeDepth := 30) [h2]
    · simp (maxDischargeDepth := 30) [h]

@[simp] theorem State.wait_bounded (e : MirrorEntry) (d : OrderData) (token : Nat) (s : State) (h : s.bounded) :
    (State.wait e d token s).bounded := by
  unfold State.wait
  simp (maxDischargeDepth := 30) [h]

@[simp] theorem issue_bounded (el : Nat) (d : OrderData) (token : Nat) (s : State) (h : s.bounded) :
    (issue el d token s).bounded := by
  unfold issue
  repeat' split
  all_goals simp (maxDischargeDepth := 30) [h]

@[simp] theorem State.followBy_bounded (e : MirrorEntry) (w : Waiting) (c : Cause) (d : OrderData) (r : Result) (s : State)
    (h : s.bounded) : (State.followBy e w c d r s).bounded := by
  unfold State.followBy
  dsimp only
  split
  · next e2 =>
    have h2 := State.offer_bounded _ _ _ _ e2 h
    simp (maxDischargeDepth := 30) [h2]
  · simp (maxDischargeDepth := 30) [h]

@[simp] theorem follow_bounded (el : Nat) (c : Cause) (d : OrderData) (r : Result) (s : State) (h : s.bounded) :
    (follow el c d r s).bounded := by
  unfold follow
  repeat' split
  all_goals simp (maxDischargeDepth := 30) [h]

@[simp] theorem evicted_bounded (el token : Nat) (s : State) (h : s.bounded) :
    (evicted el token s).bounded := by
  unfold evicted
  repeat' split
  all_goals simp (maxDischargeDepth := 30) [h]

@[simp] theorem State.sentNotice_bounded (w : Sending) (looped : Bool) (s : State) (h : s.bounded) :
    (State.sentNotice w looped s).bounded := by
  unfold State.sentNotice
  repeat' split
  all_goals simp (maxDischargeDepth := 30) [h]

@[simp] theorem State.orderExpired_bounded (e : MirrorEntry) (r : Result) (s : State) (h : s.bounded) :
    (State.orderExpired e r s).bounded := by
  unfold State.orderExpired
  simp (maxDischargeDepth := 30) [h]

@[simp] theorem State.answerTimeout_bounded (el : Nat) (s : State) (h : s.bounded) :
    (State.answerTimeout el s).bounded := by
  unfold State.answerTimeout
  repeat' split
  all_goals simp (maxDischargeDepth := 30) [h]

@[simp] theorem State.execTimeout_bounded (el : Nat) (s : State) (h : s.bounded) :
    (State.execTimeout el s).bounded := by
  unfold State.execTimeout
  repeat' split
  all_goals simp (maxDischargeDepth := 30) [h]

@[simp] theorem State.noPush_bounded (el : Nat) (s : State) (h : s.bounded) :
    (State.noPush el s).bounded := by
  unfold State.noPush
  repeat' split
  all_goals simp (maxDischargeDepth := 30) [h]

@[simp] theorem State.elementSilent_bounded (el : Nat) (s : State) (h : s.bounded) :
    (State.elementSilent el s).bounded := by
  unfold State.elementSilent
  repeat' split
  all_goals simp (maxDischargeDepth := 30) [h]

@[simp] theorem State.stateSettled_bounded (e : MirrorEntry) (a : Authority) (v : Value) (carried : List (Option Nat)) (linkUp : Bool) (s : State) (h : s.bounded) :
    (State.stateSettled e a v carried linkUp s).bounded := by
  unfold State.stateSettled
  simp (maxDischargeDepth := 30) [h]

@[simp] theorem State.push_bounded (e : MirrorEntry) (o : Order) (a : Authority) (v : Value) (s : State) (h : s.bounded) :
    (State.push e o a v s).bounded := by
  unfold State.push
  dsimp only
  repeat' split
  · simp (maxDischargeDepth := 30) [h]
  · simp (maxDischargeDepth := 30) [h]
  · next e2 =>
    have h2 := State.offer_bounded _ _ _ _ e2 h
    simp (maxDischargeDepth := 30) [h2]
  · simp (maxDischargeDepth := 30) [h]

@[simp] theorem State.stateTelegram_bounded (e : MirrorEntry) (a : Authority) (v : Value) (s : State) (h : s.bounded) :
    (State.stateTelegram e a v s).bounded := by
  unfold State.stateTelegram
  repeat' split
  all_goals simp (maxDischargeDepth := 30) [h]

@[simp] theorem State.eventTelegram_bounded (e : MirrorEntry) (code train : Nat) (v : Option Value) (forwarded : Bool) (s : State) (h : s.bounded) :
    (State.eventTelegram e code train v forwarded s).bounded := by
  unfold State.eventTelegram
  repeat' split
  all_goals simp (maxDischargeDepth := 30) [h]

@[simp] theorem State.answerTaken_bounded (e : MirrorEntry) (o : Order) (code reason : Nat) (s : State) (h : s.bounded) :
    (State.answerTaken e o code reason s).bounded := by
  unfold State.answerTaken
  repeat' split
  all_goals simp (maxDischargeDepth := 30) [h]

@[simp] theorem State.answerTelegram_bounded (e : MirrorEntry) (seq code reason : Nat) (s : State) (h : s.bounded) :
    (State.answerTelegram e seq code reason s).bounded := by
  unfold State.answerTelegram
  repeat' split
  all_goals simp (maxDischargeDepth := 30) [h]

@[simp] theorem State.executedTaken_bounded (e : MirrorEntry) (o : Order) (v : Value) (s : State) (h : s.bounded) :
    (State.executedTaken e o v s).bounded := by
  unfold State.executedTaken
  simp (maxDischargeDepth := 30) [h]

@[simp] theorem State.executedTelegram_bounded (e : MirrorEntry) (seq : Nat) (v : Value) (s : State) (h : s.bounded) :
    (State.executedTelegram e seq v s).bounded := by
  unfold State.executedTelegram
  repeat' split
  all_goals simp (maxDischargeDepth := 30) [h]

@[simp] theorem State.inconsistent_bounded (i : Nat) (t : Telegram) (check : Nat) (s : State) (h : s.bounded) :
    (State.inconsistent i t check s).bounded := by
  unfold State.inconsistent
  simp (maxDischargeDepth := 30) [h]

@[simp] theorem State.takeTelegram_bounded (i : Nat) (t : Telegram) (forwarded looped : Bool) (s : State) (h : s.bounded) :
    (State.takeTelegram i t forwarded looped s).bounded := by
  unfold State.takeTelegram
  repeat' split
  all_goals simp (maxDischargeDepth := 30) [h]

@[simp] theorem State.takeEntry_bounded (i : Nat) (s : State) (h : s.bounded) :
    (State.takeEntry i s).bounded := by
  unfold State.takeEntry
  split
  · exact h
  · next l hl =>
    have hb := h.link hl
    split
    · exact h
    · next a looped rest hr =>
      refine State.modLink_bounded _ _ _ (State.rxPop_bounded _ _ _ _ h ⟨?_, hb.2⟩) ?_
      · have := hb.1
        simp only [hr, List.length_cons] at this
        exact Nat.le_of_succ_le this
      · intro x hx
        cases a <;> exact hx
    · next t fwd looped rest hr =>
      refine State.takeTelegram_bounded _ _ _ _ _ (State.rxPop_bounded _ _ _ _ h ⟨?_, hb.2⟩)
      have := hb.1
      simp only [hr, List.length_cons] at this
      exact Nat.le_of_succ_le this

@[simp] theorem State.loseElements_bounded (i : Nat) (orders : List TxEntry) (s : State) (h : s.bounded) :
    (State.loseElements i orders s).bounded := by
  unfold State.loseElements
  exact h

@[simp] theorem State.leaveLink_bounded (i : Nat) (new : LinkState) (s : State) (h : s.bounded) :
    (State.leaveLink i new s).bounded := by
  unfold State.leaveLink
  exact State.loseElements_bounded _ _ _ (State.modLink_bounded _ _ _ (State.quiesce_bounded _ _ h) (fun l hl => hl))

@[simp] theorem pollAll_bounded (s : State) (h : s.bounded) :
    (pollAll s).bounded := by
  unfold pollAll
  repeat' split
  all_goals repeat' first
    | exact h
    | exact h.link (by assumption)
    | (refine h.like (by assumption) ?_ ?_ <;> rfl)
    | (with_reducible refine foldl_bounded _ (fun t a ht => ?_) _ _ ?_)
    | exact ht
    | exact State.offer_bounded _ _ _ _ (by assumption) h
    | with_reducible apply State.poll_bounded

@[simp] theorem State.ttRelease_bounded (train : Nat) (s : State) (h : s.bounded) :
    (State.ttRelease train s).bounded := by
  unfold State.ttRelease
  split
  · exact State.post_bounded _ _ (State.setEntries_bounded _ _ h (by simp [unbind]))
  · exact h

@[simp] theorem State.ttBind_bounded (train trip stop : Nat) (s : State) (h : s.bounded) :
    (State.ttBind train trip stop s).bounded := by
  unfold State.ttBind
  repeat' split
  · exact h
  · exact State.setEntries_bounded _ _ (State.ttRelease_bounded _ _ h) (by simp)
  · exact h

@[simp] theorem State.ttDepart_bounded (train stop : Nat) (trip : Option Nat) (d : Nat) (s : State) (h : s.bounded) :
    (State.ttDepart train stop trip d s).bounded := by
  unfold State.ttDepart
  exact ⟨h.1, h.2.1, h.2.2.1, Nat.le_trans (List.length_filter_le _ _) h.2.2.2⟩

@[simp] theorem expire_bounded (s : State) (h : s.bounded) :
    (expire s).bounded := by
  unfold expire
  exact foldl_bounded _ (fun s e hs => State.report_bounded _ _ _ _ _ hs) _ _
    (State.setEntries_bounded _ _ h (List.length_filter_le _ _))

@[simp] theorem State.setTrainLoad_bounded (slot : Nat) (t : Train) (s : State) (h : s.bounded) :
    (State.setTrainLoad slot t s).bounded := by
  unfold State.setTrainLoad
  simp (maxDischargeDepth := 30) [h]

@[simp] theorem State.endStartWindow_bounded (t : Train) (s : State) (h : s.bounded) :
    (State.endStartWindow t s).bounded := by
  unfold State.endStartWindow
  repeat' split
  all_goals simp (maxDischargeDepth := 30) [h]

@[simp] theorem tentativeEvent_bounded (link el : Nat) (arrival : Bool) (train : Nat) (s : State) (h : s.bounded) :
    (tentativeEvent link el arrival train s).bounded := by
  unfold tentativeEvent
  try dsimp only
  repeat' split
  all_goals simp (maxDischargeDepth := 30) [h]

@[simp] theorem State.voidEvents_bounded (train : Nat) (s : State) (h : s.bounded) :
    (State.voidEvents train s).bounded := by
  unfold State.voidEvents
  exact h

@[simp] theorem State.acceptArrival_bounded (slot : Nat) (t : Train) (stop a : Nat) (s : State) (h : s.bounded) :
    (State.acceptArrival slot t stop a s).bounded := by
  unfold State.acceptArrival
  repeat' split
  all_goals simp (maxDischargeDepth := 30) [h]

@[simp] theorem State.conflict_bounded (slot : Nat) (t : Train) (stop : Nat) (s : State) (h : s.bounded) :
    (State.conflict slot t stop s).bounded := by
  unfold State.conflict
  simp (maxDischargeDepth := 30) [h]

@[simp] theorem State.settleArrival_bounded (slot : Nat) (t : Train) (stop : Nat) (s : State) (h : s.bounded) :
    (State.settleArrival slot t stop s).bounded := by
  unfold State.settleArrival
  repeat' split
  all_goals simp (maxDischargeDepth := 30) [h]

@[simp] theorem State.confirmDeparture_bounded (slot : Nat) (t : Train) (stop d : Nat) (s : State) (h : s.bounded) :
    (State.confirmDeparture slot t stop d s).bounded := by
  have h1 := State.setTrain_bounded slot
    (t.departed d (s.departureLateness t stop d) (s.inSeconds s.params.startWindow)) _
    (State.ttDepart_bounded t.id stop t.trip d s h)
  unfold State.confirmDeparture
  exact State.posts_bounded _ _ h1

@[simp] theorem State.giveUpStand_bounded (slot : Nat) (t : Train) (s : State) (h : s.bounded) :
    (State.giveUpStand slot t s).bounded := by
  unfold State.giveUpStand
  simp (maxDischargeDepth := 30) [h]

@[simp] theorem positionReport_bounded (train stop : Nat) (was : Option Nat) (jump : Bool) (s : State) (h : s.bounded) :
    (positionReport train stop was jump s).bounded := by
  unfold positionReport
  repeat' split
  all_goals simp (maxDischargeDepth := 30) [h]

@[simp] theorem State.unknownTrain_bounded (train stop : Nat) (s : State) (h : s.bounded) :
    (State.unknownTrain train stop s).bounded := by
  unfold State.unknownTrain
  simp (maxDischargeDepth := 30) [h]

@[simp] theorem State.judgeArrival_bounded (train stop : Nat) (s : State) (h : s.bounded) :
    (State.judgeArrival train stop s).bounded := by
  unfold State.judgeArrival
  repeat' split
  all_goals simp (maxDischargeDepth := 30) [h]

@[simp] theorem State.judgeDeparture_bounded (train stop : Nat) (s : State) (h : s.bounded) :
    (State.judgeDeparture train stop s).bounded := by
  unfold State.judgeDeparture
  repeat' split
  all_goals simp (maxDischargeDepth := 30) [h]

@[simp] theorem confirmedEvent_bounded (arrival : Bool) (train stop : Nat) (s : State) (h : s.bounded) :
    (confirmedEvent arrival train stop s).bounded := by
  unfold confirmedEvent
  repeat' split
  all_goals simp (maxDischargeDepth := 30) [h]

@[simp] theorem State.endApplied_bounded (slot : Nat) (t : Train) (arrival confirmed : Bool) (s : State) (h : s.bounded) :
    (State.endApplied slot t arrival confirmed s).bounded := by
  unfold State.endApplied
  repeat' split
  all_goals simp (maxDischargeDepth := 30) [h]

@[simp] theorem tentativeEnd_bounded (link : Nat) (confirmed : Bool) (s : State) (h : s.bounded) :
    (tentativeEnd link confirmed s).bounded := by
  unfold tentativeEnd
  try dsimp only
  repeat' split
  all_goals simp (maxDischargeDepth := 30) [h]

@[simp] theorem State.reconcile_bounded (v : ValueNotice) (s : State) (h : s.bounded) :
    (State.reconcile v s).bounded := by
  unfold State.reconcile
  repeat' split
  all_goals simp (maxDischargeDepth := 30) [h]

@[simp] theorem permitGiven_bounded (train level : Nat) (s : State) (h : s.bounded) :
    (permitGiven train level s).bounded := by
  unfold permitGiven
  repeat' split
  all_goals simp (maxDischargeDepth := 30) [h]

@[simp] theorem permitReturned_bounded (train : Nat) (s : State) (h : s.bounded) :
    (permitReturned train s).bounded := by
  unfold permitReturned
  repeat' split
  all_goals simp (maxDischargeDepth := 30) [h]

@[simp] theorem State.startWindowDeadline_bounded (slot : Nat) (s : State) (h : s.bounded) :
    (State.startWindowDeadline slot s).bounded := by
  unfold State.startWindowDeadline
  repeat' split
  all_goals simp (maxDischargeDepth := 30) [h]

@[simp] theorem State.removeTrain_bounded (slot : Nat) (t : Train) (s : State) (h : s.bounded) :
    (State.removeTrain slot t s).bounded := by
  unfold State.removeTrain
  simp (maxDischargeDepth := 30) [h]

@[simp] theorem slotFreed_bounded (slot train : Nat) (s : State) (h : s.bounded) :
    (slotFreed slot train s).bounded := by
  unfold slotFreed
  simp (maxDischargeDepth := 30) [h]

@[simp] theorem State.requestPermit_bounded (slot : Nat) (st : Stand) (s : State) (h : s.bounded) :
    (State.requestPermit slot st s).bounded := by
  unfold State.requestPermit
  simp (maxDischargeDepth := 30) [h]

@[simp] theorem State.issueRevoke_bounded (slot : Nat) (st : Stand) (s : State) (h : s.bounded) :
    (State.issueRevoke slot st s).bounded := by
  unfold State.issueRevoke
  simp (maxDischargeDepth := 30) [h]

@[simp] theorem State.becameHeld_bounded (slot : Nat) (st : Stand) (s : State) (h : s.bounded) :
    (State.becameHeld slot st s).bounded := by
  unfold State.becameHeld
  repeat' split
  all_goals simp (maxDischargeDepth := 30) [h]

@[simp] theorem State.becameFree_bounded (slot : Nat) (st : Stand) (s : State) (h : s.bounded) :
    (State.becameFree slot st s).bounded := by
  unfold State.becameFree
  repeat' split
  all_goals simp (maxDischargeDepth := 30) [h]

@[simp] theorem State.holdChange_bounded (slot : Nat) (before : Bool) (st : Stand) (s : State) (h : s.bounded) :
    (State.holdChange slot before st s).bounded := by
  unfold State.holdChange
  try dsimp only
  repeat' split
  all_goals simp (maxDischargeDepth := 30) [h]

@[simp] theorem recompute_bounded (slot : Nat) (s : State) (h : s.bounded) :
    (recompute slot s).bounded := by
  unfold recompute
  repeat' split
  all_goals simp (maxDischargeDepth := 30) [h]

/-- An act on every stand keeps the bounds if the act on one stand does. -/
theorem State.eachStand_bounded (act : Nat → State → State) (s : State) (ha : ∀ i t, t.bounded → (act i t).bounded)
    (h : s.bounded) : (s.eachStand act).bounded := foldl_bounded _ (fun t i => ha i t) _ _ h

@[simp] theorem sectChanged_bounded (sect : Nat) (st : SectState) (low : Bool) (s : State) (h : s.bounded) :
    (sectChanged sect st low s).bounded := by
  unfold sectChanged
  exact State.eachStand_bounded _ _ recompute_bounded h

@[simp] theorem heldStations_bounded (set : List Nat) (s : State) (h : s.bounded) :
    (heldStations set s).bounded := by
  unfold heldStations
  exact State.eachStand_bounded _ _ recompute_bounded h

@[simp] theorem requestRemoved_bounded (train : Nat) (st : SectState) (low : Bool) (s : State) (h : s.bounded) :
    (requestRemoved train st low s).bounded := by
  unfold requestRemoved
  repeat' split
  all_goals simp (maxDischargeDepth := 30) [h]

@[simp] theorem State.holdTrain_bounded (slot : Nat) (s : State) (h : s.bounded) :
    (State.holdTrain slot s).bounded := by
  unfold State.holdTrain
  repeat' split
  all_goals simp (maxDischargeDepth := 30) [h]

@[simp] theorem State.unholdTrain_bounded (slot : Nat) (s : State) (h : s.bounded) :
    (State.unholdTrain slot s).bounded := by
  unfold State.unholdTrain
  repeat' split
  all_goals simp (maxDischargeDepth := 30) [h]

@[simp] theorem standTentative_bounded (slot : Nat) (s : State) (h : s.bounded) :
    (standTentative slot s).bounded := by
  unfold standTentative
  repeat' split
  all_goals simp (maxDischargeDepth := 30) [h]

@[simp] theorem standWithdrawn_bounded (slot : Nat) (s : State) (h : s.bounded) :
    (standWithdrawn slot s).bounded := by
  unfold standWithdrawn
  simp (maxDischargeDepth := 30) [h]

@[simp] theorem State.startDwelling_bounded (slot train : Nat) (st : Stand) (pl : Plan) (s : State) (h : s.bounded) :
    (State.startDwelling slot train st pl s).bounded := by
  unfold State.startDwelling
  simp (maxDischargeDepth := 30) [h]

@[simp] theorem State.arrivedStand_bounded (slot : Nat) (t : Train) (st : Stand) (s : State) (h : s.bounded) :
    (State.arrivedStand slot t st s).bounded := by
  unfold State.arrivedStand
  repeat' split
  all_goals simp (maxDischargeDepth := 30) [h]

@[simp] theorem standArrived_bounded (slot : Nat) (s : State) (h : s.bounded) :
    (standArrived slot s).bounded := by
  unfold standArrived
  repeat' split
  all_goals simp (maxDischargeDepth := 30) [h]

@[simp] theorem due_bounded (slot : Nat) (s : State) (h : s.bounded) :
    (due slot s).bounded := by
  unfold due
  repeat' split
  all_goals simp (maxDischargeDepth := 30) [h]

@[simp] theorem State.issueRelease_bounded (slot level : Nat) (st : Stand) (s : State) (h : s.bounded) :
    (State.issueRelease slot level st s).bounded := by
  unfold State.issueRelease
  simp (maxDischargeDepth := 30) [h]

@[simp] theorem State.takeGrant_bounded (slot train t : Nat) (st : Stand) (s : State) (h : s.bounded) :
    (State.takeGrant slot train t st s).bounded := by
  unfold State.takeGrant
  repeat' split
  all_goals simp (maxDischargeDepth := 30) [h]

@[simp] theorem granted_bounded (train t : Nat) (s : State) (h : s.bounded) :
    (granted train t s).bounded := by
  unfold granted
  repeat' split
  all_goals simp (maxDischargeDepth := 30) [h]

@[simp] theorem State.dwellOutcome_bounded (slot : Nat) (st : Stand) (r : Result) (s : State) (h : s.bounded) :
    (State.dwellOutcome slot st r s).bounded := by
  unfold State.dwellOutcome
  repeat' split
  all_goals simp (maxDischargeDepth := 30) [h]

@[simp] theorem State.afterFailure_bounded (slot : Nat) (st : Stand) (s : State) (h : s.bounded) :
    (State.afterFailure slot st s).bounded := by
  unfold State.afterFailure
  repeat' split
  all_goals simp (maxDischargeDepth := 30) [h]

@[simp] theorem State.releaseFailure_bounded (slot : Nat) (st : Stand) (r : Result) (s : State) (h : s.bounded) :
    (State.releaseFailure slot st r s).bounded := by
  unfold State.releaseFailure
  simp (maxDischargeDepth := 30) [h]

@[simp] theorem State.releaseOutcome_bounded (slot : Nat) (st : Stand) (r : Result) (s : State) (h : s.bounded) :
    (State.releaseOutcome slot st r s).bounded := by
  unfold State.releaseOutcome
  repeat' split
  all_goals simp (maxDischargeDepth := 30) [h]

@[simp] theorem State.revokeReached_bounded (slot : Nat) (st : Stand) (s : State) (h : s.bounded) :
    (State.revokeReached slot st s).bounded := by
  unfold State.revokeReached
  simp (maxDischargeDepth := 30) [h]

@[simp] theorem State.revokeOutcome_bounded (slot : Nat) (st : Stand) (r : Result) (s : State) (h : s.bounded) :
    (State.revokeOutcome slot st r s).bounded := by
  unfold State.revokeOutcome
  repeat' split
  all_goals simp (maxDischargeDepth := 30) [h]

@[simp] theorem State.earlierOutcome_bounded (o : OutcomeMsg) (s : State) (h : s.bounded) :
    (State.earlierOutcome o s).bounded := by
  unfold State.earlierOutcome
  repeat' split
  all_goals simp (maxDischargeDepth := 30) [h]

@[simp] theorem State.platformOutcome_bounded (o : OutcomeMsg) (s : State) (h : s.bounded) :
    (State.platformOutcome o s).bounded := by
  unfold State.platformOutcome
  repeat' split
  all_goals simp (maxDischargeDepth := 30) [h]

@[simp] theorem standDeparted_bounded (slot train : Nat) (late : Option Int) (trip p : Option Nat) (s : State) (h : s.bounded) :
    (standDeparted slot train late trip p s).bounded := by
  unfold standDeparted
  simp (maxDischargeDepth := 30) [h]

@[simp] theorem State.endStandRecord_bounded (slot train : Nat) (s : State) (h : s.bounded) :
    (State.endStandRecord slot train s).bounded := by
  unfold State.endStandRecord
  repeat' split
  all_goals simp (maxDischargeDepth := 30) [h]

@[simp] theorem standEnded_bounded (slot : Nat) (s : State) (h : s.bounded) :
    (standEnded slot s).bounded := by
  unfold standEnded
  simp (maxDischargeDepth := 30) [h]

@[simp] theorem trainGone_bounded (slot train : Nat) (s : State) (h : s.bounded) :
    (trainGone slot train s).bounded := by
  unfold trainGone
  simp (maxDischargeDepth := 30) [h]

@[simp] theorem State.planStanding_bounded (slot : Nat) (t : Train) (st : Stand) (s : State) (h : s.bounded) :
    (State.planStanding slot t st s).bounded := by
  unfold State.planStanding
  repeat' split
  all_goals simp (maxDischargeDepth := 30) [h]

@[simp] theorem startStand_bounded (slot : Nat) (s : State) (h : s.bounded) :
    (startStand slot s).bounded := by
  unfold startStand
  repeat' split
  all_goals simp (maxDischargeDepth := 30) [h]

@[simp] theorem resumeStand_bounded (slot : Nat) (s : State) (h : s.bounded) :
    (resumeStand slot s).bounded := by
  unfold resumeStand
  repeat' split
  all_goals simp (maxDischargeDepth := 30) [h]

@[simp] theorem State.standDown_bounded (slot : Nat) (st : Stand) (phase : Option Phase) (s : State) (h : s.bounded) :
    (State.standDown slot st phase s).bounded := by
  unfold State.standDown
  simp (maxDischargeDepth := 30) [h]

@[simp] theorem suspendStand_bounded (slot : Nat) (s : State) (h : s.bounded) :
    (suspendStand slot s).bounded := by
  unfold suspendStand
  repeat' split
  all_goals simp (maxDischargeDepth := 30) [h]

@[simp] theorem endStand_bounded (slot : Nat) (s : State) (h : s.bounded) :
    (endStand slot s).bounded := by
  unfold endStand
  repeat' split
  all_goals simp (maxDischargeDepth := 30) [h]

@[simp] theorem State.carrierReturn_bounded (i : Nat) (s : State) (h : s.bounded) :
    (State.carrierReturn i s).bounded := by
  unfold State.carrierReturn
  repeat' split
  all_goals repeat' first
    | exact h
    | exact h.link (by assumption)
    | (refine h.like (by assumption) ?_ ?_ <;> rfl)
    | (with_reducible refine foldl_bounded _ (fun t a ht => ?_) _ _ ?_)
    | exact ht
    | exact State.offer_bounded _ _ _ _ (by assumption) h
    | with_reducible apply State.setLink_bounded
    | with_reducible apply State.linkUp_bounded

@[simp] theorem State.carrierLoss_bounded (i : Nat) (s : State) (h : s.bounded) :
    (State.carrierLoss i s).bounded := by
  unfold State.carrierLoss
  repeat' split
  all_goals repeat' first
    | exact h
    | exact h.link (by assumption)
    | (refine h.like (by assumption) ?_ ?_ <;> rfl)
    | (with_reducible refine foldl_bounded _ (fun t a ht => ?_) _ _ ?_)
    | exact ht
    | exact State.offer_bounded _ _ _ _ (by assumption) h
    | with_reducible apply State.posts_bounded
    | with_reducible apply State.setLink_bounded
    | with_reducible apply State.leaveLink_bounded

@[simp] theorem State.gapTimeout_bounded (i : Nat) (s : State) (h : s.bounded) :
    (State.gapTimeout i s).bounded := by
  unfold State.gapTimeout
  repeat' split
  all_goals repeat' first
    | exact h
    | exact h.link (by assumption)
    | (refine h.like (by assumption) ?_ ?_ <;> rfl)
    | (with_reducible refine foldl_bounded _ (fun t a ht => ?_) _ _ ?_)
    | exact ht
    | exact State.offer_bounded _ _ _ _ (by assumption) h
    | with_reducible apply State.reach_bounded
    | with_reducible apply State.setLink_bounded
    | with_reducible apply State.fragment_bounded

@[simp] theorem State.telegramSent_bounded (i : Nat) (s : State) (h : s.bounded) :
    (State.telegramSent i s).bounded := by
  unfold State.telegramSent
  repeat' split
  · exact h
  · exact h
  · exact State.kick_bounded _ _ (State.sentNotice_bounded _ _ _ (State.modLink_bounded _ _ _
      (State.loopRest_bounded _ _ h) (fun l hl => hl)))

@[simp] theorem State.setStates_bounded (g : List Nat) (new : SectState) (s : State) (h : s.bounded) :
    (State.setStates g new s).bounded := by
  unfold State.setStates
  repeat' split
  all_goals repeat' first
    | exact h
    | exact h.link (by assumption)
    | (refine h.like (by assumption) ?_ ?_ <;> rfl)
    | (with_reducible refine foldl_bounded _ (fun t a ht => ?_) _ _ ?_)
    | exact ht
    | exact State.offer_bounded _ _ _ _ (by assumption) h
    | with_reducible apply State.modSect_bounded

@[simp] theorem State.changeTo_bounded (g : List Nat) (new : SectState) (s : State) (h : s.bounded) :
    (State.changeTo g new s).bounded := by
  unfold State.changeTo
  simp (maxDischargeDepth := 30) [h]

@[simp] theorem State.setSeq_bounded (base : Nat) (q : Option Sequence) (s : State) (h : s.bounded) :
    (State.setSeq base q s).bounded := by
  unfold State.setSeq
  simp (maxDischargeDepth := 30) [h]

@[simp] theorem State.dropRequests_bounded (i : Nat) (s : State) (h : s.bounded) :
    (State.dropRequests i s).bounded := by
  unfold State.dropRequests
  simp (maxDischargeDepth := 30) [h]

@[simp] theorem leftLive_bounded (i : Nat) (s : State) (h : s.bounded) :
    (leftLive i s).bounded := by
  unfold leftLive
  simp (maxDischargeDepth := 30) [h]

@[simp] theorem becameLive_bounded (i : Nat) (s : State) (h : s.bounded) :
    (becameLive i s).bounded := by
  unfold becameLive
  simp (maxDischargeDepth := 30) [h]

@[simp] theorem State.recount_bounded (s : State) (h : s.bounded) :
    (State.recount s).bounded := by
  unfold State.recount
  simp (maxDischargeDepth := 30) [h]

@[simp] theorem State.recountAndExamine_bounded (s : State) (h : s.bounded) :
    (State.recountAndExamine s).bounded := by
  unfold State.recountAndExamine
  repeat' split
  all_goals simp (maxDischargeDepth := 30) [h]

@[simp] theorem State.setLoad_bounded (slot : Nat) (n : Option LoadNote) (s : State) (h : s.bounded) :
    (State.setLoad slot n s).bounded := by
  unfold State.setLoad
  simp (maxDischargeDepth := 30) [h]

@[simp] theorem State.unstrand_bounded (slot : Nat) (keep : Option Nat) (s : State) (h : s.bounded) :
    (State.unstrand slot keep s).bounded := by
  unfold State.unstrand
  repeat' split
  all_goals repeat' first
    | exact h
    | exact h.link (by assumption)
    | (refine h.like (by assumption) ?_ ?_ <;> rfl)
    | (with_reducible refine foldl_bounded _ (fun t a ht => ?_) _ _ ?_)
    | exact ht
    | exact State.offer_bounded _ _ _ _ (by assumption) h
    | with_reducible apply State.modSect_bounded

@[simp] theorem State.strand_bounded (slot : Nat) (i : Option Nat) (s : State) (h : s.bounded) :
    (State.strand slot i s).bounded := by
  unfold State.strand
  repeat' split
  all_goals simp (maxDischargeDepth := 30) [h]

@[simp] theorem load_bounded (slot : Nat) (n : LoadNote) (s : State) (h : s.bounded) :
    (load slot n s).bounded := by
  unfold load
  simp (maxDischargeDepth := 30) [h]

@[simp] theorem unload_bounded (slot train : Nat) (s : State) (h : s.bounded) :
    (unload slot train s).bounded := by
  unfold unload
  simp (maxDischargeDepth := 30) [h]

@[simp] theorem State.countStart_bounded (train : Nat) (s : State) (h : s.bounded) :
    (State.countStart train s).bounded := by
  unfold State.countStart
  simp (maxDischargeDepth := 30) [h]

@[simp] theorem State.grant_bounded (r : PermitRequest) (s : State) (h : s.bounded) :
    (State.grant r s).bounded := by
  unfold State.grant
  simp (maxDischargeDepth := 30) [h]

@[simp] theorem walk_bounded (trains : List Nat) (s : State) (h : s.bounded) :
    (walk trains s).bounded := by
  unfold walk
  repeat' split
  all_goals simp (maxDischargeDepth := 30) [h]

@[simp] theorem reexamine_bounded (s : State) (h : s.bounded) :
    (reexamine s).bounded := by
  unfold reexamine
  simp (maxDischargeDepth := 30) [h]

@[simp] theorem permitRequest_bounded (train i : Nat) (s : State) (h : s.bounded) :
    (permitRequest train i s).bounded := by
  unfold permitRequest
  repeat' split
  all_goals simp (maxDischargeDepth := 30) [h]

@[simp] theorem permitWithdraw_bounded (train : Nat) (s : State) (h : s.bounded) :
    (permitWithdraw train s).bounded := by
  unfold permitWithdraw
  repeat' split
  all_goals simp (maxDischargeDepth := 30) [h]

@[simp] theorem permitEnded_bounded (train : Nat) (s : State) (h : s.bounded) :
    (permitEnded train s).bounded := by
  unfold permitEnded
  simp (maxDischargeDepth := 30) [h]

@[simp] theorem State.permitWaitLong_bounded (train : Nat) (s : State) (h : s.bounded) :
    (State.permitWaitLong train s).bounded := by
  unfold State.permitWaitLong
  repeat' split
  all_goals simp (maxDischargeDepth := 30) [h]

@[simp] theorem openBreaker_bounded (el : Nat) (s : State) (h : s.bounded) :
    (openBreaker el s).bounded := by
  unfold openBreaker
  repeat' split
  all_goals simp (maxDischargeDepth := 30) [h]

@[simp] theorem State.isolate_bounded (i : Nat) (kind : IsoKind) (ordered : List Nat) (mustRead : Bool) (after : List Notice) (s : State) (h : s.bounded) :
    (State.isolate i kind ordered mustRead after s).bounded := by
  unfold State.isolate
  simp (maxDischargeDepth := 30) [h]

@[simp] theorem State.isolateHost_bounded (i : Nat) (s : State) (h : s.bounded) :
    (State.isolateHost i s).bounded := by
  unfold State.isolateHost
  repeat' split
  all_goals simp (maxDischargeDepth := 30) [h]

@[simp] theorem isolationCheck_bounded (base : Nat) (s : State) (h : s.bounded) :
    (isolationCheck base s).bounded := by
  unfold isolationCheck
  repeat' split
  all_goals simp (maxDischargeDepth := 30) [h]

@[simp] theorem State.abort_bounded (base : Nat) (c : AbortCause) (s : State) (h : s.bounded) :
    (State.abort base c s).bounded := by
  unfold State.abort
  repeat' split
  all_goals simp (maxDischargeDepth := 30) [h]

@[simp] theorem State.chargeFailure_bounded (base named : Nat) (ordered : List Nat) (s : State) (h : s.bounded) :
    (State.chargeFailure base named ordered s).bounded := by
  unfold State.chargeFailure
  simp (maxDischargeDepth := 30) [h]

@[simp] theorem State.trip_bounded (i : Nat) (s : State) (h : s.bounded) :
    (State.trip i s).bounded := by
  unfold State.trip
  simp (maxDischargeDepth := 30) [h]

@[simp] theorem State.takeDerived_bounded (i : Nat) (d : Derived) (s : State) (h : s.bounded) :
    (State.takeDerived i d s).bounded := by
  unfold State.takeDerived
  repeat' split
  all_goals simp (maxDischargeDepth := 30) [h]

@[simp] theorem derive_bounded (i : Nat) (s : State) (h : s.bounded) :
    (derive i s).bounded := by
  unfold derive
  repeat' split
  all_goals simp (maxDischargeDepth := 30) [h]

@[simp] theorem demandAct_bounded (i : Nat) (s : State) (h : s.bounded) :
    (demandAct i s).bounded := by
  unfold demandAct
  repeat' split
  all_goals simp (maxDischargeDepth := 30) [h]

@[simp] theorem demands_bounded (set : List Nat) (s : State) (h : s.bounded) :
    (demands set s).bounded := by
  unfold demands
  simp (maxDischargeDepth := 30) [h]

@[simp] theorem State.prechargeFirst_bounded (base named : Nat) (ordered : List Nat) (s : State) (h : s.bounded) :
    (State.prechargeFirst base named ordered s).bounded := by
  unfold State.prechargeFirst
  repeat' split
  all_goals simp (maxDischargeDepth := 30) [h]

@[simp] theorem State.firstStep_bounded (base named : Nat) (s : State) (h : s.bounded) :
    (State.firstStep base named s).bounded := by
  unfold State.firstStep
  repeat' split
  all_goals simp (maxDischargeDepth := 30) [h]

@[simp] theorem nextClose_bounded (base : Nat) (s : State) (h : s.bounded) :
    (nextClose base s).bounded := by
  unfold nextClose
  repeat' split
  all_goals simp (maxDischargeDepth := 30) [h]

@[simp] theorem State.prechargeExpiry_bounded (i : Nat) (s : State) (h : s.bounded) :
    (State.prechargeExpiry i s).bounded := by
  unfold State.prechargeExpiry
  try dsimp only
  repeat' split
  all_goals simp (maxDischargeDepth := 30) [h]

@[simp] theorem State.closeReached_bounded (base el named : Nat) (step : EnergizeStep) (ordered : List Nat) (m v : Option Nat) (s : State) (h : s.bounded) :
    (State.closeReached base el named step ordered m v s).bounded := by
  unfold State.closeReached
  try dsimp only
  repeat' split
  all_goals simp (maxDischargeDepth := 30) [h]

@[simp] theorem State.closeOutcome_bounded (o : OutcomeMsg) (s : State) (h : s.bounded) :
    (State.closeOutcome o s).bounded := by
  unfold State.closeOutcome
  repeat' split
  all_goals simp (maxDischargeDepth := 30) [h]

@[simp] theorem State.breakerOutcome_bounded (o : OutcomeMsg) (s : State) (h : s.bounded) :
    (State.breakerOutcome o s).bounded := by
  unfold State.breakerOutcome
  repeat' split
  all_goals simp (maxDischargeDepth := 30) [h]

@[simp] theorem State.breakerNotice_bounded (v : ValueNotice) (s : State) (h : s.bounded) :
    (State.breakerNotice v s).bounded := by
  unfold State.breakerNotice
  repeat' split
  all_goals simp (maxDischargeDepth := 30) [h]

@[simp] theorem State.judgeOverload_bounded (f load : Nat) (s : State) (h : s.bounded) :
    (State.judgeOverload f load s).bounded := by
  unfold State.judgeOverload
  repeat' split
  all_goals simp (maxDischargeDepth := 30) [h]

@[simp] theorem State.measure_bounded (f load moment : Nat) (s : State) (h : s.bounded) :
    (State.measure f load moment s).bounded := by
  unfold State.measure
  simp (maxDischargeDepth := 30) [h]

@[simp] theorem State.meterStale_bounded (f : Nat) (s : State) (h : s.bounded) :
    (State.meterStale f s).bounded := by
  unfold State.meterStale
  repeat' split
  all_goals simp (maxDischargeDepth := 30) [h]

@[simp] theorem State.voltage_bounded (i v moment : Nat) (s : State) (h : s.bounded) :
    (State.voltage i v moment s).bounded := by
  unfold State.voltage
  simp (maxDischargeDepth := 30) [h]

@[simp] theorem State.meterNotice_bounded (v : ValueNotice) (s : State) (h : s.bounded) :
    (State.meterNotice v s).bounded := by
  unfold State.meterNotice
  have h1 := foldl_bounded
    (fun (s : State) i => match s.carriedFor v i with
      | some x => s.voltage i x v.moment
      | none => s)
    (by intro s i hs; split <;> simp (maxDischargeDepth := 30) [hs]) (List.range s.tsv.sects.length) s h
  dsimp only
  repeat' split
  · exact foldl_bounded _ (by intro s f hs; split <;> simp (maxDischargeDepth := 30) [hs]) _ _ h1
  · exact h1
  · exact h1

@[simp] theorem State.setLow_bounded (i : Nat) (s : State) (h : s.bounded) :
    (State.setLow i s).bounded := by
  unfold State.setLow
  simp (maxDischargeDepth := 30) [h]

@[simp] theorem State.clearLow_bounded (i : Nat) (s : State) (h : s.bounded) :
    (State.clearLow i s).bounded := by
  unfold State.clearLow
  simp (maxDischargeDepth := 30) [h]

@[simp] theorem State.voltageExpiry_bounded (i : Nat) (s : State) (h : s.bounded) :
    (State.voltageExpiry i s).bounded := by
  unfold State.voltageExpiry
  repeat' split
  all_goals simp (maxDischargeDepth := 30) [h]

@[simp] theorem State.setMode_bounded (m : Nat) (mode : PairMode) (s : State) (h : s.bounded) :
    (State.setMode m mode s).bounded := by
  unfold State.setMode
  simp (maxDischargeDepth := 30) [h]

@[simp] theorem State.putIncident_bounded (x : Incident) (s : State) (h : s.bounded) :
    (State.putIncident x s).bounded := by
  unfold State.putIncident
  exact State.setTable_bounded _ _ h (by simp)

@[simp] theorem State.mergeReport_bounded (x : Incident) (mark : Nat) (s : State) (h : s.bounded) :
    (State.mergeReport x mark s).bounded := by
  unfold State.mergeReport
  simp (maxDischargeDepth := 30) [h]

@[simp] theorem State.raiseReport_bounded (x : Incident) (s : State) (h : s.bounded) :
    (State.raiseReport x s).bounded := by
  unfold State.raiseReport
  simp (maxDischargeDepth := 30) [h]

@[simp] theorem raise_bounded (k : IncKind) (key : Nat) (s : State) (h : s.bounded) :
    (raise k key s).bounded := by
  unfold raise
  split
  · next x hx =>
    split
    · simp (maxDischargeDepth := 30) [h]
    · refine State.post_bounded _ _ (State.mergeReport_bounded _ _ _ ?_)
      unfold State.reopen
      refine State.setTable_bounded _ _ h ?_
      have hm : x ∈ s.inc.table := List.mem_of_find?_eq_some hx
      have : (s.inc.table.filter (fun z => z.number != (x.reopened s.clock.time s.tick).number)).length <
          s.inc.table.length :=
        List.length_filter_lt_length_iff_exists.mpr ⟨x, hm, by simp [Incident.reopened]⟩
      simp only [List.length_append, List.length_singleton]
      omega
  · split
    · next hlt =>
      refine State.post_bounded _ _ (State.raiseReport_bounded _ _ ⟨h.1, h.2.1, ?_, h.2.2.2⟩)
      simp only [State.incidentsBounded, State.enter_inc, List.length_append, List.length_singleton]
      omega
    · simp (maxDischargeDepth := 30) [h]

@[simp] theorem resolve_bounded (k : IncKind) (key : Nat) (s : State) (h : s.bounded) :
    (resolve k key s).bounded := by
  unfold resolve
  repeat' split
  all_goals simp (maxDischargeDepth := 30) [h]

@[simp] theorem State.escalateReport_bounded (number severity mark : Nat) (s : State) (h : s.bounded) :
    (State.escalateReport number severity mark s).bounded := by
  unfold State.escalateReport
  simp (maxDischargeDepth := 30) [h]

@[simp] theorem State.escalate_bounded (x : Incident) (d : Nat) (s : State) (h : s.bounded) :
    (State.escalate x d s).bounded := by
  unfold State.escalate
  repeat' split
  all_goals simp (maxDischargeDepth := 30) [h]

@[simp] theorem State.escalationDeadline_bounded (number : Nat) (s : State) (h : s.bounded) :
    (State.escalationDeadline number s).bounded := by
  unfold State.escalationDeadline
  repeat' split
  all_goals simp (maxDischargeDepth := 30) [h]

@[simp] theorem deriveEffects_bounded (s : State) (h : s.bounded) :
    (deriveEffects s).bounded := by
  unfold deriveEffects
  exact h

@[simp] theorem handHeld_bounded (s : State) (h : s.bounded) : (handHeld s).bounded := by
  unfold handHeld
  split <;> exact h

@[simp] theorem handDemands_bounded (s : State) (h : s.bounded) : (handDemands s).bounded := by
  unfold handDemands
  split <;> exact h

@[simp] theorem handContent_bounded (station : Nat) (s : State) (h : s.bounded) : (handContent station s).bounded := by
  unfold handContent
  split <;> exact h

@[simp] theorem State.sendShow_bounded (i el : Nat) (r : StationRec) (s : State) (h : s.bounded) :
    (State.sendShow i el r s).bounded := by
  unfold State.sendShow
  repeat' split
  all_goals simp (maxDischargeDepth := 30) [h]

@[simp] theorem judge_bounded (i : Nat) (s : State) (h : s.bounded) :
    (judge i s).bounded := by
  unfold judge
  repeat' split
  all_goals simp (maxDischargeDepth := 30) [h]

@[simp] theorem showRaised_bounded (i : Nat) (s : State) (h : s.bounded) :
    (showRaised i s).bounded := by
  unfold showRaised
  repeat' split
  all_goals simp (maxDischargeDepth := 30) [h]

@[simp] theorem State.sendingEnds_bounded (i el : Nat) (r : StationRec) (x : Result) (s : State) (h : s.bounded) :
    (State.sendingEnds i el r x s).bounded := by
  unfold State.sendingEnds
  repeat' split
  all_goals simp (maxDischargeDepth := 30) [h]

@[simp] theorem State.showOutcome_bounded (o : OutcomeMsg) (s : State) (h : s.bounded) :
    (State.showOutcome o s).bounded := by
  unfold State.showOutcome
  repeat' split
  all_goals simp (maxDischargeDepth := 30) [h]

@[simp] theorem State.shownNotice_bounded (v : ValueNotice) (s : State) (h : s.bounded) :
    (State.shownNotice v s).bounded := by
  unfold State.shownNotice
  repeat' split
  all_goals simp (maxDischargeDepth := 30) [h]

@[simp] theorem releaseStation_bounded (i : Nat) (s : State) (h : s.bounded) :
    (releaseStation i s).bounded := by
  unfold releaseStation
  repeat' split
  all_goals simp (maxDischargeDepth := 30) [h]

@[simp] theorem trainArrived_bounded (stop : Nat) (s : State) (h : s.bounded) :
    (trainArrived stop s).bounded := by
  unfold trainArrived
  simp (maxDischargeDepth := 30) [h]

@[simp] theorem State.minuteBoundary_bounded (s : State) (h : s.bounded) :
    (State.minuteBoundary s).bounded := by
  unfold State.minuteBoundary
  simp (maxDischargeDepth := 30) [h]

@[simp] theorem incidentContent_bounded (i : Nat) (c : Option Content) (s : State) (h : s.bounded) :
    (incidentContent i c s).bounded := by
  unfold incidentContent
  repeat' split
  all_goals simp (maxDischargeDepth := 30) [h]

@[simp] theorem delayWrite_bounded (i : Nat) (n : DelayNotice) (s : State) (h : s.bounded) :
    (delayWrite i n s).bounded := by
  unfold delayWrite
  repeat' split
  all_goals simp (maxDischargeDepth := 30) [h]

@[simp] theorem State.clearDelay_bounded (i train : Nat) (s : State) (h : s.bounded) :
    (State.clearDelay i train s).bounded := by
  unfold State.clearDelay
  repeat' split
  all_goals simp (maxDischargeDepth := 30) [h]

@[simp] theorem delayWithdraw_bounded (train : Nat) (s : State) (h : s.bounded) :
    (delayWithdraw train s).bounded := by
  unfold delayWithdraw
  repeat' split
  all_goals repeat' first
    | exact h
    | exact h.link (by assumption)
    | (refine h.like (by assumption) ?_ ?_ <;> rfl)
    | (with_reducible refine foldl_bounded _ (fun t a ht => ?_) _ _ ?_)
    | exact ht
    | exact State.offer_bounded _ _ _ _ (by assumption) h
    | with_reducible apply State.clearDelay_bounded

@[simp] theorem trainDeparted_bounded (train stop : Nat) (s : State) (h : s.bounded) :
    (trainDeparted train stop s).bounded := by
  unfold trainDeparted
  simp (maxDischargeDepth := 30) [h]

@[simp] theorem State.startDisplays_bounded (s : State) (h : s.bounded) :
    (State.startDisplays s).bounded := by
  unfold State.startDisplays
  exact h

@[simp] theorem State.replySent_bounded (s : State) (h : s.bounded) :
    (State.replySent s).bounded := h

@[simp] theorem takeOutcome_bounded (o : OutcomeMsg) (s : State) (h : s.bounded) :
    (takeOutcome o s).bounded := by
  unfold takeOutcome
  repeat' split
  all_goals simp (maxDischargeDepth := 30) [h]

@[simp] theorem takeValue_bounded (v : ValueNotice) (s : State) (h : s.bounded) :
    (takeValue v s).bounded := by
  unfold takeValue
  repeat' split
  all_goals simp (maxDischargeDepth := 30) [h]

@[simp] theorem takeAnswer_bounded (tag : Byte) (a : Answer) (s : State) (h : s.bounded) :
    (takeAnswer tag a s).bounded := by
  unfold takeAnswer
  simp (maxDischargeDepth := 30) [h]

@[simp] theorem handle_bounded (n : Notice) (s : State) (h : s.bounded) :
    (handle n s).bounded := by
  unfold handle
  repeat' split
  all_goals simp (maxDischargeDepth := 30) [h]

@[simp] theorem State.behind_bounded (rest : List Notice) (s : State) (h : s.bounded) :
    (State.behind rest s).bounded := by
  unfold State.behind
  simp (maxDischargeDepth := 30) [h]

@[simp] theorem State.takeNotice_bounded (n : Notice) (rest : List Notice) (s : State) (h : s.bounded) :
    (State.takeNotice n rest s).bounded := by
  unfold State.takeNotice
  simp (maxDischargeDepth := 30) [h]

/-- The running out of the agenda keeps the bounds. -/
theorem State.run_bounded (k : Nat) (s : State) (h : s.bounded) : (s.run k).bounded := by
  induction k generalizing s with
  | zero => exact h
  | succ k ih =>
    unfold State.run
    split
    · exact h
    · exact ih _ (State.takeNotice_bounded _ _ _ h)

/-- What a command leaves settled keeps the bounds. -/
theorem settle_bounded (s : State) (h : s.bounded) : (settle s).bounded :=
  State.setAgenda_bounded _ _ (State.run_bounded _ _ (State.latch_bounded _ h))

end Sys2Proof.Machine
end

