-- ==== Sys2Proof/Laws/Run.lean ====
section
/-! SUPPORT. The running out of the agenda, the taking of a request, and what each shared operation can do, said once. -/
namespace Sys2Proof.Machine

/-! ### Running out -/

/-- Nothing runs out of an empty agenda. -/
theorem State.run_quiet (k : Nat) (s : State) (h : s.agenda = []) : s.run k = s := by
  cases k with
  | zero => rfl
  | succ k => simp [State.run, h]

/-- The first notice is taken. -/
theorem State.run_cons (k : Nat) (s : State) (n : Notice) (rest : List Notice) (h : s.agenda = n :: rest) :
    s.run (k + 1) = State.run k (s.takeNotice n rest) := by
  simp [State.run, h]

/-- A state with no notice settles by latching its causes. -/
theorem settle_quiet (s : State) (h : s.agenda = []) : settle s = s.latch := by
  have h1 : s.latch.agenda = [] := h
  simp only [settle, State.run_quiet _ _ h1, State.setAgenda]
  rw [← h1]

/-- Latching the causes that already stand changes nothing. -/
theorem State.latch_current (s : State) (h : s.hpt.causes = s.causesNow) : s.latch = s := by
  have hf : s.hpt.flags.latch s.hpt.causes s.causesNow = s.hpt.flags := by
    rw [h]
    simp [Conditions.latch]
  unfold State.latch
  rw [hf, ← h]

/-- A notice whose block does nothing on it is taken without a trace. -/
theorem State.run_idle (k : Nat) (s : State) (n : Notice) (rest : List Notice) (h : s.agenda = n :: rest)
    (hc : s.causesCurrent) (hn : handle n (s.setAgenda []) = s.setAgenda []) :
    s.run (k + 1) = State.run k (s.setAgenda rest) := by
  rw [State.run_cons _ _ _ _ h]
  congr 1
  unfold State.takeNotice
  rw [hn, State.latch_current (s.setAgenda []) hc]
  simp [State.behind, State.setAgenda]

/-- A settled state settles to itself. -/
theorem settle_settled (s : State) (h : s.settled) : settle s = s := by
  rw [settle_quiet s h.1, State.latch_current s h.2]

/-- What settles has no notice under way. -/
@[simp] theorem settle_agenda (s : State) : (settle s).agenda = [] := rfl

/-- The causes stay as they are until the next latch. -/
theorem State.latch_causesCurrent (s : State) : s.latch.causesCurrent := rfl

/-- What has run out has its causes current. -/
theorem State.run_causesCurrent (k : Nat) (s : State) (h : s.causesCurrent) : (s.run k).causesCurrent := by
  induction k generalizing s with
  | zero => exact h
  | succ k ih =>
    unfold State.run
    split
    · exact h
    · exact ih _ rfl

/-- What settles is settled. -/
theorem settle_isSettled (s : State) : (settle s).settled :=
  ⟨rfl, State.run_causesCurrent Config.cascadeBound s.latch rfl⟩

/-! ### Requests -/

/-- A request whose data a frame can carry is the completion of that frame. -/
theorem request_fits (d : List Byte) (body : State → State) (s : State) (h : dataFits d = true) :
    request d body s = .next (settle (s.framed.takeFrame body)) := by
  simp [request, h, State.framed]

/-- R171: a request with a length outside 2..1,022 is discarded. -/
theorem request_discarded (d : List Byte) (body : State → State) (s : State) (h : dataFits d = false) :
    request d body s = .next (settle s.framed.flagFrameError) := by
  simp [request, h, State.framed]

/-- A frame whose reply has room is a request. -/
theorem State.takeFrame_room (body : State → State) (s : State) (h : s.hpt.replies.length < Config.maxReplies) :
    s.takeFrame body = body s := by
  have : s.repliesFull = false := by simp [State.repliesFull, h]
  simp [State.takeFrame, this]

/-- A frame that finds the reply queue full is discarded. -/
theorem State.takeFrame_full (body : State → State) (s : State) (h : Config.maxReplies ≤ s.hpt.replies.length) :
    s.takeFrame body = s.flagFrameError := by
  have : s.repliesFull = true := by simp [State.repliesFull, h]
  simp [State.takeFrame, this]

/-- A request to a ready unit answers the settling of what it does. -/
theorem request_ready (d : List Byte) (body : State → State) (s : State) (hd : dataFits d = true) (hs : s.ready) :
    request d body s = .next (settle (body s.framed)) := by
  rw [request_fits d body s hd, State.takeFrame_room body s.framed hs.2]

/-- A row that names an object the unit has answers the settling of its effect. -/
theorem onObject_present (f : Fault) (effect : State → State) (s : State) :
    onObject true f effect s = .next (settle (effect s)) := rfl

/-- A row that names an object the unit has not is a fault. -/
theorem onObject_missing (f : Fault) (effect : State → State) (s : State) : onObject false f effect s = .fault f := rfl

/-! ### Characters (R19, R169) -/

/-- R19: a character as a sender puts it on a field line is taken as good. -/
@[simp] theorem judged_sent (v : Byte) : (FieldChar.sent v).judged = .good v := by
  have ht : onesOf v true = onesOf v false + 1 := rfl
  unfold FieldChar.sent
  rcases Nat.mod_two_eq_zero_or_one (onesOf v false) with e | e
  · have : onesOf v true % 2 = 1 := by omega
    simp [FieldChar.judged, e, this]
  · simp [FieldChar.judged, e]

/-- R169: a character as a sender puts it on the host line is taken as good. -/
@[simp] theorem judged_sent_host (v : Byte) : (HostChar.sent v).judged = .good v := rfl

/-! ### Shared operations -/

/-- R176: a report of a masked class leaves no trace. -/
theorem State.report_masked (k : ReportKind) (x : Option Subject) (a b : Option Nat) (s : State)
    (h : s.hpt.classMask.masks k = true) : s.report k x a b = s := by
  simp [State.report, h]

/-- R176: with room, an unmasked report joins the tail with the present line time. -/
theorem State.report_joins (k : ReportKind) (x : Option Subject) (a b : Option Nat) (s : State)
    (h : s.hpt.classMask.masks k = false) (hr : s.hpt.reports.length < Config.maxReports) :
    s.report k x a b = s.setReports (s.hpt.reports ++
      [{ kind := k, time := s.clock.time, subject := x, detail1 := a, detail2 := b }]) := by
  simp [State.report, h, hr, State.setReports]

/-- R176: with the queue full, an unmasked report is dropped and REPORT_OVERFLOW is set. -/
theorem State.report_dropped (k : ReportKind) (x : Option Subject) (a b : Option Nat) (s : State)
    (h : s.hpt.classMask.masks k = false) (hr : Config.maxReports ≤ s.hpt.reports.length) :
    (s.report k x a b).hpt = { s.hpt with flags := { s.hpt.flags with reportOverflow := true } } := by
  have : ¬ s.hpt.reports.length < Config.maxReports := by omega
  simp [State.report, h, this]

/-- R23: an entry that finds 16 in the queue is dropped with OVERRUN. -/
theorem State.rxJoin_full (i : Nat) (mk : Bool → RxEntry) (s : State) (l : LinkRec) (hl : s.links[i]? = some l)
    (h : Config.maxReceive ≤ l.rx.length) : s.rxJoin i mk = s.setLink i { l with errOverrun := true } := by
  simp [State.rxJoin, hl, h]

/-- R23, R27: an entry joins below the congestion level. -/
theorem State.rxJoin_room (i : Nat) (mk : Bool → RxEntry) (s : State) (l : LinkRec) (hl : s.links[i]? = some l)
    (h : l.rx.length < Config.maxReceive) (hc : l.congested = true ∨ l.rx.length + 1 < l.level) :
    s.rxJoin i mk = s.setLink i { l with rx := l.rx ++ [mk (l.state == .loopback)] } := by
  have h1 : ¬ Config.maxReceive ≤ l.rx.length := by omega
  simp only [State.rxJoin, hl, h1, if_false]
  have h2 : (!l.congested && decide (LinkRec.level { l with rx := l.rx ++ [mk (l.state == .loopback)] } ≤
      (l.rx ++ [mk (l.state == .loopback)]).length)) = false := by
    rcases hc with hc | hc
    · simp [hc]
    · have : ¬ l.level ≤ l.rx.length + 1 := by omega
      simp [LinkRec.level] at this ⊢
      intro _
      omega
  simp [LinkRec.level] at h2 ⊢
  intro a b
  have := h2 a
  omega

/-- R28: with room, an order joins the tail of its link's transmit queue. -/
theorem State.offer_room (i : Nat) (e : TxEntry) (s : State) (l : LinkRec) (hl : s.links[i]? = some l)
    (h : l.state = .up ∨ l.state = .loopback) (hr : l.tx.length < Config.maxTransmit) :
    s.offer i e = .taken (s.setLink i { l with tx := l.tx ++ [e] }) := by
  rcases h with h | h <;> simp [State.offer, hl, h, hr]

/-- R28: a link that is DISABLED or DOWN refuses every order. -/
theorem State.offer_down (i : Nat) (e : TxEntry) (s : State) (l : LinkRec) (hl : s.links[i]? = some l)
    (h : l.state = .disabled ∨ l.state = .down) : s.offer i e = .refused .linkDown := by
  rcases h with h | h <;> simp [State.offer, hl, h]

/-- R45: an order for an element without an entry or UNKNOWN fails UNKNOWN. -/
theorem issue_unknown (el : Nat) (d : OrderData) (token : Nat) (s : State) (e : MirrorEntry) (he : s.entry? el = some e)
    (h : e.state = .unknown) : issue el d token s = s.failAtIssue el d token .unknown := by
  simp [issue, he, h]

/-- R45: an order for a REPORTED element fails LOCAL. -/
theorem issue_reported (el : Nat) (d : OrderData) (token : Nat) (s : State) (e : MirrorEntry)
    (he : s.entry? el = some e) (h : e.state = .reported) : issue el d token s = s.failAtIssue el d token .localCtl := by
  simp [issue, he, h]

/-- R93: a change of reasons that leaves the set as empty or as non-empty as before does nothing more. -/
theorem State.holdChange_same (slot : Nat) (b : Bool) (st : Stand) (s : State)
    (h : (s.putStand slot st).isHeld slot st = b) : s.holdChange slot b st = s.putStand slot st := by
  cases b <;> simp [State.holdChange, h]

/-- R137: a raise into a full table sets INCIDENT_OVERFLOW alone. -/
theorem raise_full (k : IncKind) (key : Nat) (s : State) (h : s.autoFind k key = none)
    (hf : Config.maxIncidents ≤ s.inc.table.length) : raise k key s = s.flagIncidentOverflow := by
  have : ¬ s.inc.table.length < Config.maxIncidents := by omega
  simp [raise, h, this]

/-- R138: a resolution of what does not stand changes nothing. -/
theorem resolve_absent (k : IncKind) (key : Nat) (s : State) (h : s.autoFind k key = none) : resolve k key s = s := by
  simp [resolve, h]

/-- R164: outside service no SHOW is issued. -/
theorem judge_inactive (i : Nat) (s : State) (h : s.lds.service.active = false) : judge i s = s := by
  unfold judge
  repeat' split
  all_goals simp_all

/-- A DONE reply makes no notice. -/
@[simp] theorem State.done_agenda (tag : Byte) (d : List Byte) (s : State) : (s.done tag d).agenda = s.agenda := rfl

/-- A DONE reply touches no cause. -/
@[simp] theorem State.done_causesNow (tag : Byte) (d : List Byte) (s : State) :
    (s.done tag d).causesNow = s.causesNow := rfl

/-- R172: a quiet state whose causes are current answers its request at once. -/
theorem settle_answer (tag : Byte) (d : List Byte) (s : State) (h : s.settled) :
    settle (s.post (.answer tag (.done d))) = s.done tag d := by
  have hq : s.agenda = [] := h.1
  have hc : s.hpt.causes = s.causesNow := h.2
  have h1 : (s.post (.answer tag (.done d))).latch = s.post (.answer tag (.done d)) :=
    State.latch_current _ hc
  have h2 : (s.post (.answer tag (.done d))).agenda = [.answer tag (.done d)] := by
    simp [State.post, hq]
  have h3 : (s.post (.answer tag (.done d))).setAgenda [] = s := by
    simp only [State.post, State.setAgenda]
    rw [← hq]
  have h4 : (s.post (.answer tag (.done d))).takeNotice (.answer tag (.done d)) [] = s.done tag d := by
    simp only [State.takeNotice, handle, takeAnswer, State.answerData, h3]
    rw [State.latch_current _ (show (s.done tag d).hpt.causes = (s.done tag d).causesNow from hc)]
    simp [State.behind, State.setAgenda, State.done, State.reply]
  unfold settle
  rw [h1, show Config.cascadeBound = 99999 + 1 from rfl, State.run_cons _ _ _ _ h2, h4,
    State.run_quiet _ _ (show (s.done tag d).agenda = [] from hq)]
  simp only [State.setAgenda, State.done, State.reply]
  rw [← hq]

/-- R174: a kind that names no request is refused UNKNOWN_KIND. -/
theorem dispatch_unknown (k tag : Byte) (d : List Byte) (s : State) (h : kindIsKnown k = false) :
    dispatch k tag d s = reqUnknownKind tag s := by
  unfold dispatch
  split <;> first | rfl | (rename_i hk; simp [kindIsKnown, requestKinds, hk] at h)

/-- R170, R172: a request command is the taking of the frame it stands for. -/
theorem exec_frame (c : Instr) (k tag : Byte) (d : List Byte) (s : State) (h : frameOf c = some (k, tag, d)) :
    exec c s = request d (dispatch k tag d) s := by
  cases c <;> simp only [frameOf, reduceCtorEq] at h
  case unknownKind kind t data =>
    split at h
    · simp at h
    · rename_i hk
      simp only [Option.some.injEq, Prod.mk.injEq] at h
      obtain ⟨rfl, rfl, rfl⟩ := h
      have hk' : kindIsKnown kind = false := by simpa using hk
      have hf : dispatch kind t data = reqUnknownKind t := funext fun s => dispatch_unknown kind t data s hk'
      simp only [exec, execUnknownKind, hk', hf, Bool.false_eq_true, if_false]
  all_goals
    simp only [Option.some.injEq, Prod.mk.injEq] at h
    obtain ⟨rfl, rfl, rfl⟩ := h
    rfl

end Sys2Proof.Machine
end

