-- ==== Sys2Proof/Tests/Slice0.lean ====
section
/-! SUPPORT. The model's own tests: ill-formed commands refused, effects of single steps against the spec's words and
worked values, and for each statement with hypotheses a state and operands that meet them. -/
namespace Sys2Proof.Machine.Tests

set_option Elab.async false

/-! ### A small line -/

/-- Two stations, one run, two sections of one pair, one substation, nine elements on two links, one zone. -/
def tables : Lds :=
  { service := .configured, committed := true
    stations := some [{ sect := 0, up := 0, down := 1, display := some 4 }, { sect := 1, up := 2, down := 3, display := none }]
    runs := some [{ sect := 0, upMin := 60, upMax := 90, downMin := 60, downMax := 90 }]
    sections := some
      { sects := [{ feeders := [5], precharge := 10, chargeCheck := true, underCheck := true, source := some (7, 0) },
                  { feeders := [6], precharge := 10, chargeCheck := false, underCheck := false, source := none }]
        pairs := [{ tie := some 8, mode := .independent }] }
    substations := some [{ capacity := 100, meter := 7, feeders := [5, 6] }]
    elements := some
      [{ kind := some .platform, link := 0, addr := 1 }, { kind := some .platform, link := 0, addr := 2 },
       { kind := some .platform, link := 0, addr := 3 }, { kind := some .platform, link := 0, addr := 4 },
       { kind := some .display, link := 0, addr := 5 }, { kind := some .breaker, link := 1, addr := 1 },
       { kind := some .breaker, link := 1, addr := 2 }, { kind := some .meter, link := 1, addr := 3 },
       { kind := some .breaker, link := 1, addr := 4 }]
    links := some [some { rate := 0, timeout := 500, level := 12 }, some { rate := 0, timeout := 500, level := 12 },
      none, none, none, none, none, none]
    zones := some [[0, 1]]
    params := some
      { wMin := 20, wMax := 90, wDefault := 45, beta := 4, hNom := 150, threshold := 120, stopsAhead := 2, delayText := 41,
        startWindow := 20, startLoad := 20, runLoad := [16, 14, 12, 10], auxLoad := 4, permitWait := 60, stale := 900,
        nominal := 750, breakerExec := 8, platformExec := 2, displayExec := 5, autoTexts := [210, 2, 3, 4, 215, 6, 7, 8] } }

/-- The unit with the tables loaded and not committed, its two lines with a carrier. -/
def loaded : State :=
  { State.reset with
    lds := { tables with service := .unconfigured, committed := false }
    links := (List.range 8).map (fun i => LinkRec.reset (decide (i < 2))) }

def held (el : Nat) (kind : ElemKind) (link addr : Nat) (v : Value) : MirrorEntry :=
  { MirrorEntry.built el kind link addr with state := .held, authority := .remote, value := some v }

def stop : Value := .platform none (some .stop)

/-- The unit CONFIGURED, both links UP and idle, every element HELD, both sections DEAD, line time 30,000 running. -/
def unit : State :=
  { State.reset with
    lds := tables
    clock := { time := 30000, running := true, limitReported := false, secondEnd := 1000 }
    links := (List.range 8).map (fun i =>
      if i < 2 then { LinkRec.reset true with state := .up, cfg := some { rate := 0, timeout := 500, level := 12 } }
      else LinkRec.reset false)
    mirror := [held 0 .platform 0 1 stop, held 1 .platform 0 2 stop, held 2 .platform 0 3 stop, held 3 .platform 0 4 stop,
      held 4 .display 0 5 (.display Content.default), held 5 .breaker 1 1 (.breaker .opened),
      held 6 .breaker 1 2 (.breaker .opened), held 7 .meter 1 3 (.meter 0 [none, none, none, none]),
      held 8 .breaker 1 4 (.breaker .opened)]
    window := { entries := [], last := List.replicate 4 none }
    rgl := Regulator.cleared (some 4) (some 120) 2
    tsv := { Supervisor.empty with
      sects := [{ SectRec.built [5] with state := .dead }, { SectRec.built [6] with state := .dead }]
      pairs := [{ mode := .independent, tie := some 8 }]
      subs := [SubRec.built { capacity := 100, meter := 7, feeders := [5, 6] }] }
    anp := { staging := Staging.empty, stations := [StationRec.built (some 4) 0, StationRec.built none 0], triggers := [.off] } }

/-- The same unit IN_SERVICE. -/
def serving : State := unit.setService .inService

/-- Train 12 at stop 0, bound to nothing. -/
def train12 : Train :=
  { Train.fresh 12 .up (some 305) with pos := .atStop, stop := some 0, phase := .aux }

/-- The stand of a train at stop 0. -/
def stand0 : Stand :=
  { stop := 0, el := 0, sect := 0, phase := some .dwelling, field := false, incident := false, power := false,
    plan := none, permit := .none, order := .none, relFails := 0, revokeFailed := false, earlier := [] }

/-- Train 12 stands at stop 0 and waits for nothing. -/
def standing : State := (serving.setTrain 0 train12).putStand 0 stand0

def entry (trip stop p : Nat) (bound : Option Nat) : TtEntry :=
  { trip := trip, stop := stop, p := p, w := 30, rp := some 110, bound := bound }

/-- R59's worked sequence at one stop: trips 303 (MATCHED), 305 and 307. -/
def timetabled : State :=
  { unit with window := { entries := [entry 303 0 30170 (some 9), entry 305 0 30290 none, entry 307 0 30410 none],
                          last := List.replicate 4 none } }

def incident (number : Nat) (severity : Nat) (deadline : Option Nat) : Incident :=
  { number := number, kind := .stranded, key := some 33, severity := severity, state := .opened, span := some [0],
    sects := [], hold := false, isolate := false, ann := some { text := 215, p1 := 33, p2 := 0 }, openedAt := 30000,
    ackedAt := none, count := 1, deadline := deadline, widened := false }

/-- A host incident that holds station 0 and isolates section 1. -/
def hostIncident : Incident :=
  { number := 57, kind := .equipment, key := none, severity := 3, state := .opened, span := some [0], sects := [1],
    hold := true, isolate := true, ann := none, openedAt := 30000, ackedAt := none, count := 1, deadline := some 60000,
    widened := false }

/-- One incident in the table, with its cause current. -/
def troubled (x : Incident) : State :=
  { unit with inc := { unit.inc with table := [x], next := 58 },
              hpt := { unit.hpt with causes := { Causes.none with incidentOpen := true } } }

/-- Whether a command answers a next state that passes a check. -/
def ok (o : Host.Outcome State Fault Refusal) (f : State → Bool) : Bool :=
  match o with
  | .next t => f t
  | .fault _ => false
  | .refused _ => false

/-- Whether a command is answered REFUSED with these data, and nothing but the reply is new on the port. -/
def refusedWith (c : Instr) (s : State) (data : List Byte) : Bool :=
  ok (exec c s) (fun t => t.hpt.replies.map (fun r => (r.refused, r.data)) == [(true, data)] && t.hpt.reports == s.hpt.reports)

/-- Whether a command is answered DONE with these data. -/
def doneWith (c : Instr) (s : State) (data : List Byte) : Bool :=
  ok (exec c s) (fun t => t.hpt.replies.map (fun r => (r.refused, r.data)) == [(false, data)])

/-- The kinds and details of the reports a command makes. -/
def reportsOf (t : State) : List (Nat × Option Nat × Option Nat) :=
  t.hpt.reports.map (fun r => (r.kind.code, r.detail1, r.detail2))

/-! ### Every check of WellFormed refuses an ill-formed command, and the command faults -/

theorem test_link_above_7 : (Instr.carrierReturn 8).wellFormed = false ∧ exec (.carrierReturn 8) unit = .fault .noSuchLink :=
  ⟨by decide, rfl⟩
theorem test_element_above_255 : (Instr.answerTimeout 256).wellFormed = false ∧
    exec (.answerTimeout 256) unit = .fault .noSuchElement := ⟨by decide, rfl⟩
theorem test_slot_above_39 : (Instr.startWindowDeadline 40).wellFormed = false ∧
    exec (.startWindowDeadline 40) unit = .fault .noSuchSlot := ⟨by decide, rfl⟩
theorem test_section_above_23 : (Instr.voltageTimerExpiry 24).wellFormed = false ∧
    exec (.voltageTimerExpiry 24) unit = .fault .noSuchSection := ⟨by decide, rfl⟩
theorem test_substation_above_11 : (Instr.meterStale 12).wellFormed = false ∧
    exec (.meterStale 12) unit = .fault .noSuchSubstation := ⟨by decide, rfl⟩
theorem test_train_0 : (Instr.permitWaitLong 0).wellFormed = false ∧ (Instr.permitWaitLong 1000).wellFormed = false ∧
    exec (.permitWaitLong 1000) unit = .fault .noSuchTrain := ⟨by decide, by decide, rfl⟩
theorem test_incident_0 : (Instr.escalationDeadline 0).wellFormed = false ∧
    (Instr.escalationDeadline 65536).wellFormed = false ∧
    exec (.escalationDeadline 65536) unit = .fault .noSuchIncident := ⟨by decide, by decide, rfl⟩
/-- R170, R171: data of 1,021 bytes give a length of 1,023: the frame is discarded; 1,020 are taken. -/
theorem test_data_above_1020 : ok (exec (.identify 0#8 (List.replicate 1021 0#8)) unit)
      (fun t => t.hpt.flags.hostFrameError && t.hpt.replies == []) = true ∧
    refusedWith (.identify 0#8 (List.replicate 1020 0#8)) unit [2#8] = true := by decide +kernel
theorem test_kind_known : (Instr.unknownKind 0x10#8 0#8 []).wellFormed = false ∧
    exec (.unknownKind 0x10#8 0#8 []) unit = .fault .kindIsKnown := ⟨by decide +kernel, rfl⟩

/-! ### Formats: the worked values of chapter 11 -/

/-- Section 11.1: the check of the nine digits is 0x29B1. -/
theorem test_crc : crcOf [0x31#8, 0x32#8, 0x33#8, 0x34#8, 0x35#8, 0x36#8, 0x37#8, 0x38#8, 0x39#8] = 0x29B1#16 := by
  decide +kernel
/-- Section 11.1: the worked frame of READ_CONDITIONS with tag 5. -/
theorem test_worked_frame : frameBytes 0x81#8 0x05#8 [] = [0x00#8, 0x02#8, 0x81#8, 0x05#8, 0x92#8, 0xAC#8] := by
  decide +kernel
/-- Section 11.2: the POLL of the element at address 150 with sequence 0x3A. -/
theorem test_worked_poll : (Sending.poll 0 150 0x3A).telegram.characters =
    [0x96#8, 0x96#8, 0x96#8, 0x42#8, 0x3A#8, 0x00#8, 0x01#8, 0x12#8] := by decide +kernel
/-- Section 11.2: the ARRIVAL of train 61 from address 0x21 is assembled with a matching check word. -/
theorem test_worked_arrival :
    asmAll .hunting 0 [0x96#8, 0x21#8, 0x02#8, 0x07#8, 0x03#8, 0x01#8, 0x00#8, 0x3D#8, 0x00#8, 0x6B#8] =
      (.hunting, .complete [0x21#8, 0x02#8, 0x07#8, 0x03#8, 0x01#8, 0x00#8, 0x3D#8, 0x00#8, 0x6B#8] false) ∧
    checkMatches [0x21#8, 0x02#8, 0x07#8, 0x03#8, 0x01#8, 0x00#8, 0x3D#8, 0x00#8, 0x6B#8] = true := by decide +kernel
/-- Section 11.5: the departure of train 12 at 30,304 with a lateness of 14 s. -/
theorem test_worked_report :
    Report.bytes { kind := .departed, time := 30304, subject := some (.train 12), detail1 := some 14, detail2 := some (lateCode 14) } =
      [0x11#8, 0x00#8, 0x76#8, 0x60#8, 0x01#8, 0x00#8, 0x0C#8, 0x03#8, 0x00#8, 0x00#8, 0x0E#8, 0x00#8, 0x03#8, 0xF6#8] := by
  decide +kernel

/-! ### Plans: the worked cases of chapter 6 -/

def prm : Params := unit.params

def planned (a p w rp : Nat) (last : Option LastDeparture) : Plan :=
  planOf { prm with hNom := 150 } 4 a (some { p := p, w := w, rp := some rp }) last

/-- "A blended dwell". -/
theorem test_blended_dwell :
    let x := planned 30250 30290 30 110 (some { trip := some 303, p := some 30170, d := 30195, train := 9 })
    x.lateness = -10 ∧ x.tSched = 30290 ∧ x.hPlan = 120 ∧ x.tHead = 30315 ∧ x.delta = 25 ∧ x.tTgt = 30303 ∧ x.dwell = 53 ∧
    x.tDep = 30303 ∧ runLevel (some (80, 125)) x.p x.rp x.tDep = 1 := by decide +kernel
/-- "A clamped dwell and a saturated level". -/
theorem test_clamped_dwell :
    let x := planned 41100 41060 25 95 (some { trip := some 511, p := some 40940, d := 40960, train := 6 })
    x.lateness = 65 ∧ x.tSched = 41120 ∧ x.tHead = 41080 ∧ x.delta = -40 ∧ x.tTgt = 41100 ∧ x.dwell = 20 ∧ x.tDep = 41120 ∧
    runLevel (some (70, 100)) x.p x.rp x.tDep = 0 := by decide +kernel
/-- The variations of the blended dwell: no record; an unbound train's record; no entry. -/
theorem test_dwell_variations :
    (planned 30250 30290 30 110 none).tDep = 30290 ∧
    (planned 30250 30290 30 110 (some { trip := none, p := none, d := 30195, train := 9 })).tDep = 30318 ∧
    (planOf prm 4 30250 none (some { trip := none, p := some 30170, d := 30195, train := 9 })).tDep = 30320 ∧
    (planOf prm 8 30250 (some { p := 30290, w := 30, rp := some 110 })
      (some { trip := none, p := some 30170, d := 30300, train := 9 })).tDep = 30340 := by decide +kernel
/-- Section 7.9's loads: 20 units over two substations, 4 over three. -/
theorem test_shares : (List.range 2).map (shareAt 20 2) = [10, 10] ∧ (List.range 3).map (shareAt 4 3) = [2, 1, 1] := by
  decide +kernel

/-! ### The description, the clock, the service (01) -/

/-- R16, R169: straps High, Low give 921,600; the carriers are kept and RESTARTED is the one flag. -/
theorem test_power_on_reset : ok (exec (.powerOnReset true false) unit) (fun t =>
    t.hpt.rate == .r921600 && t.links.map (·.carrier) == unit.links.map (·.carrier) && t.hpt.flags.toNat == 1 &&
    t.mirror == [] && t.lds == Lds.empty) = true := by decide +kernel
/-- R17: the identity 0x3D17, 0x0820, B and a running clock at 30,000. -/
theorem test_identify : ok (exec (.identify 7#8 []) unit) (fun t => t.hpt.replies.any (fun r =>
    r.data.take 5 == [0x3D#8, 0x17#8, 0x08#8, 0x20#8, 0x42#8] && r.data.drop 20 ==
      [1#8, 1#8, 0xFF#8, 0x00#8, 0x75#8, 0x30#8, 1#8, 0#8])) = true := by decide +kernel
/-- R1, R12: LD_BEGIN in CONFIGURED empties the store and withdraws; in IN_SERVICE it is refused WRONG_STATE. -/
theorem test_ld_begin : ok (exec (.ldBegin 1#8 []) unit) (fun t => t.lds == Lds.empty && t.mirror == [] &&
    t.links.all (fun l => l.state == .disabled)) = true ∧ refusedWith (.ldBegin 1#8 []) serving [3#8] = true := by
  decide +kernel
/-- R3: two stations, the second without a display. -/
theorem test_ld_stations : ok (exec (.ldStations 1#8 [2#8, 0#8, 0#8, 1#8, 4#8, 1#8, 2#8, 3#8, 0xFF#8]) loaded)
    (fun t => t.lds.stations == tables.stations) = true := by decide +kernel
/-- R4: one run. -/
theorem test_ld_runs : ok (exec (.ldRuns 1#8 [1#8, 0#8, 0#8, 60#8, 0#8, 90#8, 0#8, 60#8, 0#8, 90#8]) loaded)
    (fun t => t.lds.runs == tables.runs) = true := by decide +kernel
/-- R6: one substation of capacity 100 with two feeders. -/
theorem test_ld_substations : ok (exec (.ldSubstations 1#8
      ([1#8, 0#8, 100#8, 7#8, 2#8, 5#8, 6#8] ++ List.replicate 6 0xFF#8)) loaded)
    (fun t => t.lds.substations == tables.substations) = true := by decide +kernel
/-- R7: an element of link 8 is out of range; an UNUSED one is not judged. -/
theorem test_ld_elements : refusedWith (.ldElements 1#8 [0#8, 1#8, 1#8, 8#8, 1#8]) loaded [4#8] = true ∧
    ok (exec (.ldElements 1#8 [0#8, 1#8, 0#8, 8#8, 0#8]) loaded) (fun t => (t.elemRows.map (·.kind)) == [none]) = true := by
  decide +kernel
/-- R8: one used link; a congestion level of 5 is out of range. -/
theorem test_ld_links : ok (exec (.ldLinks 1#8 ([1#8, 0#8, 1#8, 0xF4#8, 12#8] ++ List.replicate 35 0#8)) loaded)
      (fun t => t.linkRows.head? == some (some { rate := 0, timeout := 500, level := 12 })) = true ∧
    refusedWith (.ldLinks 1#8 ([1#8, 0#8, 1#8, 0xF4#8, 5#8] ++ List.replicate 35 0#8)) loaded [4#8] = true := by
  decide +kernel
/-- R9: one zone of two stations. -/
theorem test_ld_zones : ok (exec (.ldZones 1#8 [1#8, 2#8, 0#8, 1#8]) loaded) (fun t => t.zones == [[0, 1]]) = true ∧
    refusedWith (.ldZones 1#8 [1#8, 2#8, 0#8]) loaded [2#8] = true := by decide +kernel
/-- R10: 55 bytes are BAD_LENGTH, 56 of zeros BAD_VALUE. -/
theorem test_ld_params : refusedWith (.ldParams 1#8 (List.replicate 55 0#8)) loaded [2#8] = true ∧
    refusedWith (.ldParams 1#8 (List.replicate 56 0#8)) loaded [4#8] = true := by decide +kernel
/-- R5: the two sections and the pair of the small line; a precharge time of 0 is out of range. -/
theorem test_ld_sections : ok (exec (.ldSections 1#8 [2#8, 1#8, 5#8, 0xFF#8, 10#8, 3#8, 7#8, 0#8,
      1#8, 6#8, 0xFF#8, 10#8, 0#8, 0xFF#8, 0#8, 8#8, 0#8]) loaded) (fun t => t.lds.sections == tables.sections) = true ∧
    refusedWith (.ldSections 1#8 [1#8, 1#8, 5#8, 0xFF#8, 0#8, 3#8, 7#8, 0#8, 0xFF#8, 0#8]) loaded [4#8] = true := by
  decide +kernel
/-- R11, R36, R37: a commit makes the used links UP, the entries UNKNOWN, and is answered DONE. -/
theorem test_ld_commit : ok (exec (.ldCommit 1#8 []) loaded) (fun t =>
    t.lds.service == .configured && (t.links.map (·.state)).take 3 == [.up, .up, .disabled] && t.mirror.length == 9 &&
    t.mirror.all (fun e => e.state == .unknown) && t.hpt.replies == [{ refused := false, tag := 1#8, data := [] }]) = true := by
  decide +kernel
/-- R11: no run for two stations is table 2, index 0, check 5; an absent parameters table is table 8, check 1. -/
theorem test_ld_commit_refused :
    refusedWith (.ldCommit 1#8 []) (loaded.setLds { loaded.lds with runs := some [] }) [0x18#8, 2#8, 0#8, 0#8, 5#8] = true ∧
    refusedWith (.ldCommit 1#8 []) (loaded.setLds { loaded.lds with params := none }) [0x18#8, 8#8, 0#8, 0#8, 1#8] = true := by
  decide +kernel
/-- R15: a step of 31 s in service is CLOCK_STEP, one of 30 s is taken. -/
theorem test_set_line_time : refusedWith (.setLineTime 1#8 (u24 30031)) serving [0x17#8] = true ∧
    ok (exec (.setLineTime 1#8 (u24 30030)) serving) (fun t => t.clock.time == 30030) = true := by decide +kernel
/-- R14: 107,998 counts to 107,999, which is reported once. -/
theorem test_line_time_count : ok (exec .lineTimeCount (unit.setTime 107998)) (fun t =>
    t.clock.time == 107999 && t.clock.limitReported && reportsOf t == [(0x61, none, none)]) = true ∧
    ok (exec .lineTimeCount (unit.setTime 107999)) (fun t => t.clock.time == 107999 && t.hpt.reports == []) = true := by
  decide +kernel
/-- R13: START with a stopped clock is refused; with a running one the unit is IN_SERVICE and the display is sent to. -/
theorem test_service_start : refusedWith (.serviceStart 1#8) { unit with clock := Clock.reset } [3#8] = true ∧
    ok (exec (.serviceStart 1#8) unit) (fun t => t.lds.service == .inService &&
      (t.anp.stations.map (·.status)) == [.sending, .noDisplay] && (t.links.map (·.polls)).take 2 != [[], []]) = true := by
  decide +kernel
/-- R13, R106: SUSPEND takes a WAITING_PERMIT stand out of regulation and withdraws its request. -/
theorem test_service_suspend : ok (exec (.serviceSuspend 1#8)
    ((standing.putStand 0 { stand0 with phase := some .waitingPermit, permit := .requested }).setWaitList
      [{ train := 12, sect := 0, joined := 0, reported := false }])) (fun t =>
    t.lds.service == .suspended && t.tsv.waitList == []) = true := by decide +kernel
theorem test_service_resume : ok (exec (.serviceResume 1#8) (unit.setService .suspended)) (fun t =>
    t.lds.service == .inService && reportsOf t == [(0x60, some 3, some 2)]) = true ∧
    refusedWith (.serviceResume 1#8) unit [3#8] = true := by decide +kernel
theorem test_service_end : ok (exec (.serviceEnd 1#8) standing) (fun t =>
    t.lds.service == .configured && reportsOf t == [(0x60, some 2, some 1)]) = true := by decide +kernel
/-- R16, R150: a warm restart in CONFIGURED keeps the description and the host incidents, and removes the auto ones. -/
theorem test_warm_restart : ok (exec (.warmRestart 1#8 []) (troubled (incident 57 3 none))) (fun t =>
    t.lds == tables && t.hpt.reports == [] && t.hpt.flags.restarted && t.inc.table == [] && t.inc.next == 58 &&
    t.mirror.all (fun e => e.state == .unknown)) = true ∧
    ok (exec (.warmRestart 1#8 []) (troubled hostIncident)) (fun t => (t.inc.table.map (·.number)) == [57] &&
      t.hpt.flags.incidentOpen) = true := by decide +kernel

/-! ### Field links and the mirror (02, 03) -/

/-- Link `i` of a state with some fields replaced. -/
def withLink (s : State) (i : Nat) (f : LinkRec → LinkRec) : State := s.modLink i f

/-- Element `el` of the unit with some fields replaced. -/
def withEntry (s : State) (el : Nat) (f : MirrorEntry → MirrorEntry) : State :=
  { s with mirror := s.mirror.map (fun e => if e.el = el then f e else e) }

/-- R31: the link is UP and its first element's poll is under way. -/
theorem test_carrier_return : ok (exec (.carrierReturn 0)
      (withLink unit 0 (fun l => { l with state := .down, carrier := false }))) (fun t =>
    (t.links.map (·.state)).head? == some .up && (t.links.map (·.polls)).head? == some [1, 2, 3, 4] &&
    (t.links.map (fun l => l.sender.map (·.what))).head? == some (some (.poll 0 1 1)) && reportsOf t == [(0x42, some 1, some 2)]) = true := by
  decide +kernel
/-- R32: the link is DOWN, its elements UNKNOWN with their values kept, and LINK_LOSS is raised. -/
theorem test_carrier_loss : ok (exec (.carrierLoss 0) unit) (fun t =>
    (t.links.map (·.state)).head? == some .down &&
    (t.mirror.map (·.state)) == [.unknown, .unknown, .unknown, .unknown, .unknown, .held, .held, .held, .held] &&
    (t.mirror.map (·.value)).head? == some (some stop) && (t.inc.table.map (fun x => (x.kind, x.key))) == [(.linkLoss, some 0)]) = true := by
  decide +kernel
/-- R24, R77: the last payload byte of an ARRIVAL of train 12 at platform 0 places the train at stop 0 tentatively. -/
theorem test_tentative_forward : ok (exec (.tentativeForward 0 (.sent 0x0C#8))
      (withLink (serving.setTrain 0 { train12 with pos := .unlocated, stop := none }) 0
        (fun l => { l with asm := .busy [1#8, 2#8, 7#8, 3#8, 1#8, 0#8] false false 0 }))) (fun t =>
    (t.links.map (·.tentative)).head? == some (some { el := 0, arrival := true, train := 12 }) &&
    (t.train? 0).any (fun x => x.pos == .atStop && x.stop == some 0 && x.saved.isSome &&
      x.arr == some { time := 30000, tentative := true }) && t.hpt.reports == []) = true := by decide +kernel
/-- R21: the worked ARRIVAL's second check byte 0x6B makes a good telegram, 0x6C a CHECK annotation. -/
theorem test_telegram_complete :
    ok (exec (.fieldTelegramComplete 0 (.sent 0x6B#8)) (withLink unit 0 (fun l =>
      { l with asm := .busy [0x21#8, 2#8, 7#8, 3#8, 1#8, 0#8, 0x3D#8, 0#8] false false 0 }))) (fun t =>
      (t.links.map (·.rx)).head? == some [.telegram { addr := 0x21#8, kind := 2#8, seq := 7#8, payload := [1#8, 0#8, 0x3D#8] } false false])
      = true ∧
    ok (exec (.fieldTelegramComplete 0 (.sent 0x6C#8)) (withLink unit 0 (fun l =>
      { l with asm := .busy [0x21#8, 2#8, 7#8, 3#8, 1#8, 0#8, 0x3D#8, 0#8] false false 0 }))) (fun t =>
      (t.links.map (·.rx)).head? == some [.annotation .check false]) = true := by decide +kernel
/-- R21: a length byte of 25 is DAMAGED, one of 24 is taken. -/
theorem test_length_damaged :
    ok (exec (.telegramLengthDamaged 0 (.sent 25#8)) (withLink unit 0 (fun l => { l with asm := .busy [1#8, 2#8, 7#8] false false 0 })))
      (fun t => (t.links.map (·.rx)).head? == some [.annotation .damaged false]) = true ∧
    ok (exec (.fieldCharacterTaken 0 (.sent 24#8)) (withLink unit 0 (fun l => { l with asm := .busy [1#8, 2#8, 7#8] false false 0 })))
      (fun t => (t.links.map (·.asm)).head? == some (.busy [1#8, 2#8, 7#8, 24#8] false false 0)) = true := by decide +kernel
/-- R20: an undoubled lead byte ends the telegram as FRAGMENT and begins another with the character after it. -/
theorem test_lead_byte_fragment : ok (exec (.leadByteFragment 0 (.sent 0x21#8))
      (withLink unit 0 (fun l => { l with asm := .busy [1#8, 2#8] false true 0 }))) (fun t =>
    (t.links.map (·.rx)).head? == some [.annotation .fragment false] &&
    (t.links.map (·.asm)).head? == some (.busy [0x21#8] false false 0)) = true := by decide +kernel
/-- R22: the gap brings the tick beyond 20 ms after the last character. -/
theorem test_field_gap : ok (exec (.fieldGapTimeout 0) (withLink unit 0 (fun l => { l with asm := .busy [1#8] false false 100 })))
    (fun t => t.tick == 121 && (t.links.map (·.rx)).head? == some [.annotation .fragment false] &&
      (t.links.map (·.asm)).head? == some .hunting) = true := by decide +kernel
/-- R19, R20: a lead byte begins a telegram; a damaged byte is taken and marks it. -/
theorem test_field_character :
    ok (exec (.fieldCharacterTaken 0 (.sent 0x96#8)) unit) (fun t => (t.links.map (·.asm)).head? == some (.busy [] false false 0))
      = true ∧
    ok (exec (.fieldCharacterTaken 0 (.bits 3#8 false true)) (withLink unit 0 (fun l => { l with asm := .busy [1#8] false false 0 })))
      (fun t => (t.links.map (·.asm)).head? == some (.busy [1#8, 3#8] true false 0)) = true := by decide +kernel
/-- R19: 3 has two ones, so its parity bit is 1; another parity bit, or a stop bit that is not at mark, damages it. -/
theorem test_receiver_judges : (FieldChar.bits 3#8 true true).judged = .good 3#8 ∧ (FieldChar.bits 3#8 false true).judged = .damaged 3#8 ∧
    (FieldChar.bits 3#8 true false).judged = .damaged 3#8 ∧ FieldChar.sent 0x96#8 = .bits 0x96#8 true true ∧
    (HostChar.bits 3#8 false).judged = .faulty := by decide +kernel
/-- R20, R169: a break within a telegram marks it damaged, a break within a frame discards it. -/
theorem test_breaks : ok (exec (.fieldCharacterTaken 0 .lineBreak) (withLink unit 0 (fun l => { l with asm := .busy [1#8] false false 0 })))
      (fun t => (t.links.map (·.asm)).head? == some (.busy [1#8] true false 0)) = true ∧
    ok (exec (.hostFrameDiscard .lineBreak) (unit.setReceiver (.busy [0#8] false 0)))
      (fun t => t.hpt.flags.hostFrameError && t.hpt.receiver == .hunting) = true := by decide +kernel
/-- R40, R112: feeder 5 reports CLOSED, so section 0 is LIVE. -/
theorem test_mirror_take_entry : ok (exec (.mirrorTakeEntry 1) (withLink unit 1 (fun l =>
      { l with rx := [.telegram { addr := 1#8, kind := 1#8, seq := 9#8, payload := [1#8, 2#8] } false false] }))) (fun t =>
    (t.mirror.map (·.value))[5]? == some (some (.breaker .closed)) && (t.tsv.sects.map (·.state)) == [.live, .dead] &&
    reportsOf t == [(0x20, some 1, some 3)] && t.hpt.reports.map (·.subject) == [some (.sect 0)]) = true := by decide +kernel
/-- R122, R136: a TRIP of the LIVE section's feeder makes it TRIPPED and raises POWER_TRIP, which holds station 0. -/
theorem test_trip : ok (exec (.mirrorTakeEntry 1) (withLink
      ((withEntry unit 5 (fun e => { e with value := some (.breaker .closed) })).modSect 0 (fun r => { r with state := .live })) 1
      (fun l => { l with rx := [.telegram { addr := 1#8, kind := 2#8, seq := 9#8, payload := [3#8] } false false] }))) (fun t =>
    (t.tsv.sects.map (·.state)) == [.tripped, .dead] && (t.inc.table.map (fun x => (x.kind, x.key, x.severity))) ==
      [(.powerTrip, some 0, 3)] && t.rgl.heldStations == [0] && t.hpt.causes.powerAlert &&
    (t.anp.stations.map (·.incident)).head? == some (some { text := 210, p1 := 0, p2 := 0 })) = true := by decide +kernel

/-- The CLOSE_FEED of the deferred feed close: sequence 58, in a stage. -/
def closing (st : Stage) (defers : Nat) : State :=
  withEntry unit 5 (fun e => { e with state := .ordered, seq := 58,
                                      out := some { data := .closeFeed, token := 0, seq := 58, stage := st, defers := defers } })

/-- R48: the sent notice starts the answer timer of the link, 500 ms here. -/
theorem test_telegram_sent : ok (exec (.telegramSent 1) (withLink (closing .queued 0) 1 (fun l =>
      { l with sender := some { what := .order { el := 5, addr := 1, seq := 58, data := .closeFeed, token := 0 }, left := [] } })))
    (fun t => (t.mirror.map (fun e => e.out.map (·.stage)))[5]? == some (some (.sent 500)) &&
      (t.links.map (·.sender))[1]? == some none) = true := by decide +kernel
/-- R50: ANSWER 58 DEFER; R51: the push of OPEN sends the order again with sequence 59. -/
theorem test_deferred_close :
    ok (exec (.mirrorTakeEntry 1) (withLink (closing (.sent 500) 0) 1 (fun l =>
      { l with rx := [.telegram { addr := 1#8, kind := 3#8, seq := 58#8, payload := [2#8, 0#8] } false false] })))
      (fun t => (t.mirror.map (fun e => e.out.map (fun o => (o.stage, o.defers))))[5]? == some (some (.pushWait 500, 1))) = true ∧
    ok (exec (.mirrorTakeEntry 1) (withLink (closing (.pushWait 500) 1) 1 (fun l =>
      { l with rx := [.telegram { addr := 1#8, kind := 1#8, seq := 3#8, payload := [1#8, 0#8] } false false] })))
      (fun t => (t.mirror.map (fun e => e.out.map (fun o => (o.seq, o.stage, o.defers))))[5]? == some (some (59, .queued, 1))) =
        true := by decide +kernel
/-- A REJECT with reason 9 of the outstanding close while another close waits. -/
def rejecting (tx : List TxEntry) : State :=
  withLink (withEntry (closing (.sent 500) 0) 5 (fun e => { e with succ := some ⟨.closeFeed, 7⟩ })) 1 (fun l =>
    { l with sender := some { what := .poll 7 3 1, left := [] }, tx := tx,
             rx := [.telegram { addr := 1#8, kind := 3#8, seq := 58#8, payload := [3#8, 9#8] } false false] })
/-- R42, R46, R54: the successor follows with sequence 59; where the queue is full it fails LINK_FULL after the REJECTED report. -/
theorem test_successor : ok (exec (.mirrorTakeEntry 1) (rejecting [])) (fun t =>
      (t.mirror.map (fun e => e.out.map (fun o => (o.token, o.seq))))[5]? == some (some (7, 59)) &&
      reportsOf t == [(0x40, some 0x12, some 9)]) = true ∧
    ok (exec (.mirrorTakeEntry 1) (rejecting (List.replicate 12 { el := 8, addr := 4, seq := 1, data := .closeFeed, token := 99 })))
      (fun t => (t.mirror.map (·.state))[5]? == some .held &&
        reportsOf t == [(0x40, some 0x12, some 9), (0x40, some 0x19, some 0x12)]) = true := by decide +kernel
/-- R48: ORDER_FAILED with TIMEOUT 0x14 and the order code 0x12; the element is UNKNOWN and polled. -/
theorem test_answer_timeout : ok (exec (.answerTimeout 5) (closing (.sent 500) 0)) (fun t =>
    t.tick == 500 && reportsOf t == [(0x40, some 0x14, some 0x12)] && (t.mirror.map (·.state))[5]? == some .unknown &&
    (t.links.map (fun l => l.sender.map (·.what)))[1]? == some (some (.poll 5 1 59))) = true := by decide +kernel
theorem test_exec_timeout : ok (exec (.execTimeout 5) (closing (.executing 8000) 0)) (fun t =>
    t.tick == 8000 && reportsOf t == [(0x40, some 0x15, some 0x12)]) = true := by decide +kernel
theorem test_no_push : ok (exec (.noPush 5) (closing (.pushWait 500) 1)) (fun t =>
    reportsOf t == [(0x40, some 0x17, some 0x12)] && (t.mirror.map (·.out))[5]? == some none) = true ∧
    ok (exec (.noPush 5) (closing (.sent 500) 1)) (fun t => t.hpt.reports == []) = true := by decide +kernel
/-- R56: a silent platform is UNKNOWN; its value is kept. -/
theorem test_element_silent : ok (exec (.elementSilent 0)
      (withEntry unit 0 (fun e => { e with poll := some { seq := 1, deadline := 500 } }))) (fun t =>
    reportsOf t == [(0x41, none, none)] && (t.mirror.map (fun e => (e.state, e.value))).head? == some (.unknown, some stop)) =
    true := by decide +kernel
/-- R33: LOOPBACK from UP fails the link's elements; an unused link is NOT_FOUND. -/
theorem test_link_mode_loopback : ok (exec (.linkModeLoopback 1#8 0#8) unit) (fun t =>
    (t.links.map (·.state)).head? == some .loopback && (t.mirror.map (·.state)).head? == some .unknown &&
    reportsOf t == [(0x42, some 2, some 3)]) = true ∧ refusedWith (.linkModeLoopback 1#8 2#8) unit [5#8] = true := by
  decide +kernel
/-- R34: NORMAL with a carrier makes the looped link UP. -/
theorem test_link_mode_normal : ok (exec (.linkModeNormal 1#8 0#8) (withLink unit 0 (fun l => { l with state := .loopback })))
    (fun t => (t.links.map (·.state)).head? == some .up && reportsOf t == [(0x42, some 3, some 2)]) = true := by decide +kernel
/-- R35: the CHECK and OVERRUN flags are answered and cleared. -/
theorem test_link_query : ok (exec (.linkQuery 1#8 [0#8])
      { (withLink unit 0 (fun l => { l with errCheck := true, errOverrun := true })) with
        hpt := { unit.hpt with causes := { Causes.none with linkFault := true } } }) (fun t =>
    (t.links.map LinkRec.anyError).head? == some false && !t.hpt.causes.linkFault &&
    t.hpt.replies.map (·.data) == [[2#8, 1#8, 0#8, 0#8, 0#8, 0#8, 0#8, 0#8, 0#8, 0#8, 0#8, 9#8]]) = true := by decide +kernel
/-- R57: element 5, a breaker on link 1 at address 1, HELD, REMOTE, OPEN. -/
theorem test_element_query : ok (exec (.elementQuery 1#8 [5#8]) unit) (fun t =>
    t.hpt.replies.map (fun r => r.data.take 9) == [[5#8, 1#8, 1#8, 1#8, 2#8, 1#8, 1#8, 0#8, 0#8]]) = true ∧
    refusedWith (.elementQuery 1#8 [9#8]) unit [5#8] = true := by decide +kernel
theorem test_element_poll : doneWith (.elementPoll 1#8 [5#8]) unit [0#8] = true ∧
    doneWith (.elementPoll 1#8 [5#8]) (withLink unit 1 (fun l => { l with state := .down })) [2#8] = true := by decide +kernel

/-! ### The timetable window (04) -/

/-- The worked sequence at 30,152 and 30,155: trip 311 clashes with trip 307 at position 1; trip 309 alone is taken. -/
theorem test_tt_append :
    refusedWith (.ttAppend 1#8 (u8 2 ++ (entry 309 0 30530 none).sent ++ (entry 311 0 30410 none).sent)) timetabled
      [0x11#8, 1#8] = true ∧
    ok (exec (.ttAppend 1#8 (u8 1 ++ (entry 309 0 30530 none).sent)) timetabled) (fun t =>
      t.window.entries.map (·.trip) == [303, 305, 307, 309] && t.hpt.replies.map (·.data) == [u8 1 ++ u16 1020]) = true := by
  decide +kernel
/-- The worked sequence at 30,240 and 30,262: 307 moves to 30,420; the MATCHED entry is BUSY. -/
theorem test_tt_amend :
    ok (exec (.ttAmend 1#8 (entry 307 0 30420 none).sent) timetabled) (fun t =>
      t.window.entries.map (·.p) == [30170, 30290, 30420]) = true ∧
    refusedWith (.ttAmend 1#8 (entry 303 0 30180 none).sent) timetabled [0x13#8] = true := by decide +kernel
theorem test_tt_cancel :
    ok (exec (.ttCancel 1#8 (u16 305)) timetabled) (fun t => t.window.entries.map (·.trip) == [303, 307] &&
      t.hpt.replies.map (·.data) == [u16 1 ++ u16 0]) = true ∧
    doneWith (.ttCancel 1#8 (u16 303)) timetabled (u16 0 ++ u16 1) = true := by decide +kernel
theorem test_tt_query : ok (exec (.ttQuery 1#8 (u8 0 ++ u16 0 ++ u16 1)) timetabled) (fun t =>
    t.hpt.replies.map (fun r => r.data.take 5) == [[0#8, 3#8, 2#8, 1#8, 0x31#8]]) = true ∧
    refusedWith (.ttQuery 1#8 (u8 0 ++ u16 4 ++ u16 0)) timetabled [4#8] = true := by decide +kernel

/-! ### The train register and the regulator (05, 06) -/

/-- R86: the lowest free slot; an identity in service is DUPLICATE. -/
theorem test_train_add :
    ok (exec (.trainAdd 1#8 [0#8, 13#8, 1#8, 0#8, 0#8]) standing) (fun t =>
      t.hpt.replies.map (·.data) == [[1#8]] && (t.train? 1).any (fun x => x.id == 13 && x.dir == .down && x.pos == .unlocated &&
        x.trip == none)) = true ∧
    refusedWith (.trainAdd 1#8 [0#8, 12#8, 0#8, 0#8, 0#8]) standing [0x10#8] = true := by decide +kernel
/-- R87: a second trip follows; the third of two following is TABLE_FULL. -/
theorem test_train_assign :
    ok (exec (.trainAssign 1#8 [0#8, 12#8, 1#8, 0x9A#8]) standing) (fun t => t.hpt.replies.map (·.data) == [[1#8]] &&
      (t.train? 0).any (fun x => x.following == [410])) = true ∧
    refusedWith (.trainAssign 1#8 [0#8, 12#8, 1#8, 0x9A#8]) (standing.setTrain 0 { train12 with following := [1, 2] }) [0x12#8] =
      true := by decide +kernel
theorem test_train_remove : ok (exec (.trainRemove 1#8 [0#8, 12#8]) standing) (fun t =>
    (t.train? 0).isNone && (t.stand? 0).isNone && t.hpt.replies.map (·.data) == [[]]) = true ∧
    refusedWith (.trainRemove 1#8 [0#8, 13#8]) standing [5#8] = true := by decide +kernel
/-- R91, R93, R102: a hold on a RELEASED stand revokes its RELEASE. -/
theorem test_train_hold :
    ok (exec (.trainHold 1#8 [0#8, 12#8]) standing) (fun t => t.hpt.replies.map (·.data) == [[1#8]] && t.hostHeld 0) = true ∧
    ok (exec (.trainHold 1#8 [0#8, 12#8]) (standing.putStand 0 { stand0 with phase := some .released, permit := .granted 1,
                                                                             order := .release 900 }))
      (fun t => (t.mirror.map (fun e => e.out.map (·.data))).head? == some (some (.revoke 12))) = true := by decide +kernel
/-- R91, R101: a HELD stand that is freed asks for a permit anew. -/
theorem test_train_unhold : ok (exec (.trainUnhold 1#8 [0#8, 12#8])
      (((standing.putStand 0 { stand0 with phase := some .held }).setHostHold 0 true).modSect 0
        (fun r => { r with state := .live }))) (fun t =>
    t.hpt.replies.map (·.data) == [[0#8]] && (t.stand? 0).any (fun x => x.phase == some .released && x.permit == .granted 0) &&
    t.tsv.permits.map (·.train) == [12]) = true := by decide +kernel
theorem test_train_query : doneWith (.trainQuery 1#8 [1#8, 0#8, 39#8]) standing [0#8] = true ∧
    ok (exec (.trainQuery 1#8 [0#8, 0#8, 12#8]) standing) (fun t =>
      t.hpt.replies.map (fun r => r.data.take 7) == [[0#8, 12#8, 0#8, 2#8, 0#8, 1#8, 0x31#8]]) = true := by decide +kernel
theorem test_reg_set : doneWith (.regSet 1#8 [8#8, 3#8, 0x84#8]) unit [8#8, 3#8, 0x84#8] = true ∧
    refusedWith (.regSet 1#8 [9#8, 0#8, 60#8]) unit [4#8] = true := by decide +kernel
/-- R84: the start window's end: RUN, the permit ended, the estimate lowered from 20 to the run load 16. -/
theorem test_start_window : ok (exec (.startWindowDeadline 0)
      (((serving.setTrain 0 { train12 with pos := .running, permit := true, phase := .starting, startDeadline := some 20000 }).setPermits
        [{ train := 12, sect := 0, granted := 30000 }]).setSubs
          [{ SubRec.built { capacity := 100, meter := 7, feeders := [5, 6] } with estimate := 20 }])) (fun t =>
    t.tick == 20000 && t.tsv.permits == [] && (t.train? 0).any (fun x => x.phase == .run && !x.permit) &&
    (t.tsv.subs.map (·.estimate)) == [16]) = true := by decide +kernel
/-- R25, R79, R80: the arrival forwarded above is confirmed when its check word matches: sum 0x01+0x02+0x07+0x03+0x01+0x0C. -/
theorem test_arrival_confirmed : ok (exec (.fieldTelegramComplete 0 (.sent 0x1A#8))
      (withLink
        { (serving.setTrain 0 { train12 with saved := some { pos := .unlocated, stop := none, arr := none, dep := none },
                                             arr := some { time := 30000, tentative := true } }) with
          reg := { (serving.setTrain 0 { train12 with
                      saved := some { pos := .unlocated, stop := none, arr := none, dep := none },
                      arr := some { time := 30000, tentative := true } }).reg with
            tentative := [some { el := 0, arrival := true, train := 12, stop := some 0, status := .applied }, none, none, none,
              none, none, none, none] } } 0
        (fun l => { l with asm := .busy [1#8, 2#8, 7#8, 3#8, 1#8, 0#8, 12#8, 0#8] false false 0,
                           tentative := some { el := 0, arrival := true, train := 12 } }))) (fun t =>
    (t.train? 0).any (fun x => x.pos == .atStop && x.saved.isNone && x.arr == some { time := 30000, tentative := false }) &&
    (t.reg.tentative.map Option.isNone) == List.replicate 8 true &&
    (reportsOf t).head? == some (0x10, some 0, some 1000)) = true := by decide +kernel

/-! ### Traction power (07) -/

/-- R115, R116: a DEAD section without a tie becomes PRECHARGE and its first feeder is ordered CLOSE_PRECHARGE; with LOCKOUT
it is LOCKED. -/
theorem test_sec_energize :
    ok (exec (.secEnergize 1#8 [0#8]) unit) (fun t => (t.tsv.sects.map (·.state)) == [.precharge, .dead] &&
      (t.mirror.map (fun e => e.out.map (·.data)))[5]? == some (some .closePrecharge)) = true ∧
    refusedWith (.secEnergize 1#8 [0#8]) (unit.modSect 0 (fun r => { r with lockout := true })) [0x14#8] = true := by
  decide +kernel
/-- R120: a LIVE section becomes ISOLATING and its closed feeder is ordered OPEN. -/
theorem test_sec_isolate : ok (exec (.secIsolate 1#8 [0#8])
      ((withEntry unit 5 (fun e => { e with value := some (.breaker .closed) })).modSect 0 (fun r => { r with state := .live })))
    (fun t => (t.tsv.sects.map (·.state)) == [.isolating, .dead] &&
      (t.mirror.map (fun e => e.out.map (·.data)))[5]? == some (some .openBreaker)) = true ∧
    refusedWith (.secIsolate 1#8 [24#8]) unit [4#8] = true := by decide +kernel
theorem test_sec_unlock : ok (exec (.secUnlock 1#8 [0#8])
      { (unit.modSect 0 (fun r => { r with lockout := true })) with
        hpt := { unit.hpt with causes := { Causes.none with powerAlert := true } } }) (fun t =>
    (t.tsv.sects.map (·.lockout)) == [false, false] && t.hpt.replies.map (·.data) == [[1#8, 0#8]] && !t.hpt.causes.powerAlert) =
    true := by decide +kernel
/-- R125: a DEAD pair becomes TIED; with a LIVE section it is WRONG_STATE. -/
theorem test_pair_mode :
    ok (exec (.pairMode 1#8 [0#8, 1#8]) unit) (fun t => (t.tsv.pairs.map (·.mode)) == [.tied]) = true ∧
    refusedWith (.pairMode 1#8 [0#8, 1#8]) (unit.modSect 0 (fun r => { r with state := .live })) [3#8] = true := by
  decide +kernel
theorem test_sec_query : ok (exec (.secQuery 1#8 [0#8]) unit) (fun t =>
    t.hpt.replies.map (fun r => r.data.take 6) == [[1#8, 0#8, 1#8, 5#8, 2#8, 0#8]]) = true ∧
    refusedWith (.secQuery 1#8 [2#8]) unit [5#8] = true := by decide +kernel

/-- Section 0 in its precharge time, which ends at 10,000, with a voltage taken since. -/
def precharging (v : Option Nat) : State :=
  (withEntry unit 5 (fun e => { e with value := some (.breaker .precharged) })).modSect 0
    (fun r => { r with state := .precharge, seq := some (.energize 0 (.precharge 10000) [5] (some 0) v) })

/-- R117, R118: the threshold of a nominal 750 V is 600 V: 640 V closes the feeder, 599 V fails the charge. -/
theorem test_precharge_expiry :
    ok (exec (.prechargeTimerExpiry 0) (precharging (some 640))) (fun t => t.tick == 10000 &&
      (t.mirror.map (fun e => e.out.map (·.data)))[5]? == some (some .closeFeed)) = true ∧
    ok (exec (.prechargeTimerExpiry 0) (precharging (some 599))) (fun t => (t.tsv.sects.map (·.lockout)) == [true, false] &&
      (t.tsv.sects.map (·.state)) == [.isolating, .dead] && (t.inc.table.map (fun x => (x.kind, x.key))) == [(.chargeFail, some 0)] &&
      (t.mirror.map (fun e => e.out.map (·.data)))[5]? == some (some .openBreaker)) = true := by decide +kernel
/-- R124, R130: the debounce ends: LOW, POWER_LOSS, and the section's request is removed. -/
theorem test_voltage_timer : ok (exec (.voltageTimerExpiry 0)
      ((unit.modSect 0 (fun r => { r with state := .live, timer := .debounce 3000 })).setWaitList
        [{ train := 12, sect := 0, joined := 0, reported := false }])) (fun t =>
    (t.tsv.sects.map (·.low)) == [true, false] && t.tsv.waitList == [] && (t.inc.table.map (·.kind)) == [.powerLoss]) = true ∧
    ok (exec (.voltageTimerExpiry 0) unit) (fun t => t == unit) = true := by decide +kernel
/-- R124, R129: a LOW section that leaves LIVE has its flag cleared, and the wait list is examined again. -/
theorem test_low_leaves_live : ok (exec (.secIsolate 1#8 [0#8]) (((unit.modSect 0 (fun r => { r with state := .live, low := true })).modSect 1
      (fun r => { r with state := .live })).setWaitList [{ train := 12, sect := 1, joined := 0, reported := false }])) (fun t =>
    t.tsv.waitList == [] && (t.tsv.sects.map (·.low)) == [false, false]) = true := by decide +kernel
theorem test_meter_stale : ok (exec (.meterStale 0) (unit.setSubs
      [{ SubRec.built { capacity := 100, meter := 7, feeders := [5, 6] } with meas := some (120, 5000), fresh := true,
                                                                              overload := true }])) (fun t =>
    t.tick == 15000 && (t.tsv.subs.map (fun r => (r.fresh, r.overload))) == [(false, false)] && reportsOf t == [(0x21 + 1, none, none)]) =
    true := by decide +kernel
theorem test_permit_wait_long : ok (exec (.permitWaitLong 12) (unit.setWaitList
      [{ train := 12, sect := 0, joined := 1000, reported := false }])) (fun t =>
    reportsOf t == [(0x18, some 0, some 60)] && (t.tsv.waitList.map (·.reported)) == [true]) = true := by decide +kernel

/-! ### Incidents (08) -/

/-- The tunnel trip at 61,060 and 61,090: severity 3 rises to 4 with 30 s more; at 4 the incident is widened. -/
theorem test_escalation :
    ok (exec (.escalationDeadline 57) (troubled (incident 57 3 (some 61060000)))) (fun t =>
      (t.inc.table.map (fun x => (x.severity, x.deadline, x.widened))) == [(4, some 61090000, false)] &&
      reportsOf t == [(0x32, some 4, some 0)]) = true ∧
    ok (exec (.escalationDeadline 57) (troubled (incident 57 4 (some 61090000)))) (fun t =>
      (t.inc.table.map (fun x => (x.severity, x.deadline, x.widened))) == [(4, none, true)] &&
      (t.anp.stations.map (·.incident)) == [some { text := 215, p1 := 33, p2 := 0 }, some { text := 215, p1 := 33, p2 := 0 }]) =
      true := by decide +kernel
/-- Section 0 LIVE by its closed feeder. -/
def sectionLive (s : State) : State :=
  (withEntry s 5 (fun e => { e with value := some (.breaker .closed) })).modSect 0 (fun r => { r with state := .live })

/-- R139, R147, R148: an EQUIPMENT incident over stations 0..1 that holds and isolates section 1. -/
theorem test_inc_raise :
    ok (exec (.incRaise 1#8 [4#8, 2#8, 0#8, 1#8, 3#8, 0#8, 0#8, 0#8, 0#8, 0#8, 0#8, 1#8, 1#8]) unit) (fun t =>
      t.hpt.replies.map (·.data) == [[0#8, 1#8]] && t.rgl.heldStations == [0, 1] && (t.tsv.sects.map (·.demand)) == [false, true] &&
      reportsOf t == [(0x30, some 4, some 2)] && (t.inc.table.map (·.deadline)) == [some 120000]) = true ∧
    refusedWith (.incRaise 1#8 [4#8, 5#8, 0#8, 1#8, 3#8, 0#8, 0#8, 0#8, 0#8, 0#8, 0#8, 0#8]) unit [4#8] = true := by
  decide +kernel
/-- R146, R149: an incident of severity 2 isolates the section train 12 runs in; STRANDED of severity 3 has the layer of station 0. -/
theorem test_stranded_content : ok (exec (.incRaise 1#8 [4#8, 2#8, 0#8, 1#8, 2#8, 1#8, 0#8, 9#8, 0#8, 0#8, 0#8, 1#8, 0#8])
      { (sectionLive (serving.setTrain 0 { train12 with pos := .running, phase := .run })) with
        tsv := { (sectionLive unit).tsv with
          loads := some { train := 12, phase := .run, level := 0, sect := some 0, running := true } :: List.replicate 39 none } }) (fun t =>
    (t.inc.table.map (fun x => (x.kind, x.severity))) == [(.equipment, 2), (.stranded, 3)] &&
    (t.anp.stations.map (fun r => r.incident.map (·.text))) == [some 215, some 256]) = true := by decide +kernel
/-- Train 12 RUNNING in slot 0, stranded in section 0, its incident ACKNOWLEDGED. -/
def strandedUnit : State :=
  (((troubled { incident 57 3 none with key := some 12, state := .acknowledged, ackedAt := some 30005 }).setTrain 0
    { train12 with pos := .running, phase := .run }).modSect 0 (fun r => { r with stranded := [0] })).latch

/-- The load notice of train 12, RUNNING in a section. -/
def runningIn (i : Option Nat) : LoadNote := { train := 12, phase := .run, level := 0, sect := i, running := true }

/-- R131, R151: a stranded train that moves to a second dead section changes lists and adds to the count of its incident; one
that moves to a LIVE section or to none, or leaves service, is resolved. -/
theorem test_stranded_train_moves :
    (let t := settle (load 0 (runningIn (some 1)) strandedUnit)
     (t.tsv.sects.map (·.stranded)) == [[], [0]] && reportsOf t == [(0x31, some 2, some 0)] &&
      (t.inc.table.map (fun x => (x.state, x.count, x.ackedAt))) == [(.acknowledged, 2, some 30005)]) = true ∧
    (∀ t ∈ [settle (load 0 (runningIn (some 1)) (strandedUnit.modSect 1 (fun r => { r with state := .live }))),
        settle (load 0 (runningIn none) strandedUnit), settle (unload 0 12 strandedUnit)],
      ((t.tsv.sects.map (·.stranded)) == [[], []] && (t.inc.table.map (fun x => (x.state, x.count))) == [(.resolved, 1)]) = true) := by
  decide +kernel
theorem test_inc_amend : ok (exec (.incAmend 1#8 [0#8, 57#8, 1#8, 1#8, 1#8, 0#8, 0#8, 0#8, 0#8, 0#8, 0#8, 0#8]) (troubled hostIncident))
    (fun t => (t.inc.table.map (fun x => (x.span, x.hold, x.isolate, x.sects))) == [(some [1], true, false, [])] &&
      t.rgl.heldStations == [1]) = true := by decide +kernel
theorem test_inc_ack : ok (exec (.incAck 1#8 [0#8, 57#8]) (troubled hostIncident)) (fun t =>
    (t.inc.table.map (fun x => (x.state, x.deadline))) == [(.acknowledged, none)] && !t.hpt.causes.incidentOpen &&
    t.hpt.replies.map (·.data) == [[1#8]]) = true ∧
    refusedWith (.incAck 1#8 [0#8, 57#8]) (troubled { hostIncident with state := .resolved }) [3#8] = true := by decide +kernel
theorem test_inc_close : ok (exec (.incClose 1#8 [0#8, 57#8])
      { (troubled hostIncident) with inc := { (troubled hostIncident).inc with lastHeld := [0], lastDemand := [1] },
                                     rgl := { unit.rgl with heldStations := [0] } }) (fun t =>
    t.inc.table == [] && t.rgl.heldStations == [] && t.hpt.replies.map (·.data) == [[]]) = true ∧
    refusedWith (.incClose 1#8 [0#8, 58#8]) (troubled hostIncident) [5#8] = true := by decide +kernel
/-- R143: the table's own part; incident 57's fields with its deadline, the widened flag, the time remaining and its stations. -/
theorem test_inc_query : doneWith (.incQuery 1#8 [0#8, 0#8]) (troubled hostIncident)
    [1#8, 1#8, 0#8, 58#8, 0#8, 57#8, 4#8, 0#8, 3#8, 0#8] = true ∧
    doneWith (.incQuery 1#8 [0#8, 57#8]) (troubled hostIncident) ([0, 57, 4, 0, 255, 255, 3, 0, 1, 0, 1, 1, 3, 0, 0, 0, 0, 0, 0,
      0, 117, 48, 255, 255, 255, 1, 0, 234, 96, 0, 0, 234, 96, 1, 0].map (BitVec.ofNat 8)) = true := by decide +kernel

/-! ### Announcements (09) -/

/-- The worked sequence at 44,410: 302, 2, 2, SERVICE; text 0 is out of range. -/
theorem test_ann_stage : ok (exec (.annStage 1#8 [1#8, 0x2E#8, 0#8, 2#8, 0#8, 2#8, 0#8]) unit) (fun t =>
    t.anp.staging == { text := 302, p1 := 2, p2 := 2, layer := .service }) = true ∧
    refusedWith (.annStage 1#8 [0#8, 0#8, 0#8, 2#8, 0#8, 2#8, 0#8]) unit [4#8] = true := by decide +kernel

/-- Content 302/2/2 staged for SERVICE in the unit IN_SERVICE, every display CONFIRMED. -/
def staged : State :=
  { serving with anp := { serving.anp with
      staging := { text := 302, p1 := 2, p2 := 2, layer := .service }
      stations := [{ StationRec.built (some 4) 0 with status := .confirmed, lastSent := some Content.default },
                   StationRec.built none 0] } }

/-- The worked sequence at 44,412: pending at the stations named, no SHOW; with nothing staged WRONG_STATE. -/
theorem test_ann_bind : ok (exec (.annBind 1#8 [1#8, 0#8]) staged) (fun t =>
    (t.anp.stations.map (·.servicePending)) == [.content { text := 302, p1 := 2, p2 := 2 }, .absent] &&
    (t.anp.stations.map (·.status)).head? == some .confirmed && t.hpt.replies.map (·.data) == [[1#8]]) = true ∧
    refusedWith (.annBind 1#8 [1#8, 0#8]) unit [3#8] = true := by decide +kernel
/-- The worked sequence at 44,515: the empty mark is pending, the live part stands. -/
theorem test_ann_clear : ok (exec (.annClear 1#8 [0#8, 0xFF#8]) staged) (fun t =>
    (t.anp.stations.map (·.servicePending)) == [.emptyMark, .emptyMark] && t.hpt.replies.map (·.data) == [[2#8]]) = true := by
  decide +kernel
/-- R157: a release makes the pending content live and sends it: one station changed, one SHOW issued. -/
theorem test_ann_release : ok (exec (.annRelease 1#8 [1#8, 0#8]) { staged with anp := { staged.anp with
      stations := staged.anp.stations.map (fun r => { r with
        servicePending := if r.display.isSome then (.content ⟨302, 2, 2⟩) else .absent }) } }) (fun t =>
    (t.anp.stations.map (·.service)) == [some { text := 302, p1 := 2, p2 := 2 }, none] && t.hpt.replies.map (·.data) == [[1#8, 1#8]] &&
    (t.mirror.map (fun e => e.out.map (·.data)))[4]? == some (some (.showText { text := 302, p1 := 2, p2 := 2 }))) = true := by
  decide +kernel
theorem test_ann_trigger : doneWith (.annTrigger 1#8 [0#8, 2#8, 0#8]) unit [2#8, 0xFF#8] = true ∧
    refusedWith (.annTrigger 1#8 [0#8, 1#8, 4#8]) unit [5#8] = true := by decide +kernel
/-- The worked sequence at 44,460: the minute boundary fires the MINUTE trigger. -/
theorem test_minute_boundary : ok (exec .lineTimeCount { (staged.setTime 44459) with anp := { staged.anp with
      triggers := [.minute]
      stations := staged.anp.stations.map (fun r => { r with servicePending := .content { text := 302, p1 := 2, p2 := 2 } }) } })
    (fun t => t.clock.time == 44460 && (t.anp.stations.map (·.status)) == [.sending, .noDisplay] &&
      (t.anp.stations.map (·.inFlight)) == [1, 0]) = true := by decide +kernel
theorem test_ann_query : ok (exec (.annQuery 1#8 [0#8]) staged) (fun t =>
    t.hpt.replies.map (fun r => r.data.take 4) == [[4#8, 0#8, 0#8, 0xFF#8]]) = true ∧
    refusedWith (.annQuery 1#8 [2#8]) staged [5#8] = true := by decide +kernel

/-! ### The host port (10) -/

def receiving (bytes : List Byte) (lead : Bool) : State := unit.setReceiver (.busy bytes lead 0)

/-- Section 11.1: the last character of the worked frame runs READ_CONDITIONS: RESTARTED is answered and cleared. -/
theorem test_host_character : ok (exec (.hostCharacterTaken (.bits 0xAC#8 true)) (receiving [0#8, 2#8, 0x81#8, 5#8, 0x92#8] false))
    (fun t => t.hpt.replies == [{ refused := false, tag := 5#8, data := [1#8, 0#8, 0#8] }] && t.hpt.flags == Conditions.none &&
      t.hpt.receiver == .hunting) = true ∧
    ok (exec (.hostCharacterTaken (.bits 0xAD#8 true)) (receiving [0#8, 2#8, 0x81#8, 5#8, 0x92#8] false))
    (fun t => t.hpt.replies == [] && t.hpt.flags.hostFrameError) = true := by decide +kernel
/-- R170, R171: a length of 1 and of 1,023 discard the frame. -/
theorem test_frame_discard : ok (exec (.hostFrameDiscard (.bits 1#8 true)) (receiving [0#8] false)) (fun t =>
    t.hpt.flags.hostFrameError && t.hpt.receiver == .hunting) = true ∧
    ok (exec (.hostFrameDiscard (.bits 0xFF#8 true)) (receiving [3#8] false)) (fun t => t.hpt.flags.hostFrameError) = true := by
  decide +kernel
theorem test_host_gap : ok (exec .hostGapTimeout (receiving [0#8] false)) (fun t =>
    t.tick == 51 && t.hpt.flags.hostFrameError && t.hpt.receiver == .hunting) = true := by decide +kernel
theorem test_reply_sent : ok (exec .replySent
      { unit with hpt := { unit.hpt with replies := [{ refused := false, tag := 1#8, data := [] }, { refused := true, tag := 2#8, data := [] }] } })
    (fun t => t.hpt.replies.map (·.tag) == [2#8]) = true := by decide +kernel
theorem test_unknown_kind : refusedWith (.unknownKind 0x83#8 9#8 [1#8]) unit [1#8] = true := by decide +kernel
def dayLimit : Report := { kind := .serviceDayLimit, time := 107999, subject := none, detail1 := none, detail2 := none }

/-- R177: two of three reports, one left. -/
theorem test_fetch_reports : ok (exec (.fetchReports 1#8 [2#8]) { unit with hpt := { unit.hpt with reports := [dayLimit, dayLimit, dayLimit] } }) (fun t =>
    t.hpt.reports.length == 1 && t.hpt.replies.map (fun r => (r.data.length, r.data.take 3)) == [(30, [2#8, 1#8, 0x61#8])]) = true ∧
    refusedWith (.fetchReports 1#8 [17#8]) unit [4#8] = true := by decide +kernel
/-- R179: a standing cause's flag is returned and set again. -/
theorem test_read_conditions : ok (exec (.readConditions 1#8 [])
      { (troubled hostIncident) with hpt := { (troubled hostIncident).hpt with
          flags := { Conditions.restart with incidentOpen := true } } }) (fun t =>
    t.hpt.replies.map (·.data) == [[0x21#8, 0x20#8, 0#8]] && t.hpt.flags.toNat == 0x20) = true := by decide +kernel
/-- R180, R181: with RESTARTED masked and no reports the pin is quiet; 0x80 names no condition. -/
theorem test_set_masks : ok (exec (.setMasks 1#8 [1#8, 0x3F#8, 0#8]) unit) (fun t => unit.attn && !t.attn) = true ∧
    refusedWith (.setMasks 1#8 [0x80#8, 0#8, 0#8]) unit [4#8] = true := by decide +kernel
/-- Log entry 4: an empty queue lets one millisecond pass; a step takes the front of the queue. -/
theorem test_step : ok (step unit) (fun t => t.tick == 1) = true ∧
    ok (step (unit.setPending [.replySent, .lineTimeCount])) (fun t => t.pending == [.lineTimeCount]) = true := by decide +kernel

/-- R181: the level of the ATTN pin over that of the RESET pin (log entry 22). -/
theorem test_attn_pin : (!unit.attnPin true && unit.attnPin false) = true := by decide +kernel

/-- Train 12's stand as a SUSPEND in WAITING_PERMIT left it: DWELL 3 is in flight. -/
def dwelled : Stand := { stand0 with phase := some .noRegulation, order := .dwell 3 }

/-- R98: a DWELL that the one of RESUME has followed is timed out, DWELL_ORDER_FAILED is reported, and the platform order,
which has moved on, stays (log entry 20). -/
theorem test_earlier_dwell :
    (let s := ((serving.setTrain 0 train12).putStand 0 dwelled)
     let t := s.startDwelling 0 12 dwelled (s.plan 0 0 none)
     let u := t.platformOutcome { el := 0, data := .dwell 12 0 0, token := 3, result := .timeout, atIssue := false }
     (u.stand? 0).map (fun st => (st.order == .dwell s.nextToken, st.earlier)) == some (true, [])
       && u.agenda.length == t.agenda.length + 1 && (t.stand? 0).map (·.earlier) == some [3]) = true := by decide +kernel

/-- Train 12 TURNING at stop 1, with its start window running, on an applied tentative arrival at stop 0. -/
def turningBack : State :=
  serving.setTrain 0 { train12 with permit := true, phase := .starting, startDeadline := some 20000,
                                    arr := some { time := 29990, tentative := true },
                                    saved := some { pos := .turning, stop := some 1, arr := none, dep := none } }

/-- R84, R85, R82: it counts as TURNING, so its phase is AUX, and stays so when the arrival is withdrawn. -/
theorem test_start_window_tentative :
    ok (exec (.startWindowDeadline 0) turningBack) (fun t => (t.train? 0).any (fun x => x.phase == .aux && !x.permit &&
      x.startDeadline.isNone && x.pos == .atStop) &&
      ((t.train? 0).map Train.restored).any (fun x => x.phase == .aux && x.pos == .turning)) = true := by decide +kernel

/-- Log entry 30: breaker 5 found TRIPPED counts as open when HELD or REPORTED, and not while its OPEN is outstanding. -/
theorem test_tripped_counts :
    (([MirrorState.held, .reported, .ordered].map (fun x =>
      (withEntry unit 5 (fun e => { e with state := x, value := some (.breaker .tripped) })).countsOpen 5)) ==
        [true, true, false]) = true := by decide +kernel

/-- Log entry 43: 0xFF within the feeder count is element 255, beyond it nothing. -/
theorem test_feeder_255 :
    ((readSection [2#8, 5#8, 0xFF#8, 10#8, 0#8, 0xFF#8, 0#8] 0).feeders == [5, 255]) = true ∧
    ((readSection [1#8, 5#8, 0xFF#8, 10#8, 0#8, 0xFF#8, 0#8] 0).feeders == [5]) = true ∧
    ((readSubstation ([0#8, 100#8, 7#8, 1#8] ++ List.replicate 8 0xFF#8) 0).feeders == [255]) = true := by decide +kernel

/-! ### For every statement with hypotheses, states and operands that meet them -/

def isSettled (s : State) : Bool := decide (s.agenda = []) && decide (s.hpt.causes = s.causesNow)
def isReady (s : State) : Bool := isSettled s && decide (s.hpt.replies.length < 16)
def isLinked (s : State) : Bool := s.links.length == 8 && s.links.all (fun l => decide (l.rx.length ≤ 16 ∧ l.tx.length ≤ 12))

theorem settled_of {s : State} (h : isSettled s = true) : s.settled := by
  simp only [isSettled, Bool.and_eq_true, decide_eq_true_eq] at h
  exact h
theorem ready_of {s : State} (h : isReady s = true) : s.ready := by
  simp only [isReady, Bool.and_eq_true, decide_eq_true_eq] at h
  exact ⟨settled_of h.1, h.2⟩
theorem linked_of {s : State} (h : isLinked s = true) : s.linksBounded := by
  simp only [isLinked, Bool.and_eq_true, beq_iff_eq, List.all_eq_true, decide_eq_true_eq] at h
  exact h

def inState (x : ServiceState) : State := unit.setService x

/-- A unit whose causes stand as its tables say, made from one whose fields were set by hand. -/
def current (s : State) : State := { s with hpt := { s.hpt with causes := s.causesNow } }

theorem unit_ready : unit.ready := ready_of (by decide +kernel)
theorem serving_ready : serving.ready := ready_of (by decide +kernel)
theorem standing_ready : standing.ready := ready_of (by decide +kernel)
theorem reset_ready : State.reset.ready := ready_of (by decide +kernel)
theorem loaded_ready : loaded.ready := ready_of (by decide +kernel)

/-! The queue, the step, every command -/

theorem witness_EmptyQueueLetsOneMillisecondPass : unit.pending = [] := by decide +kernel
theorem witness_CommandsCompleteOrFaultAndKeepTheQueue :
    (Instr.carrierReturn 7).wellFormed = true ∧ (Instr.carrierReturn 8).wellFormed = false ∧
    (∃ t, exec .replySent unit = .next t) := ⟨by decide +kernel, by decide +kernel, _, rfl⟩
theorem witness_ResetAndPowerOnValues : unit.linksBounded := linked_of (by decide +kernel)
/-- At the bounds: 64 reports, line time 107,999. -/
theorem witness_EveryStepKeepsTheBounds : ∃ s t : State, s.reportsBounded ∧ s.timeBounded ∧ s.linksBounded ∧
    s.incidentsBounded ∧ s.windowBounded ∧ s.slotsShaped ∧ s.tablesBounded ∧ s.hpt.reports.length = 64 ∧ s.clock.time = 107999 ∧
    step s = .next t :=
  ⟨(unit.setReports (List.replicate 64 dayLimit)).setTime 107999, _,
    by unfold State.reportsBounded; decide +kernel, by unfold State.timeBounded; decide +kernel, linked_of (by decide +kernel),
    by unfold State.incidentsBounded; decide +kernel, by unfold State.windowBounded; decide +kernel,
    by unfold State.slotsShaped; decide +kernel, by unfold State.tablesBounded; decide +kernel, by decide +kernel,
    by decide +kernel, rfl⟩
theorem witness_EveryStepLeavesTheUnitSettled : ∃ s t : State, s.settled ∧ s.repliesBounded ∧ s.hpt.replies.length = 16 ∧
    step s = .next t :=
  ⟨{ unit with hpt := { unit.hpt with replies := List.replicate 16 { refused := false, tag := 0#8, data := [] } } }, _,
    settled_of (by decide +kernel), by unfold State.repliesBounded; decide +kernel, by decide +kernel, rfl⟩
theorem witness_EveryStepKeepsTheWindowLawful : windowLawful timetabled.window.entries ∧ ∃ t, step timetabled = .next t :=
  ⟨by unfold windowLawful; decide +kernel, _, rfl⟩
theorem witness_OnlyTheirCommandsChangeTheSettings : (∃ t, exec .replySent unit = .next t) ∧
    (∀ a b, Instr.replySent ≠ .powerOnReset a b) ∧ (∀ x, Instr.replySent ≠ .hostCharacterTaken x) ∧
    changesLine .replySent = false ∧ changesLine .lineTimeCount = true ∧ (∀ g d, Instr.replySent ≠ .annTrigger g d) ∧
    (∀ g d, Instr.replySent ≠ .setMasks g d) ∧ (∀ g d, Instr.replySent ≠ .annStage g d) ∧
    (∀ g d, Instr.replySent ≠ .regSet g d) ∧ (∀ g d, Instr.replySent ≠ .ldCommit g d) :=
  ⟨⟨_, rfl⟩, nofun, nofun, rfl, rfl, nofun, nofun, nofun, nofun, nofun⟩

/-! Telegrams and frames -/

theorem witness_TelegramsAreReadAsTheyAreSent :
    (Telegram.mk 0#8 1#8 0#8 []).payload.length ≤ 24 ∧ (Telegram.mk 0x96#8 1#8 0#8 (List.replicate 24 0x96#8)).payload.length ≤ 24 := by
  decide +kernel
theorem witness_FramesAreReadAsTheyAreSent : (List.replicate 1020 0xC3#8).length ≤ 1020 := by decide +kernel
theorem witness_RowsAreReadFieldByField :
    (∀ r ∈ [StationRow.mk 255 255 0 none, ⟨0, 0, 0, some 254⟩], r.sect < 256 ∧ r.up < 256 ∧ r.down < 256 ∧ ∀ e ∈ r.display, e < 255) ∧
    (∀ r ∈ [RunRow.mk 255 65535 0 0 65535], r.sect < 256 ∧ r.upMin < 65536 ∧ r.upMax < 65536 ∧ r.downMin < 65536 ∧ r.downMax < 65536) ∧
    (∀ e ∈ [TtEntry.mk 65535 255 16777215 65535 (some 1) none, ⟨0, 0, 0, 0, none, none⟩],
      e.trip < 65536 ∧ e.stop < 256 ∧ e.p < 16777216 ∧ e.w < 65536 ∧ (∀ r ∈ e.rp, 0 < r ∧ r < 65536) ∧ e.bound = none) := by
  decide +kernel

/-! The host port -/

theorem witness_HostReceiverFollowsTheLeadByte :
    unit.settled ∧ unit.hpt.receiver = .hunting ∧ (receiving [0#8] false).settled ∧
    (receiving [0#8] false).hpt.receiver = .busy [0#8] false 0 ∧ (receiving [0#8] true).settled ∧
    (receiving [0#8] true).hpt.receiver = .busy [0#8] true 0 :=
  ⟨unit_ready.1, by decide +kernel, settled_of (by decide +kernel), by decide +kernel, settled_of (by decide +kernel), by decide +kernel⟩
theorem witness_CompleteFramesRunTheirRow :
    frameOf (.readConditions 5#8 []) = some (0x81#8, 5#8, []) ∧
    (recvTake (receiving [0#8, 2#8, 0x81#8, 5#8, 0x92#8] false).hpt.receiver (HostChar.bits 0xAC#8 true).judged 0).2 = .complete 0x81#8 5#8 [] := by
  decide +kernel
theorem witness_FullReplyQueueDiscardsTheFrame :
    frameOf (.identify 5#8 (List.replicate 1020 0#8)) = some (0x10#8, 5#8, List.replicate 1020 0#8) ∧ ∃ s : State, s.settled ∧
      16 ≤ s.hpt.replies.length :=
  ⟨by decide +kernel,
    { unit with hpt := { unit.hpt with replies := List.replicate 16 { refused := false, tag := 0#8, data := [] } } },
    settled_of (by decide +kernel), by decide +kernel⟩
theorem witness_RequestsAreRefusedInTheOrderOfTheirChecks :
    kindIsKnown 0x83#8 = false ∧ unit.ready ∧
    (frameOf (.fetchReports 1#8 []) = some (0x80#8, 1#8, []) ∧ lengthOk 0x80#8 [] = false) ∧
    (frameOf (.ttCancel 1#8 [0#8, 1#8]) = some (0x22#8, 1#8, [0#8, 1#8]) ∧ State.reset.ready ∧
      lengthOk 0x22#8 [0#8, 1#8] = true ∧ needsDescription 0x22#8 = true ∧ State.reset.lds.service = .unconfigured) ∧
    (frameOf (.ldBegin 1#8 []) = some (0x11#8, 1#8, []) ∧ serving.ready ∧ lengthOk 0x11#8 [] = true ∧
      loadsTable 0x11#8 = true ∧ serving.lds.service = .inService) :=
  ⟨by decide +kernel, unit_ready, by decide +kernel, ⟨by decide +kernel, reset_ready, by decide +kernel⟩,
    ⟨by decide +kernel, serving_ready, by decide +kernel⟩⟩
theorem witness_FetchReportsDeliversTheOldest : unit.ready ∧ (1 ≤ (1#8 : Byte).toNat ∧ (16#8 : Byte).toNat ≤ 16) ∧
    (0#8 : Byte).toNat = 0 ∧ 16 < (17#8 : Byte).toNat := ⟨unit_ready, by decide +kernel⟩
theorem witness_ReadConditionsReturnsAndClearsTheFlags : unit.ready := unit_ready
theorem witness_SetMasksReplacesTheThreeParts : unit.ready ∧
    ((127#8 : Byte).toNat ≤ 127 ∧ (63#8 : Byte).toNat ≤ 63 ∧ (1#8 : Byte).toNat ≤ 1) ∧ 127 < (128#8 : Byte).toNat ∧
    63 < (64#8 : Byte).toNat ∧ 1 < (2#8 : Byte).toNat := ⟨unit_ready, by decide +kernel⟩
theorem witness_ReportsAndAttention :
    ({ ClassMask.none with service := true } : ClassMask).masks .serviceState = true ∧
    unit.hpt.classMask.masks .serviceState = false ∧ unit.hpt.reports.length < 64 ∧
    (unit.setReports (List.replicate 64 dayLimit)).hpt.classMask.masks .serviceState = false ∧
    64 ≤ (unit.setReports (List.replicate 64 dayLimit)).hpt.reports.length := by decide +kernel

/-! Queries, description, service and clock -/

theorem witness_QueriesAnswerAndChangeNothing : ∃ s : State, s.ready ∧ (s.entry? 8).isSome = true ∧
    s.lds.service ≠ .unconfigured ∧ 3 < s.stopCount ∧ s.train? 39 = none ∧ s.train? 0 = some train12 ∧ 1 < s.sectCount ∧
    (s.sect? 1).isSome = true ∧ s.incident? 57 = some hostIncident ∧ (s.station? 1).isSome = true :=
  ⟨current ((troubled hostIncident).setTrain 0 train12), ready_of (by decide +kernel), by decide +kernel⟩

/-- R3 to R10 in the smallest tables: no run, one station. -/
theorem witness_TablesLoadAndWithdraw :
    loaded.ready ∧ loaded.lds.service = .unconfigured ∧
    (∃ d : List Byte, d.length = 1 + 4 * at8 d 0 ∧ d.length ≤ 1020 ∧ stationsOk (readStations d) = true) ∧
    (∃ d : List Byte, d.length = 1 + 9 * at8 d 0 ∧ runsOk (readRuns d) = true) ∧
    (∃ d : List Byte, d.length = 1 + 7 * at8 d 0 + 2 * ((at8 d 0 + 1) / 2) ∧ sectionsOk d = true) ∧
    (∃ d : List Byte, d.length = 1 + 12 * at8 d 0 ∧ substationsOk d = true) ∧
    (∃ d : List Byte, d.length = 2 + 3 * at16 d 0 ∧ elementsOk d = true) ∧
    (∃ d : List Byte, d.length = 40 ∧ linksOk d = true) ∧
    (∃ d : List Byte, ∃ z, zonesOf d = some z ∧ zonesOk z = true) ∧
    unit.ready ∧ unit.linksBounded ∧ unit.lds.service = .configured :=
  ⟨loaded_ready, by decide +kernel,
    ⟨[2#8, 0#8, 0#8, 1#8, 4#8, 1#8, 2#8, 3#8, 0xFF#8], by decide +kernel⟩,
    ⟨[1#8, 0#8, 0#8, 60#8, 0#8, 90#8, 0#8, 60#8, 0#8, 90#8], by decide +kernel⟩,
    ⟨[1#8, 1#8, 5#8, 0xFF#8, 10#8, 0#8, 0xFF#8, 0#8, 0xFF#8, 0#8], by decide +kernel⟩,
    ⟨[1#8, 0#8, 100#8, 7#8, 1#8, 5#8, 0xFF#8, 0xFF#8, 0xFF#8, 0xFF#8, 0xFF#8, 0xFF#8, 0xFF#8], by decide +kernel⟩,
    ⟨[0#8, 1#8, 0#8, 0#8, 1#8], by decide +kernel⟩,
    ⟨List.replicate 40 0#8, by decide +kernel⟩,
    ⟨[1#8, 1#8, 0#8], _, rfl, by decide +kernel⟩,
    unit_ready, linked_of (by decide +kernel), by decide +kernel⟩
theorem witness_CommitIsJudgedAndBuildsTheRecords :
    unit.ready ∧ unit.lds.service = .configured ∧
    (State.reset.ready ∧ State.reset.lds.service = .unconfigured ∧ State.reset.lds.missing = some 1) ∧
    (∃ s : State, s.ready ∧ s.lds.service = .unconfigured ∧ s.lds.missing = none ∧
      s.commitCheck = some (.inconsistent 7 1 14)) ∧
    loaded.ready ∧ loaded.linksBounded ∧ loaded.lds.service = .unconfigured ∧ loaded.commitCheck = none :=
  ⟨unit_ready, by decide +kernel, ⟨reset_ready, by decide +kernel⟩,
    ⟨loaded.setLds { loaded.lds with zones := some [[0]] }, ready_of (by decide +kernel), by decide +kernel⟩,
    loaded_ready, linked_of (by decide +kernel), by decide +kernel⟩

/-- A unit with no train at a stop, no station record and no element. -/
def bare (x : ServiceState) : State := { inState x with anp := { unit.anp with stations := [] }, mirror := [] }

theorem witness_ServiceActionsMoveTheState :
    (∀ x ∈ [ServiceState.unconfigured, .configured, .inService, .suspended], isReady (inState x) = true ∧
      (inState x).lds.service = x ∧ (inState x).clock.running = true) ∧
    (bare .configured).ready ∧ (bare .configured).lds.service = .configured ∧ (bare .configured).clock.running = true ∧
    (bare .configured).anp.stations = [] ∧ (bare .configured).mirror = [] ∧ (∀ st ∈ (bare .configured).rgl.stands, st = none) ∧
    (∃ s : State, s.ready ∧ s.clock.running = false) :=
  ⟨by decide +kernel, ready_of (by decide +kernel), by decide +kernel, by decide +kernel, by decide +kernel, by decide +kernel,
    by decide +kernel, State.reset, reset_ready, by decide +kernel⟩
theorem witness_LineTimeIsSetAndCounted :
    unit.ready ∧ 107999 < 108000 ∧ 108000 < 16777216 ∧
    (serving.ready ∧ serving.lds.service = .inService ∧ 29969 + 30 < serving.clock.time ∧ serving.clock.time + 30 < 30031) ∧
    (serving.clock.time ≤ 29970 + 30 ∧ 30030 ≤ serving.clock.time + 30) ∧
    (State.reset.settled ∧ State.reset.clock.running = false) ∧
    (unit.settled ∧ unit.clock.running = true ∧ (unit.setTime 107998).clock.time < 107999) ∧
    (unit.setTime 107999).settled ∧ 107999 ≤ (unit.setTime 107999).clock.time :=
  ⟨unit_ready, by decide +kernel, by decide +kernel, ⟨serving_ready, by decide +kernel⟩, by decide +kernel,
    ⟨reset_ready.1, by decide +kernel⟩, ⟨unit_ready.1, by decide +kernel⟩, settled_of (by decide +kernel), by decide +kernel⟩
theorem witness_WarmRestartKeepsTheDescription : standing.ready := standing_ready

/-! The timetable window -/

def entryBytes (trip stop p : Nat) : List Byte := u16 trip ++ u8 stop ++ u24 p ++ u16 30 ++ u16 110

theorem timetabled_ready : timetabled.ready := ready_of (by decide +kernel)
theorem witness_TtAppendAndTtAmendPlaceEntries :
    timetabled.ready ∧ timetabled.lds.service ≠ .unconfigured ∧
    (∀ d ∈ [u8 0, u8 1 ++ entryBytes 0 0 30500, u8 1 ++ entryBytes 309 0 30500, u8 1 ++ entryBytes 309 0 30290],
      d.length = 1 + 10 * at8 d 0) ∧
    (at8 (u8 0) 0 = 0 ∧ ∃ e ∈ readEntries (u8 1 ++ entryBytes 0 0 30500), timetabled.entryOk e = false) ∧
    (∀ e ∈ readEntries (u8 1 ++ entryBytes 309 0 30500), timetabled.entryOk e = true) ∧
    timetabled.appendCheck (readEntries (u8 1 ++ entryBytes 309 0 30500)) = none ∧
    (∀ e ∈ readEntries (u8 1 ++ entryBytes 309 0 30290), timetabled.entryOk e = true) ∧
    (timetabled.appendCheck (readEntries (u8 1 ++ entryBytes 309 0 30290))).isSome = true ∧
    (∀ d ∈ [entryBytes 309 0 30500, entryBytes 305 0 30500, entryBytes 305 0 30410, entryBytes 303 0 30500],
      d.length = 10 ∧ timetabled.entryOk (readEntry d 0) = true) ∧
    timetabled.ttLookup 309 0 = none ∧
    timetabled.ttLookup 303 0 = some (entry 303 0 30170 (some 9)) ∧
    timetabled.ttLookup 305 0 = some (entry 305 0 30290 none) ∧
    (∃ x ∈ timetabled.window.entries, x.stop = 0 ∧ x.p = 30410 ∧ x.trip ≠ 305) ∧
    (∀ x ∈ timetabled.window.entries, x.stop = 0 → x.p = 30500 → x.trip = 305) :=
  ⟨timetabled_ready, by decide +kernel⟩
theorem witness_TtCancelRemovesThePendingEntries :
    timetabled.ready ∧ timetabled.lds.service ≠ .unconfigured ∧ 9999 < 10000 ∧ (∀ e ∈ timetabled.window.entries, e.trip ≠ 9999) ∧
    (∃ e ∈ timetabled.window.entries, e.trip = 305) ∧ (∃ e ∈ timetabled.window.entries, e.trip = 303 ∧ e.bound ≠ none) :=
  ⟨timetabled_ready, by decide +kernel⟩

/-! The train register and the regulator -/

def full : State := { standing with reg := { standing.reg with slots := List.replicate 40 (some train12) } }

theorem witness_TrainsAreAddedAndRemoved :
    standing.ready ∧ standing.lds.service ≠ .unconfigured ∧ standing.slotOf 12 ≠ none ∧
    (full.ready ∧ full.slotOf 999 = none ∧ ∀ x ∈ full.reg.slots, x ≠ none) ∧
    (standing.slotOf 999 = none ∧ standing.reg.slots[1]? = some none ∧ ∀ j, j < 1 → ∃ t, standing.reg.slots[j]? = some (some t)) ∧
    standing.slotOf 12 = some 0 ∧ standing.train? 0 = some train12 :=
  ⟨standing_ready, by decide +kernel, by decide +kernel, ⟨ready_of (by decide +kernel), by decide +kernel, by decide +kernel⟩,
    ⟨by decide +kernel, by decide +kernel, fun j hj => ⟨train12, (by omega : 0 = j) ▸ (by decide +kernel)⟩⟩, by decide +kernel, by decide +kernel⟩
theorem witness_TrainAssignJoinsTheTrips :
    standing.ready ∧ standing.slotOf 12 = some 0 ∧ standing.train? 0 = some train12 ∧ train12.trip = some 305 ∧
    305 ≠ 9999 ∧ 9999 ∉ train12.following ∧ train12.following.length < 2 ∧
    (∃ t : Train, (standing.setTrain 0 t).train? 0 = some t ∧ t.trip = none ∧ 1 ∉ t.following) ∧
    (∃ t : Train, (standing.setTrain 0 t).train? 0 = some t ∧ t.trip = some 305 ∧ 9999 ∉ t.following ∧ 2 ≤ t.following.length) :=
  ⟨standing_ready, by decide +kernel, by decide +kernel, by decide +kernel, by decide +kernel, by decide +kernel, by decide +kernel,
    ⟨{ train12 with trip := none }, by decide +kernel⟩, ⟨{ train12 with following := [1, 2] }, by decide +kernel⟩⟩
/-- Train 12 standing at stop 0 and another train, 13, at no stop. -/
def two : State := standing.setTrain 1 (Train.fresh 13 .up none)

/-- A stand of stop 0 with a phase, an order and the FIELD reason. -/
def standIn (ph : Option Phase) (o : PlatformOrder) (field : Bool) (failed : Bool) : Stand :=
  { stand0 with phase := ph, order := o, field := field, revokeFailed := failed }

theorem witness_HoldsAreSetAndActByPhase :
    two.ready ∧ two.slotsShaped ∧ two.lds.service ≠ .unconfigured ∧ two.slotOf 13 = some 1 ∧ two.stand? 1 = none ∧
    two.slotOf 12 = some 0 ∧ two.stand? 0 = some stand0 ∧ two.hostHeld 0 = false ∧ stand0.field = false ∧
    (two.setHostHold 0 true).hostHeld 0 = true ∧
    (∀ x ∈ [(some Phase.waitingPermit, PlatformOrder.none, false), (some .released, .releaseWaiting 3, false),
        (some .released, .release 3, false), (some .released, .none, true), (some .planning, .none, false), (none, .none, false)],
      (two.putStand 0 (standIn x.1 x.2.1 true x.2.2)).isHeld 0 (standIn x.1 x.2.1 true x.2.2) = true) ∧
    (two.putStand 0 (standIn (some .held) .none false false)).isHeld 0 (standIn (some .held) .none false false) = false :=
  ⟨ready_of (by decide +kernel), by unfold State.slotsShaped; decide +kernel, by decide +kernel⟩
theorem witness_RegSetReplacesTheWorkingValues : unit.ready ∧ 9 < 256 ∧ 901 < 65536 ∧ 8 < 9 ∧ 59 < 60 ∧ 900 < 901 ∧ 8 ≤ 8 ∧
    60 ≤ 60 ∧ 900 ≤ 900 := ⟨unit_ready, by decide +kernel⟩
theorem witness_PlanFixesHeadwayTarget :
    (planOf unit.params 4 30000 (some ⟨30050, 30, some 110⟩) (some ⟨some 303, some 29900, 29940, 11⟩)).p = some 30050 ∧
    (planOf unit.params 4 30000 (some ⟨30050, 30, some 110⟩) (some ⟨some 303, some 29900, 29940, 11⟩)).pPrev = some 29900 ∧
    (planOf unit.params 4 30000 (some ⟨30050, 30, some 110⟩) (some ⟨some 303, some 29900, 29940, 11⟩)).dPrev = some 29940 ∧
    (planOf unit.params 4 30000 none none).p = none ∧ (planOf unit.params 4 30000 none none).dPrev = none := by decide +kernel
theorem witness_PlanBlendsAndClampsTheDwell : unit.params.wMin ≤ unit.params.wMax ∧
    107999 < (planOf unit.params 8 107990 none none).tDep ∧ (planOf unit.params 0 30000 none none).tDep ≤ 107999 := by
  decide +kernel
theorem witness_GrantsSetTheRunLevel :
    (runLevel (some (60, 90)) (some 30050) (some 110) 30000 ≠ 0 ∧ 3 ≤ 3 ∧ 60 + 3 * (90 - 60) / 3 + 30000 ≤ 30050 + 110) ∧
    standing.slotOf 12 = some 0 ∧ standing.stand? 0 = some stand0 ∧ stand0.phase ≠ some .waitingPermit ∧
    (∀ st ∈ [standIn (some .waitingPermit) .none false false, standIn (some .waitingPermit) (.dwell 3) false false],
      (standing.putStand 0 st).slotOf 12 = some 0 ∧ (standing.putStand 0 st).stand? 0 = some st) := by decide +kernel
theorem witness_TrainRecordsFollowTheirEvents :
    train12.terminating = false ∧ ({ train12 with terminating := true } : Train).terminating = true ∧
    (standing.setTrain 39 { train12 with startDeadline := some 20000 }).train? 39 = some { train12 with startDeadline := some 20000 } ∧
    standing.settled ∧ (∀ t, standing.train? 38 = some t → t.startDeadline = none) :=
  ⟨by decide +kernel, by decide +kernel, by decide +kernel, standing_ready.1,
    fun t h => by rw [(by decide +kernel : standing.train? 38 = none)] at h; exact nomatch h⟩

/-! Traction power -/

theorem witness_SectionStatesFollowTheBreakers :
    (BreakerValue.tripped ∈ [BreakerValue.closed, .tripped]) ∧ (∀ v ∈ [BreakerValue.opened, .opened], v = .opened) ∧
    (BreakerValue.tripped ∉ [BreakerValue.closed, .opened] ∧ BreakerValue.closed ∈ [BreakerValue.closed, .opened]) ∧
    (BreakerValue.closed ∉ [BreakerValue.precharged] ∧ BreakerValue.precharged ∈ [BreakerValue.precharged]) ∧
    (∀ v ∈ [BreakerValue.closed] ++ [BreakerValue.opened], v = .opened ∨ v = .closed) ∧
    (∀ v ∈ [BreakerValue.closed] ++ [BreakerValue.opened], v ≠ .tripped) := by decide +kernel
theorem witness_SharesSumToTheLoad : 0 < 1 ∧ 0 < 8 := by decide +kernel

/-- Section 0 LIVE with train 12 waiting: an empty substation takes its starting load of 20; section 1 is DEAD. -/
def waiting : State :=
  (unit.modSect 0 (fun r => { r with state := .live })).setWaitList
    [{ train := 7, sect := 1, joined := 0, reported := false }, { train := 12, sect := 0, joined := 0, reported := false }]

theorem witness_PermitsAreGrantedOnlyWhenTheyFit :
    (∀ t ∈ [7], waiting.grantable t = false) ∧
    (∃ s : State, s.grantable 12 = true ∧
      s.tsv.waitList.find? (fun q => q.train == 12) = some { train := 12, sect := 0, joined := 0, reported := false }) :=
  ⟨by decide +kernel, waiting.setWaitList [{ train := 12, sect := 0, joined := 0, reported := false }], by decide +kernel⟩

def sectionIn (x : SectState) (seq : Option Sequence) : State := unit.modSect 0 (fun r => { r with state := x, seq := seq })

theorem witness_SectionsAreIsolatedAndUnlocked :
    unit.ready ∧ (unit.lds.service ≠ .unconfigured ∧ 23 < 24 ∧ (unit.sectCount ≤ 2 ∧ 2 ≤ 23) ∧ 1 < unit.sectCount ∧
    (∀ x ∈ [SectState.unknown, .dead, .precharge, .live, .tripped, .isolating], isSettled (current (sectionIn x none)) = true ∧
      (current (sectionIn x none)).sectState 0 = x) ∧
    (sectionIn .isolating (some (.isolate .host [5] false))).seqOf 0 = some (.isolate .host [5] false) ∧
    (sectionIn .isolating (some (.isolate .host [5] false))).isolationDone 0 [5] false = true ∧
    (∀ b ∈ [5], (sectionIn .isolating (some (.isolate .host [5] false))).countsOpen b = true) ∧
    (withEntry (sectionIn .isolating (some (.isolate .host [5] false))) 5 (fun e => { e with value := some (.breaker .closed) })).isolationDone
      0 [5] false = false ∧
    (0 ∈ unit.group 0 ∧ (unit.sect? 0).isSome = true ∧ unit.baseOf 0 = 0)) ∧
    (∃ r, unit.sect? 1 = some r ∧ r.lockout = false) ∧
    (∃ s : State, ∃ r, s.ready ∧ s.sect? 1 = some r ∧ r.lockout = true) :=
  ⟨unit_ready, by decide +kernel,
    ⟨_, rfl, by decide +kernel⟩,
    ⟨current (unit.modSect 1 (fun r => { r with lockout := true })), _, ready_of (by decide +kernel), rfl, by decide +kernel⟩⟩

/-- The pair TIED, or CROSS_FED, with both sections DEAD. -/
def paired (m : PairMode) : State := unit.setPairs [{ mode := m, tie := some 8 }]

theorem witness_SecEnergizeStartsTheSequence :
    unit.ready ∧ 0 < unit.sectCount ∧ (∃ j ∈ (sectionIn .live none).group 0, (sectionIn .live none).sectState j ≠ .dead ∧
      (sectionIn .live none).sectState j ≠ .tripped) ∧
    (∀ j ∈ unit.group 0, unit.sectState j = .dead ∨ unit.sectState j = .tripped) ∧
    (∃ s : State, ∃ r, isReady s = true ∧ 0 ∈ s.group 0 ∧ s.sect? 0 = some r ∧ r.lockout = true) ∧
    (isReady (paired .crossFed) = true ∧ (paired .crossFed).baseOf 1 ≠ 1 ∧ (paired .crossFed).baseOf 0 = 0 ∧
      (∀ j ∈ (paired .crossFed).group 1, (paired .crossFed).sectState j = .dead) ∧
      (paired .crossFed).modeOf 0 = .crossFed ∧ ∀ b ∈ (paired .crossFed).feedersOf (evenOf 0 + 1), (paired .crossFed).readsOpen b = true) ∧
    (∀ j r, j ∈ unit.group 0 → unit.sect? j = some r → r.lockout = false ∧ r.demand = false) ∧
    (∀ b ∈ unit.toClose 0, ∃ e, unit.entry? b = some e ∧ e.state = .held) ∧
    (5 ∈ unit.toClose 0 ∧ ∀ e, (withEntry unit 5 (fun e => { e with state := .unknown })).entry? 5 = some e → e.state ≠ .held) ∧
    (∃ b ∈ (withEntry (paired .crossFed) 6 (fun e => { e with value := some (.breaker .closed) })).feedersOf 1,
      (withEntry (paired .crossFed) 6 (fun e => { e with value := some (.breaker .closed) })).readsOpen b = false) :=
  ⟨unit_ready, by decide +kernel, by decide +kernel, by decide +kernel,
    ⟨unit.modSect 0 (fun r => { r with lockout := true }) |> current, _, by decide +kernel, by decide +kernel, rfl, by decide +kernel⟩,
    by decide +kernel,
    fun j r hj h => by
      rw [(by decide +kernel : unit.group 0 = [0])] at hj
      obtain rfl := List.mem_singleton.mp hj
      rw [(by decide +kernel : unit.sect? 0 = some { SectRec.built [5] with state := .dead })] at h
      obtain rfl := Option.some.inj h
      decide +kernel,
    fun b hb => by
      rw [(by decide +kernel : unit.toClose 0 = [5])] at hb
      obtain rfl := List.mem_singleton.mp hb
      exact ⟨held 5 .breaker 1 1 (.breaker .opened), by decide +kernel⟩,
    ⟨by decide +kernel, fun e h => by
      rw [(by decide +kernel : (withEntry unit 5 (fun e => { e with state := .unknown })).entry? 5 =
        some { held 5 .breaker 1 1 (.breaker .opened) with state := .unknown })] at h
      obtain rfl := Option.some.inj h
      decide +kernel⟩,
    by decide +kernel⟩
theorem witness_PairModeChangesADeadPair :
    unit.ready ∧ 11 ≤ 11 ∧ unit.pairExists 11 .independent = false ∧ unit.pairExists 0 .tied = true ∧
    (unit.tsv.pairs[11]? = none ∧ (unit.setPairs [{ mode := .independent, tie := none }]).pairExists 0 .crossFed = false) ∧
    (∃ i ∈ (sectionIn .live none).pairSects 0, (sectionIn .live none).sectState i ≠ .dead) ∧
    (∀ i ∈ unit.pairSects 0, unit.sectState i = .dead) ∧ unit.modeOf (2 * 0) = .independent := ⟨unit_ready, by decide +kernel⟩
theorem witness_SectionTimersJudgeTheVoltage :
    unit.settled ∧ (∀ named d ordered m v, unit.seqOf (unit.baseOf 23) ≠ some (.energize named (.precharge d) ordered m v)) ∧
    ((precharging (some 640)).seqOf ((precharging (some 640)).baseOf 0) = some (.energize 0 (.precharge 10000) [5] (some 0) (some 640)) ∧
      (precharging (some 640)).chargeReached 0 (some 640) = true ∧ (precharging (some 599)).chargeReached 0 (some 599) = false) ∧
    unit.sect? 23 = none ∧
    (∀ x ∈ [VoltageTimer.debounce 3000, .recovery 5000, .stopped],
      ((unit.modSect 0 (fun r => { r with timer := x })).sect? 0).any (fun r => r.timer == x) = true) :=
  ⟨unit_ready.1, fun named d ordered m v => by rw [(by decide +kernel : unit.seqOf (unit.baseOf 23) = none)]; exact nofun,
    by decide +kernel⟩
theorem witness_PowerTimersReport :
    (∃ s : State, ∃ r, s.tsv.subs[0]? = some r ∧ r.fresh = true ∧ r.meas = some (120, 5000)) ∧
    (∃ r, unit.tsv.subs[0]? = some r ∧ r.fresh = false) ∧ unit.settled ∧
    unit.tsv.waitList.find? (fun q => q.train == 999) = none ∧
    (∀ b ∈ [false, true], isSettled (unit.setWaitList [{ train := 12, sect := 0, joined := 1000, reported := b }]) = true ∧
      (unit.setWaitList [{ train := 12, sect := 0, joined := 1000, reported := b }]).tsv.waitList.find? (fun q => q.train == 12) =
        some { train := 12, sect := 0, joined := 1000, reported := b }) :=
  ⟨⟨unit.setSubs [{ SubRec.built { capacity := 100, meter := 7, feeders := [5, 6] } with meas := some (120, 5000), fresh := true }],
      _, rfl, by decide +kernel⟩,
    ⟨_, rfl, by decide +kernel⟩, unit_ready.1, by decide +kernel⟩

/-! Incidents -/

def raiseData : List Byte := [4#8, 2#8, 0#8, 1#8, 3#8, 0#8, 0#8, 0#8, 0#8, 0#8, 0#8, 1#8, 1#8]
def amendData : List Byte := [0#8, 57#8, 1#8, 1#8, 1#8, 0#8, 0#8, 0#8, 0#8, 0#8, 0#8, 0#8]
def crowded : State := current (unit.setTable (List.replicate 28 hostIncident))
def inIncState (x : IncState) : State := current (troubled { hostIncident with state := x })

theorem witness_HostIncidentsAreKeptInTheTable :
    unit.ready ∧ unit.lds.service ≠ .unconfigured ∧ raiseData.length = 12 + at8 raiseData 11 ∧
    hostKindOf (at8 raiseData 0) = some .equipment ∧ (1 ≤ at8 raiseData 1 ∧ at8 raiseData 1 ≤ 4) ∧ incFieldsOk raiseData = true ∧
    unit.incFieldsExist raiseData = true ∧ (unit.hostIncidents < 28 ∧ unit.inc.table.length < 32) ∧
    (isReady crowded = true ∧ 28 ≤ crowded.hostIncidents ∧ crowded.incFieldsExist raiseData = true) ∧
    at16 amendData 0 = 57 ∧ amendData.length = 12 + at8 amendData 11 ∧ incFieldsOk amendData = true ∧
    (∀ x ∈ [IncState.opened, .acknowledged, .resolved], isReady (inIncState x) = true ∧
      (inIncState x).incident? 57 = some { hostIncident with state := x } ∧ (inIncState x).incFieldsExist amendData = true) :=
  ⟨unit_ready, by decide +kernel⟩
theorem witness_AutoIncidentsMergeResolveAndEscalate :
    (unit.autoFind .linkLoss 0 = none ∧ unit.inc.table.length < 32) ∧
    ((unit.setTable (List.replicate 32 hostIncident)).autoFind .linkLoss 0 = none ∧
      32 ≤ (unit.setTable (List.replicate 32 hostIncident)).inc.table.length) ∧
    (∀ x ∈ [IncState.opened, .resolved], (troubled { incident 57 3 none with state := x }).autoFind .stranded 33 =
      some { incident 57 3 none with state := x }) ∧
    unit.incident? 65535 = none ∧ unit.settled ∧
    (∀ x ∈ [incident 57 3 (some 61060), incident 57 4 (some 61090), incident 57 3 none], (troubled x).incident? 57 = some x) ∧
    (current (troubled (incident 57 3 none))).settled :=
  ⟨by decide +kernel, by decide +kernel, by decide +kernel, by decide +kernel, unit_ready.1, by decide +kernel,
    settled_of (by decide +kernel)⟩

/-! Announcements -/

theorem witness_EffectiveContentIsTheHighestLayer :
    ({ StationRec.built none 0 with incident := some ⟨1, 0, 0⟩ } : StationRec).incident = some ⟨1, 0, 0⟩ ∧
    (StationRec.built none 0).incident = none ∧ (StationRec.built none 0).service = none ∧ (StationRec.built none 0).delay = none ∧
    (StationRec.built none 0).routine = none := by decide +kernel

/-- Content 302/2/2 staged for a layer. -/
def stagedFor (x : HostLayer) : State :=
  { unit with anp := { unit.anp with staging := { text := 302, p1 := 2, p2 := 2, layer := x } } }

theorem witness_StagedContentIsBound :
    unit.ready ∧ unit.lds.service ≠ .unconfigured ∧ (1023 < 1024 ∧ 1 < 2) ∧ (1 ≤ 1023 ∧ 1 ≤ 1) ∧ (2 < 3 ∧ 7 < 8 ∧ 63 < 64) ∧
    (unit.anp.triggers.length ≤ 1 ∧ unit.stopCount ≤ 4) ∧ (0 < unit.anp.triggers.length ∧ 3 < unit.stopCount) ∧
    (∀ i ∈ [1, 0], i < 32 ∧ i < unit.stationCount) ∧ unit.anp.staging.text = 0 ∧
    (∀ x ∈ [HostLayer.service, .routine], isReady (stagedFor x) = true ∧ (stagedFor x).anp.staging.text ≠ 0 ∧
      (stagedFor x).anp.staging.layer = x) := ⟨unit_ready, by decide +kernel⟩
theorem witness_ReleaseMakesThePendingLive :
    unit.ready ∧ unit.lds.service ≠ .unconfigured ∧ (∀ z ∈ [0], z < 8 ∧ z < unit.anp.triggers.length) ∧
    (unit.station? 1).isSome = true := ⟨unit_ready, by decide +kernel⟩

/-- Station 0 with a delay notice of train 12, three minutes. -/
def delayed : StationRec := { StationRec.built (some 4) 0 with delay := some ⟨41, 3, 12⟩ }

theorem witness_DelayNoticesAndJudgements :
    (staged.station? 0).isSome = true ∧ (unit.setStation 0 delayed).station? 0 = some delayed ∧
    (StationRec.built (some 4) 0).delay = none ∧ delayed.delay = some ⟨41, 3, 12⟩ ∧ (3 ≤ 3 ∧ 2 < 3 ∧ 12 ≠ 13) ∧ 1 / 2 = 0 ∧
    unit.lds.service = .configured ∧ serving.lds.service = .inService ∧
    ({ StationRec.built (some 4) 0 with status := .confirmed, lastSent := some Content.default } : StationRec).lastSent =
      some (StationRec.built (some 4) 0).effective ∧
    (StationRec.built none 0).display = none ∧ (StationRec.built (some 4) 0).status = .neverSent ∧
    serving.successorWaits 4 = false := by decide +kernel

/-! Field links and the mirror -/

def linkIn (x : LinkState) (carrier : Bool) : State := current (withLink unit 0 (fun l => { l with state := x, carrier := carrier }))

theorem witness_CarrierAndModeMoveTheLink :
    (∀ x ∈ [(LinkState.down, false), (.up, true), (.loopback, false), (.loopback, true), (.disabled, true)],
      isReady (linkIn x.1 x.2) = true ∧ ((linkIn x.1 x.2).links[0]?).any (fun l => l.state == x.1 && l.carrier == x.2) = true) ∧
    (linkIn .up true).lds.service ≠ .unconfigured ∧ (unit.links[2]?).any (fun l => l.cfg.isNone) = true ∧
    (unit.links[1]?).any (fun l => l.cfg.isSome) = true ∧ (unit.links[7]?).isSome = true := by decide +kernel
theorem witness_LinkAndElementRequests :
    unit.ready ∧ (unit.links[7]?).isSome = true ∧ unit.entry? 9 = none ∧
    (unit.entry? 0).any (fun e => e.link == 0) = true ∧ (∀ x ∈ [LinkState.down, .disabled, .up, .loopback],
      isReady (linkIn x true) = true ∧ ((linkIn x true).links[0]?).any (fun l => l.state == x && !l.polls.contains 0) = true) ∧
    ((withLink unit 0 (fun l => { l with polls := [0] })).links[0]?).any (fun l => l.polls.contains 0) = true :=
  ⟨unit_ready, by decide +kernel⟩

/-- Link 0 with its assembler in a telegram. -/
def assembling (bytes : List Byte) (lead : Bool) : State :=
  withLink unit 0 (fun l => { l with asm := .busy bytes false lead 0 })

theorem witness_FieldCharactersReachTheAssembler :
    (∀ x ∈ [([], false), ([1#8, 2#8], false), ([1#8, 2#8, 7#8], false), ([1#8], true)], isSettled (assembling x.1 x.2) = true ∧
      ((assembling x.1 x.2).links[0]?).any (fun l => l.state == .up && l.asm == .busy x.1 false x.2 0 && l.tentative.isNone &&
        l.rx == [] && !l.congested && decide (4 ≤ l.level)) = true) ∧
    unit.settled ∧ (unit.links[0]?).any (fun l => l.state == .up && l.asm == .hunting) = true ∧ 24 < (25#8 : Byte).toNat ∧
    (([0x21#8, 2#8, 7#8, 3#8, 1#8, 0#8, 0x3D#8, 0#8] : List Byte).length = 5 + at8 [0x21#8, 2#8, 7#8, 3#8, 1#8, 0#8, 0x3D#8, 0#8] 3 ∧
      checkMatches ([0x21#8, 2#8, 7#8, 3#8, 1#8, 0#8, 0x3D#8, 0#8] ++ [0x6B#8]) = true ∧
      checkMatches ([0x21#8, 2#8, 7#8, 3#8, 1#8, 0#8, 0x3D#8, 0#8] ++ [0x6C#8]) = false) ∧
    (assembling [1#8, 2#8, 7#8, 3#8, 1#8, 0#8] false).forwardable 0 ([1#8, 2#8, 7#8, 3#8, 1#8, 0#8] ++ [12#8]) false =
      some { el := 0, arrival := true, train := 12 } ∧
    (∃ s : State, isSettled s = true ∧ (s.links[0]?).any (fun l => l.state == .loopback && l.asm == .hunting &&
      l.sender == some { what := .poll 0 1 1, left := [0x96#8, 1#8] }) = true) ∧
    unit.overlong 0 (.sent 0#8) = false ∧ unit.fragments 0 (.sent 0#8) = false ∧ unit.completes 0 (.sent 0#8) = false ∧
    unit.forwards 0 (.sent 0#8) = false :=
  ⟨by decide +kernel, unit_ready.1, by decide +kernel, by decide +kernel, by decide +kernel, by decide +kernel,
    ⟨withLink unit 0 (fun l => { l with state := .loopback, sender := some { what := .poll 0 1 1, left := [0x96#8, 1#8] } }),
      by decide +kernel⟩, by decide +kernel⟩

def queued (x : RxEntry) : State := withLink unit 1 (fun l => { l with rx := [x] })

theorem witness_MirrorTakesTheHeadEntry :
    unit.settled ∧ (unit.links[7]?).any (fun l => l.rx == []) = true ∧
    (∀ x ∈ [RxEntry.annotation .check false, .annotation .damaged false, .annotation .fragment false,
        .telegram ⟨1#8, 1#8, 0#8, [1#8, 2#8]⟩ false true, .telegram ⟨9#8, 1#8, 0#8, [1#8, 2#8]⟩ false false],
      isSettled (queued x) = true ∧ ((queued x).links[1]?).any (fun l => !l.congested && l.rx == [x]) = true) ∧
    unit.mirror.find? (fun e => e.link == 1 && e.addr == (9#8 : Byte).toNat) = none := ⟨unit_ready.1, by decide +kernel⟩
theorem witness_TelegramSentStartsTheTimer :
    unit.settled ∧ (unit.links[1]?).any (fun l => l.sender.isNone) = true ∧
    (∃ s : State, isSettled s = true ∧ (s.links[1]?).any (fun l => l.state == .up && l.tx == [] && l.polls == [] &&
        l.sender == some { what := .order { el := 5, addr := 1, seq := 58, data := .closeFeed, token := 0 }, left := [] }) = true ∧
      (s.entry? 5).any (fun e => e.link == 1 && e.out == some { data := .closeFeed, token := 0, seq := 58, stage := .queued,
                                                                defers := 0 }) = true) ∧
    (∃ s : State, isSettled s = true ∧ (s.links[1]?).any (fun l => l.state == .up &&
        l.sender == some { what := .poll 5 1 1, left := [] }) = true ∧ (s.entry? 5).any (fun e => e.link == 1) = true) :=
  ⟨unit_ready.1, by decide +kernel,
    ⟨withLink (closing .queued 0) 1 (fun l =>
      { l with sender := some { what := .order { el := 5, addr := 1, seq := 58, data := .closeFeed, token := 0 }, left := [] } }),
      by decide +kernel⟩,
    ⟨withLink unit 1 (fun l => { l with sender := some { what := .poll 5 1 1, left := [] } }), by decide +kernel⟩⟩
theorem witness_OrderTimersFailTheOrder :
    (∀ x ∈ [Stage.queued, .sent 500, .executing 8000, .pushWait 500], isSettled (closing x 0) = true ∧
      ((closing x 0).entry? 5).any (fun e => e.out == some { data := .closeFeed, token := 0, seq := 58, stage := x, defers := 0 }) =
        true) ∧
    unit.settled ∧ (∀ e, unit.entry? 255 = some e → e.poll = none) ∧
    (∀ x ∈ [MirrorState.held, .reported, .unknown, .ordered],
      ((withEntry unit 7 (fun e => { e with state := x, poll := some { seq := 1, deadline := 500 } })).entry? 7).any
        (fun e => e.state == x && e.poll == some { seq := 1, deadline := 500 }) = true) :=
  ⟨by decide +kernel, unit_ready.1,
    (fun e h => by rw [(by decide +kernel : unit.entry? 255 = none)] at h; exact nomatch h), by decide +kernel⟩
theorem witness_OrdersAreJudgedAtIssue :
    unit.entry? 9 = none ∧
    (∀ x ∈ [MirrorState.unknown, .reported, .held], ((withEntry unit 5 (fun e => { e with state := x })).entry? 5).any
      (fun e => e.state == x && e.succ.isNone) = true) ∧
    (∀ x ∈ [LinkState.down, .up, .loopback], ((linkIn x true).links[0]?).any (fun l => l.state == x && decide (l.tx.length < 12)) =
      true) ∧
    ((closing .queued 0).entry? 5).any (fun e => e.state == .ordered && e.out.isSome && e.succ.isNone) = true ∧
    ((withEntry (closing .queued 0) 5 (fun e => { e with succ := some ⟨.closeFeed, 1⟩ })).entry? 5).any
      (fun e => e.state == .ordered && e.succ == some ⟨.closeFeed, 1⟩) = true ∧
    OrderData.cls .closeFeed ≠ .safety := by decide +kernel
theorem witness_BreakerTelegramsUpdateTheMirror :
    (∀ x ∈ [(1#8, 9#8, [1#8, 2#8]), (3#8, 58#8, [1#8, 0#8]), (3#8, 58#8, [3#8, 1#8]), (4#8, 58#8, [2#8]), (4#8, 57#8, [2#8])],
      isSettled (queued (.telegram ⟨1#8, x.1, x.2.1, x.2.2⟩ false false)) = true ∧
      ((queued (.telegram ⟨1#8, x.1, x.2.1, x.2.2⟩ false false)).links[1]?).any (fun l => !l.congested && l.rx ==
        [.telegram ⟨1#8, x.1, x.2.1, x.2.2⟩ false false]) = true) ∧
    (unit.mirror.find? (fun x => x.link == 1 && x.addr == 1)).any (fun e => e.kind == .breaker && e.out.isNone &&
      e.state != .unknown) = true ∧
    ((linkIn .up true).links[1]?).any (fun l => l.state == .up) = true ∧
    (∀ x ∈ [Stage.sent 500, .executing 8000], ((closing x 0).mirror.find? (fun x => x.link == 1 && x.addr == 1)).any
      (fun e => e.out == some { data := .closeFeed, token := 0, seq := 58, stage := x, defers := 0 }) = true) ∧
    (∃ s : State, isSettled s = true ∧ (s.links[1]?).any (fun l => l.state == .loopback) = true ∧
      (s.entry? 5).any (fun e => e.state == .unknown) = true) :=
  ⟨by decide +kernel, by decide +kernel, by decide +kernel, by decide +kernel,
    ⟨withEntry (withLink unit 1 (fun l => { l with state := .loopback })) 5 (fun e => { e with state := .unknown }),
      by decide +kernel⟩⟩

/-! For the clauses that the widened statements have beside these -/

/-- R171: lengths 1 and 1,023 are outside the range, 2 and 1,022 within; a CRC whose low byte is 0xAD does not match. -/
theorem witness_HostBytesJoinTheFrame :
    (receiving [0#8] false).settled ∧ (receiving [0#8, 2#8, 0x81#8, 5#8, 0x92#8] false).settled ∧
    (receiving [0#8, 2#8] true).hpt.receiver = .busy [0#8, 2#8] true 0 ∧ (receiving [] false).hpt.receiver = .busy [] false 0 ∧
    (at16 ([0#8] ++ [1#8]) 0 < 2 ∧ 1022 < at16 ([3#8] ++ [0xFF#8]) 0 ∧ 2 ≤ at16 ([0#8] ++ [2#8]) 0 ∧ at16 ([3#8] ++ [0xFE#8]) 0 ≤ 1022) ∧
    ([0#8, 2#8, 0x81#8, 5#8, 0x92#8].length + 1 = 4 + 2 ∧
      at16 ([0#8, 2#8, 0x81#8, 5#8, 0x92#8] ++ [0xAD#8]) 4 ≠ (crcOf [0#8, 2#8, 0x81#8, 5#8]).toNat) ∧
    (receiving [0#8] false).discards (.bits 2#8 true) = false ∧
    frameOf (.identify 5#8 (List.replicate 1021 0#8)) = some (0x10#8, 5#8, List.replicate 1021 0#8) ∧
    1020 < (List.replicate 1021 0#8).length :=
  ⟨settled_of (by decide +kernel), settled_of (by decide +kernel), by decide +kernel⟩

/-- The parameters of the small line, as LD_PARAMS carries them. -/
def paramData : List Byte :=
  u16 20 ++ u16 90 ++ u16 45 ++ u8 4 ++ u16 150 ++ u16 120 ++ u8 2 ++ u16 41 ++ u16 20 ++ u16 20 ++ u16 16 ++ u16 14 ++ u16 12 ++
  u16 10 ++ u16 4 ++ u16 60 ++ u16 900 ++ u16 750 ++ u16 8 ++ u16 2 ++ u16 5 ++ (List.range 8).flatMap u16

/-- Each table with a value just outside its range, and the params of both kinds. -/
theorem witness_TablesOutOfRangeAreRefused :
    (unit.lds.service = .configured ∧ unit.ready ∧ unit.linksBounded ∧ unit.hpt.classMask.service = false ∧
      unit.hpt.classMask.field = false ∧ unit.hpt.reports.length ≤ 55 ∧ ∀ x ∈ unit.links, x.state ≠ .disabled → x.asm = .hunting) ∧
    (paramData.length = 56 ∧ (readParams paramData).ok = true) ∧
    (∃ d : List Byte, d.length = 1 + 4 * at8 d 0 ∧ stationsOk (readStations d) = false) ∧
    (∃ d : List Byte, d.length = 1 + 9 * at8 d 0 ∧ runsOk (readRuns d) = false) ∧
    (∃ d : List Byte, d.length = 1 + 7 * at8 d 0 + 2 * ((at8 d 0 + 1) / 2) ∧ sectionsOk d = false) ∧
    (∃ d : List Byte, d.length = 1 + 12 * at8 d 0 ∧ substationsOk d = false) ∧
    (∃ d : List Byte, d.length = 2 + 3 * at16 d 0 ∧ elementsOk d = false) ∧
    (∃ d : List Byte, d.length = 40 ∧ linksOk d = false) ∧
    (∃ d : List Byte, ∃ z, zonesOf d = some z ∧ zonesOk z = false) ∧
    (∃ d : List Byte, d.length = 56 ∧ (readParams d).ok = false) :=
  ⟨⟨by decide +kernel, unit_ready, linked_of (by decide +kernel), by decide +kernel⟩, by decide +kernel,
    ⟨[1#8, 0#8, 0#8, 1#8, 4#8], by decide +kernel⟩,
    ⟨[1#8, 0#8, 0#8, 19#8, 0#8, 90#8, 0#8, 60#8, 0#8, 90#8], by decide +kernel⟩,
    ⟨[1#8, 3#8, 5#8, 6#8, 10#8, 0#8, 9#8, 0#8, 8#8, 0#8], by decide +kernel⟩,
    ⟨[1#8, 0#8, 9#8, 7#8, 1#8] ++ List.replicate 8 5#8, by decide +kernel⟩,
    ⟨[0#8, 1#8, 5#8, 0#8, 1#8], by decide +kernel⟩, ⟨2#8 :: List.replicate 39 0#8, by decide +kernel⟩,
    ⟨[0#8], _, rfl, by decide +kernel⟩, List.replicate 56 0#8, by decide +kernel⟩

/-- A commit with link 0 in carrier and link 1 without. -/
def halfLinked : State := { loaded with links := (List.range 8).map (fun i => LinkRec.reset (decide (i = 0))) }

theorem witness_CommitBuildsTheRecords :
    (halfLinked.ready ∧ halfLinked.linksBounded ∧ halfLinked.tablesBounded) ∧
    (halfLinked.lds.service = .unconfigured ∧ halfLinked.lds.missing = none ∧ halfLinked.commitCheck = none ∧
      halfLinked.hpt.classMask = ClassMask.none ∧ halfLinked.hpt.reports.length ≤ 47) ∧
    (((halfLinked.linkRows[0]?).join.isSome = true ∧ halfLinked.links[0]? = some (LinkRec.reset true)) ∧
      ((halfLinked.linkRows[1]?).join.isSome = true ∧ halfLinked.links[1]? = some (LinkRec.reset false)) ∧
      (halfLinked.linkRows[2]?).join = none ∧ (∃ e ∈ halfLinked.builtMirror, e.link = 0)) ∧
    (halfLinked.pairRows[0]?.isSome = true ∧ 2 * 0 + 1 < halfLinked.sectRows.length ∧ halfLinked.zoneOf 1 = some 0 ∧
      (halfLinked.stations[1]?).isSome = true ∧ (halfLinked.elemRows[8]?).any (fun r => r.kind == some .breaker) = true) ∧
    (halfLinked.runs.length + 1 = halfLinked.stations.length ∧
      (halfLinked.setLds { halfLinked.lds with runs := some [] }).runs.length + 1 ≠ halfLinked.stations.length) :=
  ⟨⟨ready_of (by decide +kernel), linked_of (by decide +kernel), by unfold State.tablesBounded; decide +kernel⟩, by decide +kernel⟩

theorem witness_StartSendsDisplaysAndPolls :
    unit.ready ∧ (unit.lds.service = .configured ∧ unit.clock.running = true) ∧
    (∃ e ∈ unit.mirror, ∃ l, unit.links[e.link]? = some l ∧ l.state = .up) :=
  ⟨unit_ready, by decide +kernel, held 0 .platform 0 1 stop, by decide +kernel, _, rfl, by decide +kernel⟩

/-- The unit standing with an incident in the table; link 1 has lost its carrier. -/
def halfDown : State :=
  current (withLink { standing with inc := { standing.inc with table := [hostIncident], next := 58 } } 1
    (fun l => { l with carrier := false, state := .down }))

theorem witness_WarmRestartSetsTheRecords :
    (halfDown.ready ∧ halfDown.linksBounded ∧ halfDown.tablesBounded) ∧ halfDown.lds.committed = true ∧
    ((halfDown.links[2]?).any (fun l => l.cfg.isNone) = true ∧ (halfDown.links[0]?).any (fun l => l.cfg.isSome && l.carrier) = true ∧
      (halfDown.links[1]?).any (fun l => l.cfg.isSome && !l.carrier) = true ∧ (∃ e ∈ halfDown.mirror, e.link = 0)) ∧
    ((halfDown.station? 1).isSome = true ∧ 1 < halfDown.stationCount) ∧
    (halfDown.inc.table.filter (fun x => x.kind.isHost)).length ≤ 24 ∧ (∀ l ∈ halfDown.links, l.asm = .hunting) ∧
    (∀ l ∈ standing.links, l.cfg ≠ none → l.carrier = true) :=
  ⟨⟨ready_of (by decide +kernel), linked_of (by decide +kernel), by unfold State.tablesBounded; decide +kernel⟩, by decide +kernel⟩

/-- R62: position 1 of a message clashes with position 0 or with the window; a full window has 0 free entries. -/
theorem witness_AppendChecksNameTheFirstClash :
    timetabled.appendCheck [entry 309 0 30530 none, entry 309 0 30540 none] = some (.duplicate (some 1)) ∧
    timetabled.appendCheck [entry 309 0 30530 none, entry 311 0 30410 none] = some (.timeClash (some 1)) ∧
    timetabled.appendCheck [entry 309 0 30530 none] = none ∧
    (timetabled.setEntries (List.replicate 1024 (entry 303 1 30170 none))).appendCheck [entry 309 0 30530 none] =
      some (.tableFull (some 0)) := by decide +kernel

/-- Train 12 standing with a platform order. -/
def orderIn (ph : Phase) (o : PlatformOrder) : State :=
  standing.putStand 0 { stand0 with phase := some ph, order := o, permit := .granted 1 }

theorem witness_PlatformOrdersEnd :
    standing.awaiting 3 = none ∧
    (∀ o ∈ [PlatformOrder.dwell 3, .releaseWaiting 3, .release 3, .revoke 3], (orderIn .released o).awaiting 3 = some 0 ∧
      (orderIn .released o).stand? 0 = some { stand0 with phase := some .released, order := o, permit := .granted 1 }) ∧
    (∀ r ∈ [Result.timeout, .rejected 0], r ≠ .complete ∧ r ≠ .already ∧ r ≠ .superseded) := by decide +kernel

/-- Train 12 in service at a position, with a stop. -/
def trainAt (p : Position) (stop : Option Nat) : State := serving.setTrain 0 { train12 with pos := p, stop := stop }

theorem witness_ConfirmedEventsAreJudged :
    standing.slotOf 13 = none ∧ standing.occupant 0 ≠ none ∧ (trainAt .running (some 0)).occupant 2 = none ∧
    (unit.nextStop 0 = some 2 ∧ unit.nextStop 0 ≠ some 1) ∧
    (∀ p ∈ [Position.running, .unlocated, .turning], (trainAt p (some 0)).slotOf 12 = some 0 ∧
      ((trainAt p (some 0)).train? 0).any (fun t => t.pos == p && t.stop == some 0 && t.saved.isNone) = true) := by decide +kernel
theorem witness_TentativeEventsAreAppliedAndEnded :
    (unit.stopOfElement 4 = none ∧ standing.stopOfElement 0 = some 0 ∧ standing.slotOf 13 = none ∧ standing.slotOf 12 = some 0) ∧
    ((trainAt .unlocated none).occupant 0 = none ∧ standing.occupant 0 ≠ none ∧ train12.pos = .atStop ∧ train12.stop = some 0 ∧
      train12.saved = none) ∧
    ((standing.reg.tentative[0]?).join = none ∧
      ∀ x ∈ [TentativeStatus.applied, .declined, .voided], (((standing.setTentative 0 (some
        { el := 0, arrival := false, train := 12, stop := some 0, status := x })).reg.tentative[0]?).join).any
          (fun z => z.status == x) = true) ∧
    (∃ t : Train, ∃ v, (standing.setTrain 0 t).train? 0 = some t ∧ t.saved = some v ∧ t.stop = some 0 ∧
      t.dep = some { time := 30000, tentative := true } ∧ t.arr = some { time := 29000, tentative := false }) :=
  ⟨by decide +kernel, by decide +kernel, by decide +kernel,
    { train12 with pos := .running, arr := some { time := 29000, tentative := false }, dep := some { time := 30000, tentative := true },
                   saved := some { pos := .atStop, stop := some 0, arr := none, dep := none } }, _, by decide +kernel, rfl, by decide +kernel⟩

theorem witness_TheSetAllNamesEveryObject :
    (∀ x ∈ [HostLayer.service, .routine], (stagedFor x).anp.staging.text ≠ 0 ∧ (stagedFor x).lds.service ≠ .unconfigured) ∧
    unit.anp.staging.text = 0 := by decide +kernel
theorem witness_ShowsEndAsTheirLastOutcome :
    serving.stationOfDisplay 4 = some 0 ∧ (serving.station? 0).any (fun r => decide (r.inFlight ≤ 1)) = true ∧
    ((serving.setStation 0 { StationRec.built (some 4) 0 with inFlight := 2 }).station? 0).any (fun r => decide (1 < r.inFlight)) = true := by
  decide +kernel

/-- Link 0 whose assembler awaits the last byte of the ARRIVAL forwarded before, with entries queued. -/
def ending (dmg : Bool) (rx : List RxEntry) : State :=
  current (withLink unit 0 (fun l => { l with asm := .busy [1#8, 2#8, 7#8, 3#8, 1#8, 0#8, 12#8, 0#8] dmg false 0, rx := rx,
                                              tentative := some { el := 0, arrival := true, train := 12 } }))

theorem witness_TelegramsEndByDamageCheckAndSlot :
    (∀ x ∈ [(true, []), (false, []), (false, List.replicate 16 (RxEntry.annotation .check false))],
      isSettled (ending x.1 x.2) = true ∧ ((ending x.1 x.2).links[0]?).any (fun l => l.state == .up && l.tentative.isSome &&
        l.rx == x.2) = true) ∧
    (let bs := [1#8, 2#8, 7#8, 3#8, 1#8, 0#8, 12#8, 0#8] ++ [0x1A#8]
     bs.length = 6 + at8 bs 3 ∧ at8 bs 3 ≤ 24 ∧ checkMatches bs = true) ∧
    checkMatches ([1#8, 2#8, 7#8, 3#8, 1#8, 0#8, 12#8, 0#8] ++ [0x1B#8]) = false ∧
    ((FieldChar.sent 0x1A#8).judged = .good 0x1A#8 ∧ (FieldChar.bits 0x1A#8 false false).judged = .damaged 0x1A#8) ∧
    (∀ n ∈ [11, 12], ((withLink unit 0 (fun l => { l with rx := List.replicate n (.annotation .check false) })).links[0]?).any
      (fun l => decide (l.rx.length < 16) && !l.congested && (decide (l.level ≤ l.rx.length + 1) == true)) = true) := by
  decide +kernel

def txOf (d : OrderData) (token : Nat) : TxEntry := { el := 5, addr := 1, seq := 1, data := d, token := token }
def withTx (l : List TxEntry) : State := withLink unit 1 (fun x => { x with tx := l })

theorem witness_TransmitterChoosesByClass :
    (OrderData.openBreaker.cls = .safety ∧ OrderData.closeFeed.cls = .control ∧ (OrderData.showText Content.default).cls = .display) ∧
    (∀ l ∈ [[txOf .closeFeed 1, txOf .openBreaker 2], [txOf (.showText Content.default) 1, txOf .closeFeed 2],
        [txOf (.showText Content.default) 1], []],
      ((withTx l).links[1]?).any (fun x => x.state == .up && x.sender.isNone && x.tx == l && x.polls == [] && !x.congested) = true) ∧
    ((withLink unit 1 (fun x => { x with polls := [5, 6] })).links[1]?).any (fun x => x.polls == [5, 6] && x.tx == []) = true ∧
    (unit.entry? 5).isSome = true := by decide +kernel
theorem witness_OrdersOvertakeAndEvict :
    ((closing .queued 0).entry? 5).any (fun e => e.state == .ordered && e.link == 1 && e.out.any (fun o => o.token == 0)) = true ∧
    (∃ y ∈ [txOf .closeFeed 0], y.token = 0) ∧ (∀ y ∈ [txOf .closeFeed 8], y.token ≠ 0) ∧
    (∀ x ∈ [[], List.replicate 11 (txOf .closeFeed 8)], match (withTx x).offer 1 (txOf .openBreaker 9) with
      | .taken _ => True
      | .refused _ => False) ∧
    (withTx (List.replicate 12 (txOf .openBreaker 8))).offer 1 (txOf .openBreaker 9) = .refused .linkFull ∧
    (withTx (List.replicate 12 (txOf .closeFeed 8))).offer 1 (txOf .closeFeed 9) = .refused .linkFull ∧
    (linkIn .down true).offer 0 (txOf .openBreaker 9) = .refused .linkDown ∧
    (∀ z ∈ List.replicate 11 (txOf .closeFeed 8), z.data.cls ≠ .display) ∧
    (unit.entry? 5).any (fun e => e.out.isNone) = true := by
  refine ⟨by decide +kernel, by decide +kernel, by decide +kernel, ?_, rfl, rfl, rfl, by decide +kernel⟩
  intro x hx
  simp only [List.mem_cons, List.not_mem_nil, or_false] at hx
  rcases hx with rfl | rfl <;> exact trivial

/-- Elements of link 0 and 1 with a telegram at the head of the queue. -/
theorem witness_TelegramsUpdateEveryKind :
    (∀ x ∈ [(ElemKind.meter, (⟨3#8, 1#8, 0#8, [1#8, 0#8, 50#8, 1#8, 2#8, 0x80#8]⟩ : Telegram)), (.meter, ⟨3#8, 2#8, 0#8, [4#8, 0#8, 50#8, 0#8]⟩),
        (.breaker, ⟨1#8, 1#8, 0#8, [2#8, 0#8]⟩), (.breaker, ⟨1#8, 2#8, 0#8, [3#8]⟩), (.breaker, ⟨1#8, 3#8, 58#8, [2#8, 0#8]⟩),
        (.platform, ⟨1#8, 2#8, 0#8, [2#8, 0#8, 12#8]⟩), (.display, ⟨5#8, 1#8, 0#8, [1#8, 1#8, 0#8, 0#8, 0#8, 0#8, 0#8]⟩)],
      (match judgeTelegram x.1 x.2 with
        | .ok _ => true
        | .failed _ => false) = true) ∧
    judgeTelegram .breaker ⟨1#8, 1#8, 0#8, [3#8, 0#8]⟩ = .failed 5 ∧ judgeTelegram .display ⟨5#8, 2#8, 0#8, []⟩ = .failed 4 ∧
    (unit.mirror.map (fun e => (e.link, e.addr, e.kind))).contains (1, 3, .meter) = true ∧ unit.stopOfElement 0 = some 0 ∧
    (∀ x ∈ [Stage.sent 500, .executing 8000, .pushWait 500], ((closing x 3).entry? 5).any (fun e => e.out.any (fun o =>
      o.stage == x && o.defers == 3 && o.data == .closeFeed)) = true) ∧
    (OrderData.closeFeed.targetMet (.breaker .closed) = true ∧ OrderData.closeFeed.targetMet (.breaker .opened) = false) := by
  decide +kernel
theorem witness_TelegramsAreReadByKind :
    (at16 [3#8, 0xE7#8] 0 = 999 ∧ at16 [0#8, 1#8] 0 = 1 ∧ at16 [3#8, 0xFF#8] 0 = 1023) ∧
    ((3#8 : Byte).toNat ≤ 3 ∧ 1 ≤ (1#8 : Byte).toNat ∧ 3 < (4#8 : Byte).toNat) ∧ 4 < (5#8 : Byte).toNat ∧
    (unit.entry? 7).any (fun e => e.value == some (.meter 0 [none, none, none, none])) = true ∧
    (MirrorEntry.built 0 .platform 0 1).value = none := by decide +kernel
theorem witness_FollowGivesTheSuccessorItsTurn :
    (Result.failed .timeout = true ∧ (∀ n, Result.timeout ≠ .rejected n)) ∧ (unit.entry? 5).any (fun e => e.succ.isNone) = true ∧
    ((withEntry unit 5 (fun e => { e with succ := some ⟨.closeFeed, 7⟩ })).entry? 5).any
      (fun e => e.state == .held && e.out.isNone && e.succ.isSome) = true :=
  ⟨⟨by decide +kernel, nofun⟩, by decide +kernel⟩

/-! For the clauses of the second review -/

/-- A line without displays, its links all without a carrier. -/
def quietLine : State :=
  current { unit with links := (List.range 8).map (fun _ => LinkRec.reset false)
                      anp := { unit.anp with stations := [StationRec.built none 0, StationRec.built none 0] } }

theorem witness_ServiceActionsWithNobodyStanding :
    quietLine.ready ∧ (∀ st ∈ quietLine.rgl.stands, st = none) ∧ quietLine.lds.service = .configured ∧
    quietLine.clock.running = true ∧ quietLine.anp.stations.length ≤ 32 ∧ quietLine.mirror ≠ [] ∧
    (∀ r ∈ quietLine.anp.stations, r.display = none) ∧ (∀ l ∈ quietLine.links, l.state = .disabled ∨ l.state = .down) :=
  ⟨ready_of (by decide +kernel), by decide +kernel⟩

/-- Train 12's stand DWELLING by a plan that departs at 30,020 when it arrived at 29,975 with β 4 and no history. -/
def planned30 : Option Plan := some (serving.plan 0 29975 none)
def dwelling (ph : Phase) (field : Bool) : State :=
  standing.putStand 0 { stand0 with phase := some ph, plan := planned30, field := field }

/-- R14, R71, R98, R160: 107,999 next, a minute next, and on both sides of T_dep and of the stale limit. -/
theorem witness_NewLineTimesAreSeen :
    (isReady serving = true ∧ (∀ v ∈ [29970, 30030], serving.clock.time ≤ v + 30 ∧ v ≤ serving.clock.time + 30)) ∧
    (isSettled (unit.setTime 107998) = true ∧ (unit.setTime 107998).clock.time + 1 = 107999 ∧
      (unit.setTime 107998).clock.limitReported = false) ∧
    (isSettled (unit.setTime 30059) = true ∧ ((unit.setTime 30059).clock.time + 1) % 60 = 0) ∧
    (planned30.any (fun p => p.tDep == 30020) = true ∧
      ∀ x ∈ [(30019, false), (30020, false), (30020, true), (107999, false)],
        (((dwelling .dwelling x.2).setTime x.1).stand? 0).any (fun st => st.phase == some .dwelling && st.plan == planned30 &&
          ((dwelling .dwelling x.2).setTime x.1).isHeld 0 st == x.2) = true) ∧
    (((dwelling .held false).stand? 0).any (fun st => st.phase == some .held && st.plan == planned30) = true) ∧
    ((timetabled.setTime 31190).window.entries.any (TtEntry.expired (timetabled.setTime 31190).params.stale 31190) = false ∧
      (timetabled.setTime 31191).window.entries.any (TtEntry.expired (timetabled.setTime 31191).params.stale 31191) = true) := by
  decide +kernel

/-- A stand whose first DWELL, token 3, the DWELL of a later plan, token 4, has followed. -/
theorem witness_PlatformOrdersEnd_earlier :
    (standing.awaiting 3 = none ∧ standing.awaitingEarlier 3 = none) ∧
    ((standing.putStand 0 { stand0 with order := .dwell 4, earlier := [3] }).awaiting 3 = none ∧
      (standing.putStand 0 { stand0 with order := .dwell 4, earlier := [3] }).awaitingEarlier 3 = some 0 ∧
      (standing.putStand 0 { stand0 with order := .dwell 4, earlier := [3] }).awaiting 4 = some 0) ∧
    dwelled.order = .dwell 3 := by decide +kernel

/-- Train 12 stands at stop 0 and train 13 runs towards it, with and without a start window. -/
def conflicting (d : Option Nat) : State :=
  standing.setTrain 1 { Train.fresh 13 .up none with pos := .running, stop := some 2, permit := true, startDeadline := d }

/-- R81: stop 0 is taken when train 13 arrives. -/
theorem witness_ConflictLeavesTheTrain : ∀ d ∈ [none, some 20000],
    (conflicting d).occupant 0 ≠ none ∧ (conflicting d).slotOf 13 = some 1 ∧
    ((conflicting d).train? 1).any (fun t => t.pos == .running && t.startDeadline == d) = true ∧
    ((conflicting d).settleArrival 1 { Train.fresh 13 .up none with pos := .running, stop := some 2 } 0).train? 1 =
      some { Train.fresh 13 .up none with pos := .unlocated, stop := some 0 } := by decide +kernel

/-- R80: a departure from stop 2 of train 12, recorded RUNNING or UNLOCATED at stop 0, with a jump; UNLOCATED at 2, without. -/
theorem witness_PositionReports :
    (∀ p ∈ [Position.running, .unlocated], (trainAt p (some 0)).slotOf 12 = some 0 ∧
      ((trainAt p (some 0)).train? 0).any (fun t => t.pos == p && t.stop != some 2 && t.saved.isNone) = true ∧
      ((confirmedEvent false 12 2 (trainAt p (some 0))).agenda == [.positionReport 12 2 (some 0) true]) = true) ∧
    ((confirmedEvent false 12 2 (trainAt .unlocated (some 2))).agenda == [.positionReport 12 2 (some 2) false]) = true ∧
    ((positionReport 12 2 (some 0) true (trainAt .running (some 0))).train? 0).any
      (fun t => t.pos == .running && t.stop == some 2 && t.entry.isNone) = true := by decide +kernel

/-- Link 0's slot with an event of train 12, which stands at stop 0 or has left it tentatively. -/
def tentatively (arrival : Bool) (x : TentativeStatus) (stop : Option Nat) (train : Nat) : State :=
  (standing.setTrain 0 { train12 with
      pos := if arrival then .atStop else .running
      arr := some { time := 29000, tentative := arrival }
      dep := if arrival then none else some { time := 29900, tentative := true }
      saved := some { pos := .running, stop := some 3, arr := none, dep := none } }).setTentative 0
    (some { el := 0, arrival := arrival, train := train, stop := stop, status := x })

/-- R77: applied events of both kinds confirmed and withdrawn; declined ones of a train, of no stop and of no identity. -/
theorem witness_TentativeEnds :
    (∀ a ∈ [true, false], ((tentatively a .applied (some 0) 12).setTentative 0 none).slotOf 12 = some 0 ∧
      (((tentatively a .applied (some 0) 12).setTentative 0 none).train? 0).any (fun t => t.stop == some 0 && t.arr.isSome &&
        (a || t.dep.isSome) && t.saved.isSome) = true ∧
      (((tentativeEnd 0 false (tentatively a .applied (some 0) 12)).train? 0).any (fun t => t.stop == some 3 &&
        t.pos == .running && t.saved.isNone)) = true) ∧
    (∀ x ∈ [(some 0, 12), (none, 12), (some 0, 0), (some 0, 1000)],
      ((((tentatively true .declined x.1 x.2).reg.tentative[0]?).join).any (fun z => z.status == .declined && z.stop == x.1 &&
        z.train == x.2)) = true) ∧
    (((tentativeEnd 0 true (tentatively true .declined (some 0) 12)).agenda == [.confirmedEvent true 12 0]) = true ∧
      ((tentativeEnd 0 true (tentatively true .declined (some 0) 1000)).agenda == []) = true) := by decide +kernel

theorem witness_SectionStatesFollowTheBreakers_pairs :
    (∀ v ∈ [BreakerValue.opened] ++ [BreakerValue.closed], v = .opened ∨ v = .closed) ∧
    (∀ v ∈ [BreakerValue.precharged] ++ [BreakerValue.closed], v ≠ .tripped) ∧
    (∃ v ∈ [BreakerValue.closed] ++ [BreakerValue.opened], v ≠ .opened) ∧
    (derivePair .tied [.opened] [.closed] .closed = .state .live ∧ derivePair .crossFed [.opened] [.closed] .closed = .isolating ∧
      derivePair .tied [.closed] [.precharged] .closed = .isolating) ∧
    (unit.modeOf 0 = .independent ∧ unit.values (unit.feedersOf 0) = some [.opened]) ∧
    (∀ m ∈ [PairMode.tied, .crossFed], (paired m).modeOf 1 = m ∧
      (paired m).values ((paired m).feedersOf (2 * (1 / 2))) = some [.opened] ∧
      (paired m).values ((paired m).feedersOf (2 * (1 / 2) + 1)) = some [.opened] ∧
      ((paired m).tieOf 1 = some 8 ∧ (paired m).breaker? 8 = some .opened) ∧
      ((unit.setPairs [{ mode := m, tie := none }]).modeOf 1 = m ∧ (unit.setPairs [{ mode := m, tie := none }]).tieOf 1 = none)) ∧
    (6 ∈ (paired .tied).groupBreakers 0 ∧
      (withEntry (paired .tied) 6 (fun e => { e with state := .unknown })).breaker? 6 = none) := by decide +kernel

theorem witness_FirstStepOrdersTheFirstClose :
    (unit.tieOf 0 = none ∧ unit.feedersOf 0 = 5 :: []) ∧ ((paired .tied).modeOf 0 ≠ .independent ∧ (paired .tied).tieOf 0 = some 8) := by
  decide +kernel
theorem witness_ClosesFollowEachOther :
    ((unit.sectRows[0]?).any (fun r => r.chargeCheck) && (unit.sectRows[1]?).any (fun r => !r.chargeCheck)) = true ∧
    (unit.params.nominal * 4 / 5 = 600) ∧ (∀ m ∈ [PairMode.independent, .tied, .crossFed], (paired m).modeOf 0 = m) ∧
    (∀ todo ∈ [[5, 6], []], (sectionIn .precharge (some (.energize 0 (.feedClose todo [8]) [5] none none))).seqOf 0 =
      some (.energize 0 (.feedClose todo [8]) [5] none none)) ∧ unit.feedersOf 0 = 5 :: [] := by decide +kernel

/-- Link 1 sends an order to breaker 5 and has one for breaker 6 queued, while breaker 8 carries one out; its assembler hunts, or is
in a telegram with or without a tentative event. -/
def leaving (asm : Assembler) (tentative : Option Forwarded) : State :=
  withEntry (withLink unit 1 (fun l => { l with
      sender := some { what := .order (txOf .closeFeed 1), left := [] }, tx := [{ txOf .closeFeed 2 with el := 6, addr := 2 }],
      polls := [7], rx := [.annotation .check false], asm := asm, tentative := tentative }))
    8 (fun e => { e with state := .ordered, out := some { data := .openBreaker, token := 3, seq := 1, stage := .executing 9000, defers := 0 } })

theorem witness_LeavingALinkFailsItsOrders :
    (∀ x ∈ [(Assembler.hunting, none), (.busy [1#8] false false 0, none),
        (.busy [1#8] false false 0, some { el := 0, arrival := true, train := 12 })],
      ((leaving x.1 x.2).links[1]?).any (fun l => l.asm == x.1 && l.tentative == x.2 && l.state == .up &&
        l.sender.any (fun t => t.what == .order (txOf .closeFeed 1) && t.left == [])) = true ∧
      (((leaving x.1 x.2).rxJoin 1 (fun looped => .annotation .fragment looped)).links[1]?).isSome = true) ∧
    (((leaving .hunting none).leaveLink 1 .down).links[1]?).any (fun l => l.tx == [] && l.polls == [] && l.sender.isNone &&
      l.rx.length == 1) = true ∧
    (((leaving .hunting none).leaveLink 1 .down).mirror.filter (fun e => e.link == 1)).all (fun e => e.state == .unknown) = true := by
  decide +kernel

theorem witness_AnswersAndExecutionsOfEveryKind :
    (∀ x ∈ [(ElemKind.breaker, (⟨1#8, 3#8, 58#8, [1#8, 0#8]⟩ : Telegram)), (.platform, ⟨1#8, 3#8, 58#8, [3#8, 9#8]⟩),
        (.display, ⟨5#8, 3#8, 58#8, [1#8, 0#8]⟩), (.platform, ⟨1#8, 4#8, 58#8, [0#8, 12#8, 2#8]⟩),
        (.display, ⟨5#8, 4#8, 58#8, [0#8, 41#8, 0#8, 1#8, 0#8, 2#8]⟩)],
      (match judgeTelegram x.1 x.2 with
        | .ok _ => true
        | .failed _ => false) = true) ∧
    (∀ x ∈ [Stage.queued, .sent 500, .executing 8000, .pushWait 500], ((closing x 0).entry? 5).any (fun e => e.out.any (fun o =>
      o.stage == x && e.kind == .breaker)) = true) ∧
    (∀ el ∈ [0, 4, 5], (unit.entry? el).any (fun e => e.out.isNone && e.kind != .meter) = true) ∧
    (at16 [3#8, 0xE7#8] 0 = 999 ∧ at16 [3#8, 0xFF#8] 0 = 1023 ∧ at16 [0#8, 0#8] 0 = 0) := by decide +kernel

/-- R84, R85: a start window of a train without and with a saved position; an ORDERED breaker. -/
theorem witness_StartWindowEnds_counted :
    ((trainAt .turning (some 1)).train? 0).any (fun t => t.saved.isNone && t.pos == .turning) = true ∧
    (turningBack.train? 0).any (fun t => t.startDeadline == some 20000 && t.saved.any (fun v => v.pos == .turning)) = true ∧
    ((closing (.sent 500) 0).entry? 5).any (fun e => e.state == .ordered) = true := by decide +kernel

theorem witness_LoadNoticesStrandTrains :
    (strandedUnit.sect? 1).any (fun r => r.state != .live && !r.stranded.contains 0) = true ∧
    (runningIn (some 1)).running = true ∧
    (strandedUnit.sect? 0).any (fun r => r.stranded.contains 0 && r.state != .live) = true ∧
    (unit.tsv.sects.all (fun r => !r.stranded.contains 0)) = true := by decide +kernel

end Sys2Proof.Machine.Tests
end

section
/-! SUPPORT. Regulation (06), the arithmetic of a plan (R95 to R97): what each step of `planOf` computes, said once per
step, and the three statements about plans. -/
namespace Sys2Proof.Machine

/-! ### Clamped quantities -/

theorem clampInt_bounds {lo hi : Int} (h : lo ≤ hi) (x : Int) : lo ≤ clampInt lo hi x ∧ clampInt lo hi x ≤ hi := by
  unfold clampInt
  by_cases hlo : x < lo
  · rw [if_pos hlo]
    exact ⟨Int.le_refl lo, h⟩
  · rw [if_neg hlo]
    by_cases hhi : hi < x
    · rw [if_pos hhi]
      exact ⟨h, Int.le_refl hi⟩
    · rw [if_neg hhi]
      exact ⟨Int.not_lt.mp hlo, Int.not_lt.mp hhi⟩

/-- A clamp between bounds that are not negative loses nothing when it is stored as a natural number. -/
theorem clampInt_toNat_cast {lo hi : Int} (hlo : 0 ≤ lo) (h : lo ≤ hi) (x : Int) :
    ((clampInt lo hi x).toNat : Int) = clampInt lo hi x :=
  Int.toNat_of_nonneg (Int.le_trans hlo (clampInt_bounds h x).1)

/-! ### The steps of a plan -/

theorem State.plan_eq_planOf (s : State) (stop a : Nat) (m : Option Matched) :
    s.plan stop a m = planOf s.params (s.rgl.beta.getD 0) a m ((s.window.last[stop]?).join) := rfl

section
variable (prm : Params) (beta a : Nat) (m : Option Matched) (last : Option LastDeparture)

@[simp] theorem planOf_p : (planOf prm beta a m last).p = m.map (·.p) := rfl
@[simp] theorem planOf_w : (planOf prm beta a m last).w = (m.map (·.w)).getD prm.wDefault := rfl
@[simp] theorem planOf_rp : (planOf prm beta a m last).rp = m.bind (·.rp) := rfl
@[simp] theorem planOf_pPrev : (planOf prm beta a m last).pPrev = last.bind (·.p) := rfl
@[simp] theorem planOf_dPrev : (planOf prm beta a m last).dPrev = last.map (·.d) := rfl
@[simp] theorem planOf_lateness : (planOf prm beta a m last).lateness = arrivalLateness a m := rfl
@[simp] theorem planOf_tSched : (planOf prm beta a m last).tSched = scheduleTarget prm a (m.map (·.p)) := rfl

/-! The later steps are stated in the plan's own earlier fields, as the rules give them. -/

theorem planOf_hPlan : (planOf prm beta a m last).hPlan =
    plannedHeadway prm (planOf prm beta a m last).p (planOf prm beta a m last).pPrev := rfl

theorem planOf_tHead : (planOf prm beta a m last).tHead =
    headwayTarget (planOf prm beta a m last).dPrev (planOf prm beta a m last).hPlan (planOf prm beta a m last).tSched :=
  rfl

theorem planOf_delta : (planOf prm beta a m last).delta =
    ((planOf prm beta a m last).tHead : Int) - (planOf prm beta a m last).tSched := rfl

theorem planOf_tTgt : (planOf prm beta a m last).tTgt =
    blend beta (planOf prm beta a m last).tSched (planOf prm beta a m last).delta := rfl

theorem planOf_dwell : (planOf prm beta a m last).dwell = dwellOf prm a (planOf prm beta a m last).tTgt := rfl

theorem planOf_tDep : (planOf prm beta a m last).tDep = a + (planOf prm beta a m last).dwell := rfl

end

/-! ### Lateness and the schedule target (R95) -/

@[simp] theorem arrivalLateness_some (a : Nat) (m : Matched) :
    arrivalLateness a (some m) = clampLate ((a : Int) + m.w - m.p) := rfl

@[simp] theorem arrivalLateness_none (a : Nat) : arrivalLateness a none = 0 := rfl

@[simp] theorem scheduleTarget_some (prm : Params) (a p : Nat) :
    scheduleTarget prm a (some p) = max p (a + prm.wMin) := rfl

@[simp] theorem scheduleTarget_none (prm : Params) (a : Nat) : scheduleTarget prm a none = a + prm.wDefault := rfl

@[simp] theorem Train.arrived_arrLate (t : Train) (stop a : Nat) (m : Option Matched) :
    (t.arrived stop a m).arrLate = arrivalLateness a m := rfl

theorem clampLate_eq (x : Int) : clampLate x = if x < -999 then -999 else if 3599 < x then 3599 else x := rfl

/-- Settles O33: the inputs, the lateness and the schedule target by whether an entry is given, the record's part by
whether there is a record; the register's lateness is the same function of the same fields. -/
theorem planFixesLatenessAndScheduleTarget : Obligations.PlanFixesLatenessAndScheduleTarget := by
  refine ⟨State.plan_eq_planOf, fun prm beta a last =>
    ⟨fun m => ⟨planOf_p .., planOf_w .., planOf_rp .., ?schedule, fun l hl => ?lateness⟩,
      planOf_p .., planOf_rp .., planOf_w .., ?noLateness, ?defaultSchedule,
      fun m => ⟨planOf_pPrev .., planOf_dPrev .., fun r => ⟨planOf_pPrev .., planOf_dPrev ..⟩,
        fun t stop => ?register⟩⟩⟩
  case schedule => rw [planOf_tSched, Option.map_some, scheduleTarget_some]
  case lateness => rw [planOf_lateness, arrivalLateness_some, clampLate_eq, hl]
  case noLateness => rw [planOf_lateness, arrivalLateness_none]
  case defaultSchedule => rw [planOf_tSched, Option.map_none, scheduleTarget_none]
  case register => rw [Train.arrived_arrLate, planOf_lateness]

/-! ### The headway target (R96) -/

theorem plannedHeadway_some_cast (prm : Params) (p q : Nat) :
    (plannedHeadway prm (some p) (some q) : Int) = clampInt 30 1800 ((p : Int) - q) :=
  clampInt_toNat_cast (by omega) (by omega) _

theorem plannedHeadway_of_absent (prm : Params) {p pPrev : Option Nat} (h : p = none ∨ pPrev = none) :
    plannedHeadway prm p pPrev = prm.hNom := by
  rcases h with rfl | rfl
  · rfl
  · cases p <;> rfl

@[simp] theorem headwayTarget_some (d hPlan tSched : Nat) : headwayTarget (some d) hPlan tSched = d + hPlan := rfl

@[simp] theorem headwayTarget_none (hPlan tSched : Nat) : headwayTarget none hPlan tSched = tSched := rfl

/-- Settles O34: the headway step by whether P and P_prev are both present, the target by whether D_prev is. -/
theorem planFixesHeadwayTarget : Obligations.PlanFixesHeadwayTarget := by
  intro prm beta a m last
  refine ⟨fun p q hp hq => ?both, fun h => ?absent, fun d hd => ?record, fun hd => ?noRecord⟩
  case both => rw [planOf_hPlan, hp, hq, plannedHeadway_some_cast, clampInt]
  case absent => rw [planOf_hPlan, plannedHeadway_of_absent prm h]
  case record => rw [planOf_tHead, hd, headwayTarget_some]
  case noRecord => rw [planOf_tHead, hd, headwayTarget_none]

/-! ### The blend, the dwell and its order (R97) -/

/-- The blend is the whole number of eighths at or below `beta * delta + 4`: its rounding is toward minus infinity. -/
theorem blend_bounds (beta tSched : Nat) (delta : Int) :
    8 * (blend beta tSched delta - tSched) ≤ beta * delta + 4 ∧
      beta * delta + 4 < 8 * (blend beta tSched delta - tSched) + 8 := by
  unfold blend
  omega

@[simp] theorem blend_zero (tSched : Nat) (delta : Int) : blend 0 tSched delta = tSched := by
  unfold blend
  omega

@[simp] theorem blend_eight (tSched : Nat) (delta : Int) : blend 8 tSched delta = tSched + delta := by
  unfold blend
  omega

theorem dwellOf_cast {prm : Params} (h : prm.wMin ≤ prm.wMax) (a : Nat) (tTgt : Int) :
    (dwellOf prm a tTgt : Int) = clampInt prm.wMin prm.wMax (tTgt - a) :=
  clampInt_toNat_cast (Int.natCast_nonneg _) (Int.ofNat_le.mpr h) _

theorem dwellOf_bounds {prm : Params} (h : prm.wMin ≤ prm.wMax) (a : Nat) (tTgt : Int) :
    prm.wMin ≤ dwellOf prm a tTgt ∧ dwellOf prm a tTgt ≤ prm.wMax := by
  obtain ⟨hmin, hmax⟩ := clampInt_bounds (Int.ofNat_le.mpr h) (tTgt - a)
  rw [← dwellOf_cast h] at hmin hmax
  exact ⟨Int.ofNat_le.mp hmin, Int.ofNat_le.mp hmax⟩

/-- The notices a stand that begins to dwell leaves: its DWELL order, then the judging of T_dep. -/
theorem State.startDwelling_agenda (slot train : Nat) (st : Stand) (pl : Plan) (s : State) :
    (s.startDwelling slot train st pl).agenda =
      s.agenda ++ [.issue st.el (.dwell train pl.tDep pl.dwell) s.orderCount] ++ [.due slot] := by
  rw [State.startDwelling, State.post_agenda, State.issueOrder_agenda, State.putStand_agenda, State.putStand_orderCount]

theorem Plan.reached_iff (pl : Plan) (time : Nat) : pl.reached time = true ↔ pl.tDep ≤ time ∨ time = 107999 := by
  simp only [Plan.reached, Config.lastLineTime, Bool.or_eq_true, decide_eq_true_eq, beq_iff_eq]

/-- A departure planned beyond the service day is reached at its last second and at no earlier one. -/
theorem Plan.reached_of_beyond_day {pl : Plan} (h : 107999 < pl.tDep) :
    pl.reached 107999 = true ∧ ∀ time, time < 107999 → pl.reached time = false := by
  refine ⟨(pl.reached_iff _).mpr (.inr rfl), fun time ht => ?_⟩
  rw [Bool.eq_false_iff, Ne, Plan.reached_iff]
  omega

/-- Settles O35: each clause is the law of the plan's step it speaks of, read on the plan's own fields. -/
theorem planBlendsAndClampsTheDwell : Obligations.PlanBlendsAndClampsTheDwell := by
  refine ⟨State.plan_eq_planOf, ?_⟩
  rintro prm beta a m last pl rfl
  have htgt := planOf_tTgt prm beta a m last
  have hdelta := planOf_delta prm beta a m last
  have hdwell := planOf_dwell prm beta a m last
  obtain ⟨hlow, hhigh⟩ := blend_bounds beta (planOf prm beta a m last).tSched (planOf prm beta a m last).delta
  rw [← htgt] at hlow hhigh
  refine ⟨hdelta, hlow, hhigh, ?scheduleOnly, ?headwayOnly, fun hw => ⟨?clamped, ?bounds⟩,
    planOf_tDep prm beta a m last, fun slot train st s => ?order, Plan.reached_of_beyond_day⟩
  case scheduleOnly =>
    rintro rfl
    rw [htgt, blend_zero]
  case headwayOnly =>
    rintro rfl
    rw [htgt, blend_eight, hdelta]
    omega
  case clamped => rw [hdwell, dwellOf_cast hw, clampInt]
  case bounds =>
    rw [hdwell]
    exact dwellOf_bounds hw a _
  case order =>
    rw [State.startDwelling_agenda]
    exact List.mem_append_left _ (List.mem_append_right _ (List.mem_singleton.mpr rfl))

end Sys2Proof.Machine
end

section
/-! SUPPORT. Facts about lists and conditionals beyond core Lean, which is all that the model's files import. -/
namespace Sys2Proof.Machine

section
variable {α β : Type} {l : List α} {i : Nat}

/-- Induction on a list from its end. -/
theorem snocInduction {P : List α → Prop} (nil : P []) (snoc : ∀ l a, P l → P (l ++ [a])) (l : List α) : P l := by
  have hreverse : ∀ r : List α, P r.reverse := by
    intro r
    induction r with
    | nil => exact nil
    | cons a r ih =>
      rw [List.reverse_cons]
      exact snoc _ a ih
  rw [← l.reverse_reverse]
  exact hreverse _

theorem flatMap_congr_mem {f g : α → List β} (h : ∀ x ∈ l, f x = g x) : l.flatMap f = l.flatMap g := by
  rw [List.flatMap_def, List.flatMap_def, List.map_congr_left h]

theorem filterMap_eq_flatMap (f : α → Option β) (l : List α) : l.filterMap f = l.flatMap (fun x => (f x).toList) := by
  induction l with
  | nil => rfl
  | cons a l ih => cases h : f a <;> simp [h, ih]

theorem dropWhile_eq_nil {p : α → Bool} (h : ∀ x ∈ l, p x = true) : l.dropWhile p = [] := by
  have hall := List.dropWhile_append_of_pos (l₂ := []) h
  rwa [List.append_nil] at hall

theorem modify_eq_set {f : α → α} {a : α} (h : l[i]? = some a) : l.modify i f = l.set i (f a) := by
  refine List.ext_getElem? fun j => ?_
  rw [List.getElem?_modify, List.getElem?_set]
  by_cases hij : i = j
  · subst hij
    obtain ⟨hlt, rfl⟩ := List.getElem?_eq_some_iff.mp h
    simp [hlt]
  · simp [hij]

theorem modify_eq_self {f : α → α} (h : l[i]? = none) : l.modify i f = l := by
  refine List.ext_getElem? fun j => ?_
  rw [List.getElem?_modify]
  by_cases hij : i = j
  · subst hij
    rw [h]
    rfl
  · simp [hij]

theorem ite_congr_iff {p q : Prop} [Decidable p] [Decidable q] {a b c d : α} (h : p ↔ q) (ha : a = c) (hb : b = d) :
    (if p then a else b) = if q then c else d := ite_congr (propext h) (fun _ => ha) (fun _ => hb)

end

end Sys2Proof.Machine
end

section
/-! SUPPORT. Every command in one form: a command that names what the unit has is the settling of one effect on the state,
any other a fault. What every command keeps is then said of the effects alone. -/
namespace Sys2Proof.Machine

/-- R170, R171: what the taking of a request's whole frame does, before its notices run out. -/
def State.requestEffect (kind tag : Byte) (data : List Byte) (s : State) : State :=
  if dataFits data then s.framed.takeFrame (dispatch kind tag data) else s.framed.flagFrameError

/-- What a command that is no request does, before its notices run out. -/
def eventEffect (c : Instr) (s : State) : State :=
  match c with
  | .powerOnReset a b => State.powerOn s.pending (s.links.map (·.carrier)) (rateOf a b)
  | .carrierReturn l => s.carrierReturn l
  | .carrierLoss l => s.carrierLoss l
  | .tentativeForward l c => s.onlyIf (s.forwards l c) (State.takeChar l c)
  | .fieldTelegramComplete l c => s.onlyIf (s.completes l c) (State.takeChar l c)
  | .telegramLengthDamaged l c => s.onlyIf (s.overlong l c) (State.takeChar l c)
  | .leadByteFragment l c => s.onlyIf (s.fragments l c) (State.takeChar l c)
  | .fieldGapTimeout l => s.gapTimeout l
  | .mirrorTakeEntry l => s.takeEntry l
  | .telegramSent l => s.telegramSent l
  | .answerTimeout e => s.answerTimeout e
  | .execTimeout e => s.execTimeout e
  | .noPush e => s.noPush e
  | .elementSilent e => s.elementSilent e
  | .lineTimeCount => s.lineTimeCount
  | .startWindowDeadline i => s.startWindowDeadline i
  | .prechargeTimerExpiry i => s.prechargeExpiry i
  | .voltageTimerExpiry i => s.voltageExpiry i
  | .meterStale i => s.meterStale i
  | .permitWaitLong t => s.permitWaitLong t
  | .escalationDeadline n => s.escalationDeadline n
  | .hostFrameDiscard c => s.onlyIf (s.discards c) (State.takeHostChar c)
  | .hostGapTimeout => s.hostGap
  | .replySent => s.replySent
  | .fieldCharacterTaken l c => s.takeChar l c
  | .hostCharacterTaken c => s.takeHostChar c
  | _ => s

/-- What a command does, before its notices run out. -/
def effectOf (c : Instr) (s : State) : State :=
  match frameOf c with
  | some (kind, tag, data) => s.requestEffect kind tag data
  | none => eventEffect c s

/-! ### The effect of a command is its meaning -/

theorem request_eq_effect (kind tag : Byte) (data : List Byte) (s : State) :
    request data (dispatch kind tag data) s = .next (settle (s.requestEffect kind tag data)) := rfl

theorem effectOf_frame {c : Instr} {kind tag : Byte} {data : List Byte} (h : frameOf c = some (kind, tag, data))
    (s : State) : effectOf c s = s.requestEffect kind tag data := by
  simp only [effectOf, h]

theorem effectOf_event {c : Instr} (h : frameOf c = none) (s : State) : effectOf c s = eventEffect c s := by
  simp only [effectOf, h]

/-- The state after power-on is settled as it stands. -/
theorem settle_powerOn (pending : List Instr) (carriers : List Bool) (rate : HostRate) :
    settle (State.powerOn pending carriers rate) = State.powerOn pending carriers rate := by
  refine settle_settled _ ⟨rfl, ?_⟩
  have hl : ((carriers.map LinkRec.reset).any LinkRec.anyError) = false := by
    simp [LinkRec.anyError, LinkRec.reset]
  simp [State.causesCurrent, State.causesNow, State.powerOn, hl, HostPort.reset, Causes.none, Supervisor.empty,
    IncidentMgr.cleared]

/-- A row that names an object is the settling of its effect if the unit has the object, and a fault otherwise. -/
theorem onObject_next_iff (present : Bool) (f : Fault) (effect : State → State) (s t : State) :
    onObject present f effect s = .next t ↔ present = true ∧ t = settle (effect s) := by
  cases present <;> simp [onObject, eq_comm]

theorem exec_event {c : Instr} (hf : frameOf c = none) (hw : c.wellFormed = true) (s : State) :
    exec c s = .next (settle (eventEffect c s)) := by
  cases c <;> simp only [frameOf, reduceCtorEq] at hf
  case powerOnReset a b => rw [eventEffect, settle_powerOn]; rfl
  case unknownKind kind tag data => simp_all [Instr.wellFormed]
  case lineTimeCount | hostFrameDiscard | hostGapTimeout | replySent | hostCharacterTaken => rfl
  all_goals
    simp only [Instr.wellFormed] at hw
    exact (onObject_next_iff _ _ _ _ _).mpr ⟨hw, rfl⟩

/-- R172: a command that names what the unit has is answered by the settling of its effect. -/
theorem exec_wellFormed {c : Instr} (h : c.wellFormed = true) (s : State) : exec c s = .next (settle (effectOf c s)) := by
  cases hf : frameOf c with
  | none => rw [exec_event hf h, effectOf_event hf]
  | some x =>
    obtain ⟨kind, tag, data⟩ := x
    rw [exec_frame c kind tag data s hf, request_eq_effect, effectOf_frame hf]

/-- Log entry 3: a command that names nothing the unit has is a fault. -/
theorem exec_illFormed {c : Instr} (h : c.wellFormed = false) (s : State) : ∃ f, exec c s = .fault f := by
  cases c <;> simp only [Instr.wellFormed, Bool.not_eq_false', reduceCtorEq] at h
  case unknownKind kind tag data => exact ⟨_, if_pos h⟩
  all_goals exact ⟨_, if_neg (by rw [h]; exact Bool.false_ne_true)⟩

/-- A command that is answered by a next state has settled its effect. -/
theorem exec_next {c : Instr} {s t : State} (h : exec c s = .next t) : c.wellFormed = true ∧ t = settle (effectOf c s) := by
  cases hw : c.wellFormed with
  | false =>
    obtain ⟨f, hf⟩ := exec_illFormed hw s
    rw [hf] at h
    cases h
  | true =>
    rw [exec_wellFormed hw] at h
    cases h
    exact ⟨rfl, rfl⟩

/-- A step lets a millisecond pass or runs the command at the front of the queue on the rest. -/
theorem step_next {s t : State} (h : step s = .next t) :
    (s.pending = [] ∧ t = s.idle) ∨ ∃ c rest, s.pending = c :: rest ∧ exec c (s.setPending rest) = .next t := by
  unfold step at h
  split at h
  · next hp =>
    cases h
    exact .inl ⟨hp, rfl⟩
  · next c rest hp => exact .inr ⟨c, rest, hp, h⟩

/-- An invariant that idling keeps, that the commands waiting do not affect, and that every command keeps, is kept by
every step. -/
theorem step_keeps {P : State → Prop} (hidle : ∀ s, P s → P s.idle) (hpending : ∀ s l, P s → P (s.setPending l))
    (hexec : ∀ c s, P s → P (settle (effectOf c s))) {s t : State} (hs : P s) (h : step s = .next t) : P t := by
  obtain ⟨-, rfl⟩ | ⟨c, rest, -, he⟩ := step_next h
  · exact hidle s hs
  · obtain ⟨-, rfl⟩ := exec_next he
    exact hexec c _ (hpending s rest hs)

/-- What holds of a state once the frame is taken or discarded. -/
theorem requestEffect_keeps {P : State → Prop} {kind tag : Byte} {data : List Byte} {s : State}
    (hflag : P s.framed.flagFrameError) (hbody : s.framed.hpt.replies.length < Config.maxReplies →
      P (dispatch kind tag data s.framed)) : P (s.requestEffect kind tag data) := by
  unfold State.requestEffect
  split
  · by_cases hr : s.framed.hpt.replies.length < Config.maxReplies
    · rw [State.takeFrame_room _ _ hr]
      exact hbody hr
    · rw [State.takeFrame_full _ _ (by omega)]
      exact hflag
  · exact hflag

/-- What holds of a state once a host character is taken: it moves the receiver, discards, or completes a frame. -/
theorem takeHostChar_keeps {P : State → Prop} {c : HostChar} {s : State} (hr : ∀ r, P (s.setReceiver r))
    (hflag : ∀ r, P (s.setReceiver r).flagFrameError)
    (hbody : ∀ r kind tag data, (s.setReceiver r).hpt.replies.length < Config.maxReplies →
      P (dispatch kind tag data (s.setReceiver r))) : P (s.takeHostChar c) := by
  unfold State.takeHostChar
  split
  · exact hr _
  · exact hflag _
  · next r kind tag data _ =>
    by_cases hroom : (s.setReceiver r).hpt.replies.length < Config.maxReplies
    · rw [State.takeFrame_room _ _ hroom]
      exact hbody r kind tag data hroom
    · rw [State.takeFrame_full _ _ (by omega)]
      exact hflag r

end Sys2Proof.Machine
end

section
/-! SUPPORT. What the taking of a notice can never do: queue a second reply, or bring an entry into the timetable window.
One law per operation that the handling of a notice uses, then the law of the whole running out. -/
namespace Sys2Proof.Machine

/-- R172: a notice that will be composed into a reply. -/
def Notice.isAnswer : Notice → Bool
  | .answer _ _ => true
  | _ => false

/-- Notices none of which is an answer. -/
def silent (ns : List Notice) : Prop := ∀ tag a, Notice.answer tag a ∉ ns

/-- R172: the replies queued and those still to be composed. -/
def State.owed (s : State) : Nat := s.hpt.replies.length + s.agenda.countP Notice.isAnswer

/-- R60: what the order and the keys of the window are read from. -/
def TtEntry.keys (e : TtEntry) : Nat × Nat × Nat := (e.trip, e.stop, e.p)

/-- A state that owes at most `n` replies more than `s0`, and has no window entry that `s0` has not. -/
def State.within (s0 : State) (n : Nat) (s : State) : Prop :=
  s.owed ≤ s0.owed + n ∧ (s.window.entries.map TtEntry.keys).Sublist (s0.window.entries.map TtEntry.keys)

@[simp] theorem State.within_refl (s : State) : s.within 0 s := ⟨Nat.le_refl _, .refl _⟩

theorem State.within.trans {s0 s t : State} {n : Nat} (h : s0.within n s) (h' : s.within 0 t) : s0.within n t :=
  ⟨Nat.le_trans h'.1 h.1, h'.2.trans h.2⟩

/-! ### The notices that the blocks make -/

theorem Notice.isAnswer_iff (x : Notice) : x.isAnswer = true ↔ ∃ tag a, x = .answer tag a := by
  cases x <;> simp [Notice.isAnswer]

theorem countP_of_silent {ns : List Notice} (h : silent ns) : ns.countP Notice.isAnswer = 0 := by
  refine List.countP_eq_zero.mpr fun x m hx => ?_
  obtain ⟨tag, a, rfl⟩ := x.isAnswer_iff.mp hx
  exact h tag a m

@[simp] theorem silent_nil : silent [] := by simp [silent]

@[simp] theorem silent_cons (x : Notice) (ns : List Notice) :
    silent (x :: ns) ↔ (∀ tag a, x ≠ .answer tag a) ∧ silent ns := by
  simp only [silent, List.mem_cons, not_or, forall_and, ne_eq, eq_comm]

@[simp] theorem silent_append (a b : List Notice) : silent (a ++ b) ↔ silent a ∧ silent b := by
  simp only [silent, List.mem_append, not_or, forall_and]

@[simp] theorem silent_map (f : α → Notice) (l : List α) (h : ∀ x tag a, f x ≠ .answer tag a) : silent (l.map f) := by
  intro tag a m
  obtain ⟨x, -, e⟩ := List.mem_map.mp m
  exact h x tag a e

@[simp] theorem silent_flatMap (f : α → List Notice) (l : List α) (h : ∀ x, silent (f x)) : silent (l.flatMap f) := by
  intro tag a m
  obtain ⟨x, -, e⟩ := List.mem_flatMap.mp m
  exact h x tag a e

@[simp] theorem silent_ite (c : Prop) [Decidable c] (a b : List Notice) (ha : silent a) (hb : silent b) :
    silent (if c then a else b) := by
  split <;> assumption

@[simp] theorem notice_ne_answer (e : MirrorEntry) (c : Cause) (v : List (Option Nat)) (now : Nat) (tag : Byte)
    (a : Answer) : e.notice c v now ≠ .answer tag a := by
  simp [MirrorEntry.notice]

@[simp] theorem outcomeOf_ne_answer (el : Nat) (d : OrderData) (token : Nat) (r : Result) (b : Bool) (tag : Byte)
    (a : Answer) : outcomeOf el d token r b ≠ .answer tag a := by
  simp [outcomeOf]

@[simp] theorem linkReport_ne_answer (i : Nat) (x y : LinkState) (tag : Byte) (a : Answer) :
    linkReport i x y ≠ .answer tag a := by
  simp [linkReport]

@[simp] theorem jumpReport_ne_answer (train : Nat) (was : Option Nat) (stop : Nat) (tag : Byte) (a : Answer) :
    jumpReport train was stop ≠ .answer tag a := by
  simp [jumpReport]

@[simp] theorem silent_failReport (el : Nat) (d : OrderData) (r : Result) : silent (failReport el d r) := by
  simp [failReport]

@[simp] theorem silent_failOutcomes (e : MirrorEntry) (r : Result) : silent (e.failOutcomes r) := by
  cases ho : e.out <;> cases hs : e.succ <;> simp [MirrorEntry.failOutcomes, ho, hs]

@[simp] theorem silent_failReports (e : MirrorEntry) (r : Result) : silent (e.failReports r) := by
  cases ho : e.out <;> cases hs : e.succ <;> simp [MirrorEntry.failReports, ho, hs]

@[simp] theorem silent_handOvers (s : State) : silent s.handOvers := by
  simp [State.handOvers]

@[simp] theorem silent_releases (s : State) (zones : List Nat) : silent (s.releases zones) := by
  simp [State.releases]

@[simp] theorem silent_leavingNotices (s : State) (i : Nat) (new : SectState) : silent (s.leavingNotices i new) := by
  unfold State.leavingNotices
  split
  · split
    · simp
    · simp
  · simp

@[simp] theorem silent_changeNotices (s : State) (g : List Nat) (new : SectState) : silent (s.changeNotices g new) := by
  simp [State.changeNotices]

@[simp] theorem silent_removalNotices (s : State) (i : Nat) (st : SectState) (low : Bool) :
    silent (s.removalNotices i st low) := by
  simp [State.removalNotices]

@[simp] theorem silent_strandedNotice (train : Nat) (joins : Option Nat) (left : List Nat) :
    silent (strandedNotice train joins left) := by
  simp [strandedNotice]

@[simp] theorem silent_tieToOpen (s : State) (m : Nat) (mode : PairMode) : silent (s.tieToOpen m mode) := by
  unfold State.tieToOpen
  split <;> simp

@[simp] theorem silent_earlyReport (s : State) (slot : Nat) (t : Train) (stop : Nat) :
    silent (s.earlyReport slot t stop) := by
  unfold State.earlyReport
  split <;> simp

@[simp] theorem silent_tripEndReport (t : Train) : silent t.tripEndReport := by
  simp [Train.tripEndReport]

@[simp] theorem silent_returnPermit (train : Nat) : silent (returnPermit train) := by
  simp [returnPermit]

@[simp] theorem silent_dwellReport (train stop : Nat) (r : Result) : silent (dwellReport train stop r) := by
  cases r <;> simp [dwellReport]

@[simp] theorem silent_delayNotices (s : State) (train : Nat) (late : Option Int) (trip p : Option Nat) :
    silent (s.delayNotices train late trip p) := by
  unfold State.delayNotices
  split
  · split
    · simp
    · simp
  · simp

@[simp] theorem silent_departByPhase (s : State) (slot train : Nat) (st : Stand) :
    silent (s.departByPhase slot train st) := by
  unfold State.departByPhase
  split
  · simp
  · split <;> simp
  · simp

@[simp] theorem silent_giveBack (st : Stand) (train : Nat) : silent (st.giveBack train) := by
  unfold Stand.giveBack
  split <;> simp

/-! ### One law per operation -/

section
variable {s0 : State} {budget : Nat}

@[simp] theorem State.setEntries_within (es : List TtEntry) (s : State) (h : s0.within budget s)
    (hk : (es.map TtEntry.keys).Sublist (s.window.entries.map TtEntry.keys)) : s0.within budget (s.setEntries es) :=
  ⟨h.1, hk.trans h.2⟩

@[simp] theorem State.setTable_within (t : List Incident) (s : State) (h : s0.within budget s) :
    s0.within budget (s.setTable t) := h

/-- A fold of operations that each stay within. -/
@[simp] theorem foldl_within (f : State → α → State) (l : List α) (s : State)
    (hf : ∀ (s : State) (a : α), s.within 0 (f s a)) (h : s0.within budget s) : s0.within budget (l.foldl f s) := by
  induction l generalizing s with
  | nil => exact h
  | cons a l ih => exact ih _ (h.trans (hf s a))

@[simp] theorem State.setLink_within (i : Nat) (l : LinkRec) (s : State) (h : s0.within budget s) :
    s0.within budget (s.setLink i l) := h

@[simp] theorem State.modLink_within (i : Nat) (f : LinkRec → LinkRec) (s : State) (h : s0.within budget s) :
    s0.within budget (s.modLink i f) := h

@[simp] theorem State.latch_within (s : State) (h : s0.within budget s) : s0.within budget (State.latch s) := h

@[simp] theorem State.flagFrameError_within (s : State) (h : s0.within budget s) :
    s0.within budget (State.flagFrameError s) := h

@[simp] theorem State.flagIncidentOverflow_within (s : State) (h : s0.within budget s) :
    s0.within budget (State.flagIncidentOverflow s) := h

@[simp] theorem State.post_within (x : Notice) (s : State) (h : s0.within budget s) (hx : ∀ tag a, x ≠ .answer tag a) :
    s0.within budget (s.post x) := by
  have hx' : x.isAnswer = false := by
    rw [Bool.eq_false_iff, Ne, Notice.isAnswer_iff]
    rintro ⟨tag, a, e⟩
    exact hx tag a e
  refine ⟨?_, h.2⟩
  have := h.1
  simpa [State.owed, hx'] using this

@[simp] theorem State.posts_within (ns : List Notice) (s : State) (h : s0.within budget s) (hx : silent ns) :
    s0.within budget (s.posts ns) := by
  refine ⟨?_, h.2⟩
  have h0 : ns.countP Notice.isAnswer = 0 := countP_of_silent hx
  have := h.1
  simp only [State.owed, State.posts_hpt, State.posts_agenda, List.countP_append, h0, Nat.add_zero] at this ⊢
  exact this

@[simp] theorem State.report_within (k : ReportKind) (subject : Option Subject) (d1 d2 : Option Nat) (s : State)
    (h : s0.within budget s) : s0.within budget (State.report k subject d1 d2 s) := by
  unfold State.report
  repeat' split
  all_goals exact h

@[simp] theorem State.reply_within (r : Reply) (s : State) (h : s0.within 0 s) : s0.within 1 (s.reply r) := by
  refine ⟨?_, h.2⟩
  have := h.1
  simp only [State.owed, State.reply_hpt, List.length_append, List.length_singleton, State.reply_agenda] at this ⊢
  omega

@[simp] theorem State.done_within (tag : Byte) (data : List Byte) (s : State) (h : s0.within 0 s) :
    s0.within 1 (s.done tag data) := State.reply_within _ s h

@[simp] theorem State.reach_within (deadline : Nat) (s : State) (h : s0.within budget s) :
    s0.within budget (State.reach deadline s) := h

@[simp] theorem State.setEntry_within (e : MirrorEntry) (s : State) (h : s0.within budget s) :
    s0.within budget (State.setEntry e s) := h

@[simp] theorem State.setSlot_within (slot : Nat) (t : Option Train) (s : State) (h : s0.within budget s) :
    s0.within budget (State.setSlot slot t s) := h

@[simp] theorem State.setTrain_within (slot : Nat) (t : Train) (s : State) (h : s0.within budget s) :
    s0.within budget (State.setTrain slot t s) := h

@[simp] theorem State.setTentative_within (link : Nat) (t : Option TentativeSlot) (s : State)
    (h : s0.within budget s) : s0.within budget (State.setTentative link t s) := h

@[simp] theorem State.setStand_within (slot : Nat) (st : Option Stand) (s : State) (h : s0.within budget s) :
    s0.within budget (State.setStand slot st s) := h

@[simp] theorem State.putStand_within (slot : Nat) (st : Stand) (s : State) (h : s0.within budget s) :
    s0.within budget (State.putStand slot st s) := h

@[simp] theorem State.setHostHold_within (slot : Nat) (b : Bool) (s : State) (h : s0.within budget s) :
    s0.within budget (State.setHostHold slot b s) := h

@[simp] theorem State.setSect_within (i : Nat) (r : SectRec) (s : State) (h : s0.within budget s) :
    s0.within budget (State.setSect i r s) := h

@[simp] theorem State.modSect_within (i : Nat) (f : SectRec → SectRec) (s : State) (h : s0.within budget s) :
    s0.within budget (State.modSect i f s) := h

@[simp] theorem State.setSects_within (l : List SectRec) (s : State) (h : s0.within budget s) :
    s0.within budget (State.setSects l s) := h

@[simp] theorem State.setPairs_within (l : List PairRec) (s : State) (h : s0.within budget s) :
    s0.within budget (State.setPairs l s) := h

@[simp] theorem State.setSubs_within (l : List SubRec) (s : State) (h : s0.within budget s) :
    s0.within budget (State.setSubs l s) := h

@[simp] theorem State.setWaitList_within (l : List PermitRequest) (s : State) (h : s0.within budget s) :
    s0.within budget (State.setWaitList l s) := h

@[simp] theorem State.setPermits_within (l : List PermitRec) (s : State) (h : s0.within budget s) :
    s0.within budget (State.setPermits l s) := h

@[simp] theorem State.setLoads_within (l : List (Option LoadNote)) (s : State) (h : s0.within budget s) :
    s0.within budget (State.setLoads l s) := h

@[simp] theorem State.setStation_within (i : Nat) (r : StationRec) (s : State) (h : s0.within budget s) :
    s0.within budget (State.setStation i r s) := h

@[simp] theorem State.issueOrder_within (el : Nat) (d : OrderData) (s : State) (h : s0.within budget s) :
    s0.within budget (State.issueOrder el d s) := State.post_within (.issue el d s.orderCount) s h (by simp)

@[simp] theorem State.refuse_within (tag : Byte) (c : RefusalCode) (s : State) (h : s0.within 0 s) :
    s0.within 1 (s.refuse tag c) := State.reply_within _ s h

/-- R172: a reply to be composed is one more that the state owes. -/
@[simp] theorem State.post_answer_within (tag : Byte) (a : Answer) (s : State) (h : s0.within 0 s) :
    s0.within 1 (s.post (.answer tag a)) := by
  refine ⟨?_, h.2⟩
  have := h.1
  simp only [State.owed, State.post_hpt, State.post_agenda, List.countP_append, List.countP_singleton,
    Notice.isAnswer, if_true] at this ⊢
  omega

/-- The notices of a request that end with its answer. -/
@[simp] theorem State.posts_answer_within (ns : List Notice) (tag : Byte) (a : Answer) (s : State) (h : s0.within 0 s)
    (hx : silent ns) : s0.within 1 (s.posts (ns ++ [.answer tag a])) := by
  have := State.post_answer_within tag a _ (State.posts_within ns s h hx)
  simpa [State.posts, State.post] using this

@[simp] theorem State.rxJoin_within (i : Nat) (mk : Bool → RxEntry) (s : State) (h : s0.within budget s) :
    s0.within budget (State.rxJoin i mk s) := by
  unfold State.rxJoin
  split
  · exact h
  · dsimp only
    split
    · exact State.setLink_within _ _ _ h
    · split
      · exact State.report_within _ _ _ _ _ (State.setLink_within _ _ _ h)
      · exact State.setLink_within _ _ _ h

@[simp] theorem State.rxAnnotate_within (i : Nat) (a : Annotation) (s : State) (h : s0.within budget s) :
    s0.within budget (State.rxAnnotate i a s) := by
  unfold State.rxAnnotate
  simp (maxDischargeDepth := 30) [h]

@[simp] theorem State.choose_within (i : Nat) (l : LinkRec) (s : State) (h : s0.within budget s) :
    s0.within budget (State.choose i l s) := by
  unfold State.choose
  repeat' split
  all_goals simp (maxDischargeDepth := 30) [h]

@[simp] theorem State.kick_within (i : Nat) (s : State) (h : s0.within budget s) :
    s0.within budget (State.kick i s) := by
  unfold State.kick
  repeat' split
  all_goals simp (maxDischargeDepth := 30) [h]

@[simp] theorem State.poll_within (i el : Nat) (s : State) (h : s0.within budget s) :
    s0.within budget (State.poll i el s) := by
  unfold State.poll
  repeat' split
  all_goals simp (maxDischargeDepth := 30) [h]

@[simp] theorem State.pollSweep_within (i : Nat) (s : State) (h : s0.within budget s) :
    s0.within budget (State.pollSweep i s) := by
  unfold State.pollSweep
  simp (maxDischargeDepth := 30) [h]

@[simp] theorem State.forward_within (i : Nat) (bytes : List Byte) (damaged : Bool) (s : State)
    (h : s0.within budget s) : s0.within budget (State.forward i bytes damaged s) := by
  unfold State.forward
  repeat' split
  all_goals simp (maxDischargeDepth := 30) [h]

@[simp] theorem State.withdrawTentative_within (i : Nat) (s : State) (h : s0.within budget s) :
    s0.within budget (State.withdrawTentative i s) := by
  unfold State.withdrawTentative
  repeat' split
  all_goals simp (maxDischargeDepth := 30) [h]

@[simp] theorem State.judgeComplete_within (i : Nat) (bytes : List Byte) (damaged : Bool) (s : State)
    (h : s0.within budget s) : s0.within budget (State.judgeComplete i bytes damaged s) := by
  unfold State.judgeComplete
  repeat' split
  all_goals simp (maxDischargeDepth := 30) [h]

@[simp] theorem State.judgeTentative_within (i : Nat) (l : LinkRec) (bytes : List Byte) (damaged : Bool) (s : State)
    (h : s0.within budget s) : s0.within budget (State.judgeTentative i l bytes damaged s) := by
  unfold State.judgeTentative
  repeat' split
  all_goals simp (maxDischargeDepth := 30) [h]

@[simp] theorem State.telegramComplete_within (i : Nat) (bytes : List Byte) (damaged : Bool) (s : State)
    (h : s0.within budget s) : s0.within budget (State.telegramComplete i bytes damaged s) := by
  unfold State.telegramComplete
  repeat' split
  all_goals simp (maxDischargeDepth := 30) [h]

@[simp] theorem State.fragment_within (i : Nat) (s : State) (h : s0.within budget s) :
    s0.within budget (State.fragment i s) := by
  unfold State.fragment
  simp (maxDischargeDepth := 30) [h]

@[simp] theorem State.asmEffect_within (i : Nat) (e : AsmEvent) (s : State) (h : s0.within budget s) :
    s0.within budget (State.asmEffect i e s) := by
  unfold State.asmEffect
  repeat' split
  all_goals simp (maxDischargeDepth := 30) [h]

@[simp] theorem State.feed_within (i : Nat) (c : Received) (s : State) (h : s0.within budget s) :
    s0.within budget (State.feed i c s) := by
  unfold State.feed
  repeat' split
  all_goals simp (maxDischargeDepth := 30) [h]

@[simp] theorem State.takeChar_within (i : Nat) (c : FieldChar) (s : State) (h : s0.within budget s) :
    s0.within budget (State.takeChar i c s) := by
  unfold State.takeChar
  repeat' split
  all_goals simp (maxDischargeDepth := 30) [h]

@[simp] theorem State.loopRest_within (i : Nat) (s : State) (h : s0.within budget s) :
    s0.within budget (State.loopRest i s) := by
  unfold State.loopRest
  repeat' split
  all_goals simp (maxDischargeDepth := 30) [h]

@[simp] theorem State.quiesce_within (i : Nat) (s : State) (h : s0.within budget s) :
    s0.within budget (State.quiesce i s) := by
  unfold State.quiesce
  repeat' split
  all_goals simp (maxDischargeDepth := 30) [h]

@[simp] theorem State.moveLink_within (i : Nat) (new : LinkState) (s : State) (h : s0.within budget s) :
    s0.within budget (State.moveLink i new s) := by
  unfold State.moveLink
  repeat' split
  all_goals simp (maxDischargeDepth := 30) [h]

@[simp] theorem State.linkUp_within (i : Nat) (s : State) (h : s0.within budget s) :
    s0.within budget (State.linkUp i s) := by
  unfold State.linkUp
  simp (maxDischargeDepth := 30) [h]

@[simp] theorem State.rxPop_within (i : Nat) (l : LinkRec) (rest : List RxEntry) (s : State) (h : s0.within budget s) :
    s0.within budget (State.rxPop i l rest s) := by
  unfold State.rxPop
  split <;> simp (maxDischargeDepth := 30) [h]

@[simp] theorem State.endHeld_within (e : MirrorEntry) (o : Order) (r : Result) (c : Cause) (s : State)
    (h : s0.within budget s) : s0.within budget (State.endHeld e o r c s) := by
  unfold State.endHeld
  simp (maxDischargeDepth := 30) [h]

@[simp] theorem State.endLost_within (e e' : MirrorEntry) (r : Result) (c : Cause) (s : State)
    (h : s0.within budget s) : s0.within budget (State.endLost e e' r c s) := by
  unfold State.endLost
  simp (maxDischargeDepth := 30) [h]

@[simp] theorem State.failAtIssue_within (el : Nat) (d : OrderData) (token : Nat) (r : Result) (s : State)
    (h : s0.within budget s) : s0.within budget (State.failAtIssue el d token r s) := by
  unfold State.failAtIssue
  simp (maxDischargeDepth := 30) [h]

theorem State.offer_within (i : Nat) (e : TxEntry) (s t : State) (hs : s.offer i e = .taken t)
    (h : s0.within budget s) : s0.within budget t := by
  unfold State.offer at hs
  repeat' split at hs
  all_goals simp only [Offered.taken.injEq, reduceCtorEq] at hs
  all_goals subst hs
  all_goals simp [h]

@[simp] theorem State.replaceQueued_within (i token : Nat) (e : TxEntry) (s : State) (h : s0.within budget s) :
    s0.within budget (State.replaceQueued i token e s) := h

@[simp] theorem State.startOrder_within (e : MirrorEntry) (d : OrderData) (token : Nat) (s : State)
    (h : s0.within budget s) : s0.within budget (State.startOrder e d token s) := by
  unfold State.startOrder
  split
  · next t ht => simp (maxDischargeDepth := 30) [State.offer_within _ _ _ _ ht h]
  · simp (maxDischargeDepth := 30) [h]

@[simp] theorem State.overtake_within (e : MirrorEntry) (o : Order) (d : OrderData) (token : Nat) (s : State)
    (h : s0.within budget s) : s0.within budget (State.overtake e o d token s) := by
  unfold State.overtake
  dsimp only
  split
  · simp (maxDischargeDepth := 30) [h]
  · split
    · next t ht => simp (maxDischargeDepth := 30) [State.offer_within _ _ _ _ ht h]
    · simp (maxDischargeDepth := 30) [h]

@[simp] theorem State.wait_within (e : MirrorEntry) (d : OrderData) (token : Nat) (s : State)
    (h : s0.within budget s) : s0.within budget (State.wait e d token s) := by
  unfold State.wait
  split <;> simp (maxDischargeDepth := 30) [h]

@[simp] theorem issue_within (el : Nat) (d : OrderData) (token : Nat) (s : State) (h : s0.within budget s) :
    s0.within budget (issue el d token s) := by
  unfold issue
  repeat' split
  all_goals simp (maxDischargeDepth := 30) [h]

@[simp] theorem State.followBy_within (e : MirrorEntry) (w : Waiting) (c : Cause) (d : OrderData) (r : Result)
    (s : State) (h : s0.within budget s) : s0.within budget (State.followBy e w c d r s) := by
  unfold State.followBy
  dsimp only
  split
  · next t ht => simp (maxDischargeDepth := 30) [State.offer_within _ _ _ _ ht h]
  · simp (maxDischargeDepth := 30) [h]

@[simp] theorem follow_within (el : Nat) (c : Cause) (d : OrderData) (r : Result) (s : State)
    (h : s0.within budget s) : s0.within budget (follow el c d r s) := by
  unfold follow
  repeat' split
  all_goals simp (maxDischargeDepth := 30) [h]

@[simp] theorem evicted_within (el token : Nat) (s : State) (h : s0.within budget s) :
    s0.within budget (evicted el token s) := by
  unfold evicted
  repeat' split
  all_goals simp (maxDischargeDepth := 30) [h]

@[simp] theorem State.sentNotice_within (w : Sending) (looped : Bool) (s : State) (h : s0.within budget s) :
    s0.within budget (State.sentNotice w looped s) := by
  unfold State.sentNotice
  repeat' split
  all_goals simp (maxDischargeDepth := 30) [h]

@[simp] theorem State.orderExpired_within (e : MirrorEntry) (r : Result) (s : State) (h : s0.within budget s) :
    s0.within budget (State.orderExpired e r s) := by
  unfold State.orderExpired
  simp (maxDischargeDepth := 30) [h]

@[simp] theorem State.answerTimeout_within (el : Nat) (s : State) (h : s0.within budget s) :
    s0.within budget (State.answerTimeout el s) := by
  unfold State.answerTimeout
  repeat' split
  all_goals simp (maxDischargeDepth := 30) [h]

@[simp] theorem State.execTimeout_within (el : Nat) (s : State) (h : s0.within budget s) :
    s0.within budget (State.execTimeout el s) := by
  unfold State.execTimeout
  repeat' split
  all_goals simp (maxDischargeDepth := 30) [h]

@[simp] theorem State.noPush_within (el : Nat) (s : State) (h : s0.within budget s) :
    s0.within budget (State.noPush el s) := by
  unfold State.noPush
  repeat' split
  all_goals simp (maxDischargeDepth := 30) [h]

@[simp] theorem State.elementSilent_within (el : Nat) (s : State) (h : s0.within budget s) :
    s0.within budget (State.elementSilent el s) := by
  unfold State.elementSilent
  repeat' split
  all_goals simp (maxDischargeDepth := 30) [h]

@[simp] theorem State.stateSettled_within (e : MirrorEntry) (a : Authority) (v : Value) (carried : List (Option Nat))
    (linkUp : Bool) (s : State) (h : s0.within budget s) :
    s0.within budget (State.stateSettled e a v carried linkUp s) := by
  unfold State.stateSettled
  simp (maxDischargeDepth := 30) [h]

@[simp] theorem State.push_within (e : MirrorEntry) (o : Order) (a : Authority) (v : Value) (s : State)
    (h : s0.within budget s) : s0.within budget (State.push e o a v s) := by
  unfold State.push
  dsimp only
  split
  · simp (maxDischargeDepth := 30) [h]
  · split
    · simp (maxDischargeDepth := 30) [h]
    · split
      · next t ht => simp (maxDischargeDepth := 30) [State.offer_within _ _ _ _ ht h]
      · simp (maxDischargeDepth := 30) [h]

@[simp] theorem State.stateTelegram_within (e : MirrorEntry) (a : Authority) (v : Value) (s : State)
    (h : s0.within budget s) : s0.within budget (State.stateTelegram e a v s) := by
  unfold State.stateTelegram
  repeat' split
  all_goals simp (maxDischargeDepth := 30) [h]

@[simp] theorem State.eventTelegram_within (e : MirrorEntry) (code train : Nat) (v : Option Value) (forwarded : Bool)
    (s : State) (h : s0.within budget s) : s0.within budget (State.eventTelegram e code train v forwarded s) := by
  unfold State.eventTelegram
  repeat' split
  all_goals simp (maxDischargeDepth := 30) [h]

@[simp] theorem State.answerTaken_within (e : MirrorEntry) (o : Order) (code reason : Nat) (s : State)
    (h : s0.within budget s) : s0.within budget (State.answerTaken e o code reason s) := by
  unfold State.answerTaken
  repeat' split
  all_goals simp (maxDischargeDepth := 30) [h]

@[simp] theorem State.answerTelegram_within (e : MirrorEntry) (seq code reason : Nat) (s : State)
    (h : s0.within budget s) : s0.within budget (State.answerTelegram e seq code reason s) := by
  unfold State.answerTelegram
  repeat' split
  all_goals simp (maxDischargeDepth := 30) [h]

@[simp] theorem State.executedTaken_within (e : MirrorEntry) (o : Order) (v : Value) (s : State)
    (h : s0.within budget s) : s0.within budget (State.executedTaken e o v s) := by
  unfold State.executedTaken
  simp (maxDischargeDepth := 30) [h]

@[simp] theorem State.executedTelegram_within (e : MirrorEntry) (seq : Nat) (v : Value) (s : State)
    (h : s0.within budget s) : s0.within budget (State.executedTelegram e seq v s) := by
  unfold State.executedTelegram
  repeat' split
  all_goals simp (maxDischargeDepth := 30) [h]

@[simp] theorem State.inconsistent_within (i : Nat) (t : Telegram) (check : Nat) (s : State)
    (h : s0.within budget s) : s0.within budget (State.inconsistent i t check s) := by
  unfold State.inconsistent
  simp (maxDischargeDepth := 30) [h]

@[simp] theorem State.takeTelegram_within (i : Nat) (t : Telegram) (forwarded looped : Bool) (s : State)
    (h : s0.within budget s) : s0.within budget (State.takeTelegram i t forwarded looped s) := by
  unfold State.takeTelegram
  repeat' split
  all_goals simp (maxDischargeDepth := 30) [h]

@[simp] theorem State.takeEntry_within (i : Nat) (s : State) (h : s0.within budget s) :
    s0.within budget (State.takeEntry i s) := by
  unfold State.takeEntry
  repeat' split
  all_goals simp (maxDischargeDepth := 30) [h]

@[simp] theorem State.loseElements_within (i : Nat) (orders : List TxEntry) (s : State) (h : s0.within budget s) :
    s0.within budget (State.loseElements i orders s) := by
  unfold State.loseElements
  refine State.posts_within _ _ h ?_
  simp

@[simp] theorem State.leaveLink_within (i : Nat) (new : LinkState) (s : State) (h : s0.within budget s) :
    s0.within budget (State.leaveLink i new s) := by
  unfold State.leaveLink
  simp (maxDischargeDepth := 30) [h]

@[simp] theorem pollAll_within (s : State) (h : s0.within budget s) : s0.within budget (pollAll s) := by
  unfold pollAll
  simp (maxDischargeDepth := 30) [h]

/-- R68: releasing a binding keeps every key. -/
@[simp] theorem keys_unbind (train : Nat) (es : List TtEntry) :
    (unbind train es).map TtEntry.keys = es.map TtEntry.keys := by
  simp only [unbind, List.map_map]
  refine List.map_congr_left fun e _ => ?_
  simp only [Function.comp]
  split <;> rfl

@[simp] theorem State.ttRelease_within (train : Nat) (s : State) (h : s0.within budget s) :
    s0.within budget (State.ttRelease train s) := by
  unfold State.ttRelease
  split <;> simp [h]

@[simp] theorem State.ttBind_within (train trip stop : Nat) (s : State) (h : s0.within budget s) :
    s0.within budget (State.ttBind train trip stop s) := by
  have hk : ∀ es : List TtEntry, (es.map (fun x => if x.trip = trip ∧ x.stop = stop then
      { x with bound := some train } else x)).map TtEntry.keys = es.map TtEntry.keys := by
    intro es
    simp only [List.map_map]
    refine List.map_congr_left fun e _ => ?_
    simp only [Function.comp]
    split <;> rfl
  unfold State.ttBind
  repeat' split
  · exact h
  · exact State.setEntries_within _ _ (State.ttRelease_within train s h) ((hk _).symm ▸ List.Sublist.refl _)
  · exact h

@[simp] theorem State.ttDepart_within (train stop : Nat) (trip : Option Nat) (d : Nat) (s : State)
    (h : s0.within budget s) : s0.within budget (State.ttDepart train stop trip d s) :=
  ⟨h.1, (List.filter_sublist.map _).trans h.2⟩

@[simp] theorem expire_within (s : State) (h : s0.within budget s) : s0.within budget (expire s) :=
  foldl_within _ _ _ (fun _ _ => State.report_within _ _ _ _ _ (State.within_refl _))
    (State.setEntries_within _ _ h (List.filter_sublist.map _))

@[simp] theorem State.setTrainLoad_within (slot : Nat) (t : Train) (s : State) (h : s0.within budget s) :
    s0.within budget (State.setTrainLoad slot t s) := by
  unfold State.setTrainLoad
  simp (maxDischargeDepth := 30) [h]

@[simp] theorem State.endStartWindow_within (t : Train) (s : State) (h : s0.within budget s) :
    s0.within budget (State.endStartWindow t s) := by
  unfold State.endStartWindow
  repeat' split
  all_goals simp (maxDischargeDepth := 30) [h]

@[simp] theorem tentativeEvent_within (link el : Nat) (arrival : Bool) (train : Nat) (s : State)
    (h : s0.within budget s) : s0.within budget (tentativeEvent link el arrival train s) := by
  unfold tentativeEvent
  dsimp only
  repeat' split
  all_goals simp (maxDischargeDepth := 30) [h]

@[simp] theorem State.voidEvents_within (train : Nat) (s : State) (h : s0.within budget s) :
    s0.within budget (State.voidEvents train s) := h

@[simp] theorem State.acceptArrival_within (slot : Nat) (t : Train) (stop a : Nat) (s : State)
    (h : s0.within budget s) : s0.within budget (State.acceptArrival slot t stop a s) := by
  unfold State.acceptArrival
  repeat' split
  all_goals simp (maxDischargeDepth := 30) [h]

@[simp] theorem State.conflict_within (slot : Nat) (t : Train) (stop : Nat) (s : State) (h : s0.within budget s) :
    s0.within budget (State.conflict slot t stop s) := by
  unfold State.conflict
  simp (maxDischargeDepth := 30) [h]

@[simp] theorem State.settleArrival_within (slot : Nat) (t : Train) (stop : Nat) (s : State)
    (h : s0.within budget s) : s0.within budget (State.settleArrival slot t stop s) := by
  unfold State.settleArrival
  repeat' split
  all_goals simp (maxDischargeDepth := 30) [h]

@[simp] theorem State.confirmDeparture_within (slot : Nat) (t : Train) (stop d : Nat) (s : State)
    (h : s0.within budget s) : s0.within budget (State.confirmDeparture slot t stop d s) := by
  have h1 := State.setTrain_within slot (t.departed d (s.departureLateness t stop d) (s.inSeconds s.params.startWindow))
    _ (State.ttDepart_within t.id stop t.trip d s h)
  unfold State.confirmDeparture
  dsimp only
  refine State.posts_within _ _ h1 ?_
  simp

@[simp] theorem State.giveUpStand_within (slot : Nat) (t : Train) (s : State) (h : s0.within budget s) :
    s0.within budget (State.giveUpStand slot t s) := by
  unfold State.giveUpStand
  simp (maxDischargeDepth := 30) [h]

@[simp] theorem positionReport_within (train stop : Nat) (was : Option Nat) (jump : Bool) (s : State)
    (h : s0.within budget s) : s0.within budget (positionReport train stop was jump s) := by
  unfold positionReport
  repeat' split
  all_goals simp (maxDischargeDepth := 30) [h]

@[simp] theorem State.unknownTrain_within (train stop : Nat) (s : State) (h : s0.within budget s) :
    s0.within budget (State.unknownTrain train stop s) := by
  unfold State.unknownTrain
  simp (maxDischargeDepth := 30) [h]

@[simp] theorem State.judgeArrival_within (train stop : Nat) (s : State) (h : s0.within budget s) :
    s0.within budget (State.judgeArrival train stop s) := by
  unfold State.judgeArrival
  repeat' split
  all_goals simp (maxDischargeDepth := 30) [h]

@[simp] theorem State.judgeDeparture_within (train stop : Nat) (s : State) (h : s0.within budget s) :
    s0.within budget (State.judgeDeparture train stop s) := by
  unfold State.judgeDeparture
  repeat' split
  all_goals simp (maxDischargeDepth := 30) [h]

@[simp] theorem confirmedEvent_within (arrival : Bool) (train stop : Nat) (s : State) (h : s0.within budget s) :
    s0.within budget (confirmedEvent arrival train stop s) := by
  unfold confirmedEvent
  repeat' split
  all_goals simp (maxDischargeDepth := 30) [h]

@[simp] theorem State.endApplied_within (slot : Nat) (t : Train) (arrival confirmed : Bool) (s : State)
    (h : s0.within budget s) : s0.within budget (State.endApplied slot t arrival confirmed s) := by
  unfold State.endApplied
  repeat' split
  all_goals simp (maxDischargeDepth := 30) [h]

@[simp] theorem tentativeEnd_within (link : Nat) (confirmed : Bool) (s : State) (h : s0.within budget s) :
    s0.within budget (tentativeEnd link confirmed s) := by
  unfold tentativeEnd
  dsimp only
  repeat' split
  all_goals simp (maxDischargeDepth := 30) [h]

@[simp] theorem State.reconcile_within (v : ValueNotice) (s : State) (h : s0.within budget s) :
    s0.within budget (State.reconcile v s) := by
  unfold State.reconcile
  repeat' split
  all_goals simp (maxDischargeDepth := 30) [h]

@[simp] theorem permitGiven_within (train level : Nat) (s : State) (h : s0.within budget s) :
    s0.within budget (permitGiven train level s) := by
  unfold permitGiven
  repeat' split
  all_goals simp (maxDischargeDepth := 30) [h]

@[simp] theorem permitReturned_within (train : Nat) (s : State) (h : s0.within budget s) :
    s0.within budget (permitReturned train s) := by
  unfold permitReturned
  repeat' split
  all_goals simp (maxDischargeDepth := 30) [h]

@[simp] theorem State.startWindowDeadline_within (slot : Nat) (s : State) (h : s0.within budget s) :
    s0.within budget (State.startWindowDeadline slot s) := by
  unfold State.startWindowDeadline
  repeat' split
  all_goals simp (maxDischargeDepth := 30) [h]

@[simp] theorem State.removeTrain_within (slot : Nat) (t : Train) (s : State) (h : s0.within budget s) :
    s0.within budget (State.removeTrain slot t s) := by
  unfold State.removeTrain
  simp (maxDischargeDepth := 30) [h]

@[simp] theorem slotFreed_within (slot train : Nat) (s : State) (h : s0.within budget s) :
    s0.within budget (slotFreed slot train s) := by
  unfold slotFreed
  simp (maxDischargeDepth := 30) [h]

@[simp] theorem State.requestPermit_within (slot : Nat) (st : Stand) (s : State) (h : s0.within budget s) :
    s0.within budget (State.requestPermit slot st s) := by
  unfold State.requestPermit
  simp (maxDischargeDepth := 30) [h]

@[simp] theorem State.issueRevoke_within (slot : Nat) (st : Stand) (s : State) (h : s0.within budget s) :
    s0.within budget (State.issueRevoke slot st s) := by
  unfold State.issueRevoke
  simp (maxDischargeDepth := 30) [h]

@[simp] theorem State.becameHeld_within (slot : Nat) (st : Stand) (s : State) (h : s0.within budget s) :
    s0.within budget (State.becameHeld slot st s) := by
  unfold State.becameHeld
  repeat' split
  all_goals simp (maxDischargeDepth := 30) [h]

@[simp] theorem State.becameFree_within (slot : Nat) (st : Stand) (s : State) (h : s0.within budget s) :
    s0.within budget (State.becameFree slot st s) := by
  unfold State.becameFree
  repeat' split
  all_goals simp (maxDischargeDepth := 30) [h]

@[simp] theorem State.holdChange_within (slot : Nat) (before : Bool) (st : Stand) (s : State)
    (h : s0.within budget s) : s0.within budget (State.holdChange slot before st s) := by
  unfold State.holdChange
  dsimp only
  split <;> simp (maxDischargeDepth := 30) [h]

@[simp] theorem recompute_within (slot : Nat) (s : State) (h : s0.within budget s) :
    s0.within budget (recompute slot s) := by
  unfold recompute
  repeat' split
  all_goals simp (maxDischargeDepth := 30) [h]

/-- An act on every stand stays within if the act on one stand does. -/
theorem State.eachStand_within (act : Nat → State → State) (s : State) (ha : ∀ (i : Nat) (t : State), t.within 0
    (act i t))
    (h : s0.within budget s) : s0.within budget (s.eachStand act) := foldl_within _ _ _ (fun t i => ha i t) h

@[simp] theorem sectChanged_within (sect : Nat) (st : SectState) (low : Bool) (s : State) (h : s0.within budget s) :
    s0.within budget (sectChanged sect st low s) := by
  unfold sectChanged
  exact State.eachStand_within _ _ (fun _ _ => by simp) h

@[simp] theorem heldStations_within (set : List Nat) (s : State) (h : s0.within budget s) :
    s0.within budget (heldStations set s) := by
  unfold heldStations
  exact State.eachStand_within _ _ (fun _ _ => by simp) h

@[simp] theorem requestRemoved_within (train : Nat) (st : SectState) (low : Bool) (s : State)
    (h : s0.within budget s) : s0.within budget (requestRemoved train st low s) := by
  unfold requestRemoved
  repeat' split
  all_goals simp (maxDischargeDepth := 30) [h]

@[simp] theorem State.holdTrain_within (slot : Nat) (s : State) (h : s0.within budget s) :
    s0.within budget (State.holdTrain slot s) := by
  unfold State.holdTrain
  repeat' split
  all_goals simp (maxDischargeDepth := 30) [h]

@[simp] theorem State.unholdTrain_within (slot : Nat) (s : State) (h : s0.within budget s) :
    s0.within budget (State.unholdTrain slot s) := by
  unfold State.unholdTrain
  repeat' split
  all_goals simp (maxDischargeDepth := 30) [h]

@[simp] theorem standTentative_within (slot : Nat) (s : State) (h : s0.within budget s) :
    s0.within budget (standTentative slot s) := by
  unfold standTentative
  repeat' split
  all_goals simp (maxDischargeDepth := 30) [h]

@[simp] theorem standWithdrawn_within (slot : Nat) (s : State) (h : s0.within budget s) :
    s0.within budget (standWithdrawn slot s) := by
  unfold standWithdrawn
  simp (maxDischargeDepth := 30) [h]

@[simp] theorem State.startDwelling_within (slot train : Nat) (st : Stand) (pl : Plan) (s : State)
    (h : s0.within budget s) : s0.within budget (State.startDwelling slot train st pl s) := by
  unfold State.startDwelling
  simp (maxDischargeDepth := 30) [h]

@[simp] theorem State.arrivedStand_within (slot : Nat) (t : Train) (st : Stand) (s : State) (h : s0.within budget s) :
    s0.within budget (State.arrivedStand slot t st s) := by
  unfold State.arrivedStand
  repeat' split
  all_goals simp (maxDischargeDepth := 30) [h]

@[simp] theorem standArrived_within (slot : Nat) (s : State) (h : s0.within budget s) :
    s0.within budget (standArrived slot s) := by
  unfold standArrived
  repeat' split
  all_goals simp (maxDischargeDepth := 30) [h]

@[simp] theorem due_within (slot : Nat) (s : State) (h : s0.within budget s) : s0.within budget (due slot s) := by
  unfold due
  repeat' split
  all_goals simp (maxDischargeDepth := 30) [h]

@[simp] theorem State.issueRelease_within (slot level : Nat) (st : Stand) (s : State) (h : s0.within budget s) :
    s0.within budget (State.issueRelease slot level st s) := by
  unfold State.issueRelease
  simp (maxDischargeDepth := 30) [h]

@[simp] theorem State.takeGrant_within (slot train t : Nat) (st : Stand) (s : State) (h : s0.within budget s) :
    s0.within budget (State.takeGrant slot train t st s) := by
  unfold State.takeGrant
  repeat' split
  all_goals simp (maxDischargeDepth := 30) [h]

@[simp] theorem granted_within (train t : Nat) (s : State) (h : s0.within budget s) :
    s0.within budget (granted train t s) := by
  unfold granted
  repeat' split
  all_goals simp (maxDischargeDepth := 30) [h]

@[simp] theorem State.dwellOutcome_within (slot : Nat) (st : Stand) (r : Result) (s : State)
    (h : s0.within budget s) : s0.within budget (State.dwellOutcome slot st r s) := by
  unfold State.dwellOutcome
  repeat' split
  all_goals simp (maxDischargeDepth := 30) [h]

@[simp] theorem State.afterFailure_within (slot : Nat) (st : Stand) (s : State) (h : s0.within budget s) :
    s0.within budget (State.afterFailure slot st s) := by
  unfold State.afterFailure
  repeat' split
  all_goals simp (maxDischargeDepth := 30) [h]

@[simp] theorem State.releaseFailure_within (slot : Nat) (st : Stand) (r : Result) (s : State)
    (h : s0.within budget s) : s0.within budget (State.releaseFailure slot st r s) := by
  unfold State.releaseFailure
  simp (maxDischargeDepth := 30) [h]

@[simp] theorem State.releaseOutcome_within (slot : Nat) (st : Stand) (r : Result) (s : State)
    (h : s0.within budget s) : s0.within budget (State.releaseOutcome slot st r s) := by
  unfold State.releaseOutcome
  repeat' split
  all_goals simp (maxDischargeDepth := 30) [h]

@[simp] theorem State.revokeReached_within (slot : Nat) (st : Stand) (s : State) (h : s0.within budget s) :
    s0.within budget (State.revokeReached slot st s) := by
  unfold State.revokeReached
  simp (maxDischargeDepth := 30) [h]

@[simp] theorem State.revokeOutcome_within (slot : Nat) (st : Stand) (r : Result) (s : State)
    (h : s0.within budget s) : s0.within budget (State.revokeOutcome slot st r s) := by
  unfold State.revokeOutcome
  repeat' split
  all_goals simp (maxDischargeDepth := 30) [h]

@[simp] theorem State.earlierOutcome_within (o : OutcomeMsg) (s : State) (h : s0.within budget s) :
    s0.within budget (State.earlierOutcome o s) := by
  unfold State.earlierOutcome
  repeat' split
  all_goals simp (maxDischargeDepth := 30) [h]

@[simp] theorem State.platformOutcome_within (o : OutcomeMsg) (s : State) (h : s0.within budget s) :
    s0.within budget (State.platformOutcome o s) := by
  unfold State.platformOutcome
  repeat' split
  all_goals simp (maxDischargeDepth := 30) [h]

@[simp] theorem standDeparted_within (slot train : Nat) (late : Option Int) (trip p : Option Nat) (s : State)
    (h : s0.within budget s) : s0.within budget (standDeparted slot train late trip p s) := by
  unfold standDeparted
  split <;> simp (maxDischargeDepth := 30) [h]

@[simp] theorem State.endStandRecord_within (slot train : Nat) (s : State) (h : s0.within budget s) :
    s0.within budget (State.endStandRecord slot train s) := by
  unfold State.endStandRecord
  repeat' split
  all_goals simp (maxDischargeDepth := 30) [h]

@[simp] theorem standEnded_within (slot : Nat) (s : State) (h : s0.within budget s) :
    s0.within budget (standEnded slot s) := by
  unfold standEnded
  simp (maxDischargeDepth := 30) [h]

@[simp] theorem trainGone_within (slot train : Nat) (s : State) (h : s0.within budget s) :
    s0.within budget (trainGone slot train s) := by
  unfold trainGone
  simp (maxDischargeDepth := 30) [h]

@[simp] theorem State.planStanding_within (slot : Nat) (t : Train) (st : Stand) (s : State) (h : s0.within budget s) :
    s0.within budget (State.planStanding slot t st s) := by
  unfold State.planStanding
  repeat' split
  all_goals simp (maxDischargeDepth := 30) [h]

@[simp] theorem startStand_within (slot : Nat) (s : State) (h : s0.within budget s) :
    s0.within budget (startStand slot s) := by
  unfold startStand
  repeat' split
  all_goals simp (maxDischargeDepth := 30) [h]

@[simp] theorem resumeStand_within (slot : Nat) (s : State) (h : s0.within budget s) :
    s0.within budget (resumeStand slot s) := by
  unfold resumeStand
  repeat' split
  all_goals simp (maxDischargeDepth := 30) [h]

@[simp] theorem State.standDown_within (slot : Nat) (st : Stand) (phase : Option Phase) (s : State)
    (h : s0.within budget s) : s0.within budget (State.standDown slot st phase s) := by
  unfold State.standDown
  simp (maxDischargeDepth := 30) [h]

@[simp] theorem suspendStand_within (slot : Nat) (s : State) (h : s0.within budget s) :
    s0.within budget (suspendStand slot s) := by
  unfold suspendStand
  repeat' split
  all_goals simp (maxDischargeDepth := 30) [h]

@[simp] theorem endStand_within (slot : Nat) (s : State) (h : s0.within budget s) :
    s0.within budget (endStand slot s) := by
  unfold endStand
  repeat' split
  all_goals simp (maxDischargeDepth := 30) [h]

@[simp] theorem State.carrierReturn_within (i : Nat) (s : State) (h : s0.within budget s) :
    s0.within budget (State.carrierReturn i s) := by
  unfold State.carrierReturn
  repeat' split
  all_goals simp (maxDischargeDepth := 30) [h]

@[simp] theorem State.carrierLoss_within (i : Nat) (s : State) (h : s0.within budget s) :
    s0.within budget (State.carrierLoss i s) := by
  unfold State.carrierLoss
  repeat' split
  all_goals simp (maxDischargeDepth := 30) [h]

@[simp] theorem State.gapTimeout_within (i : Nat) (s : State) (h : s0.within budget s) :
    s0.within budget (State.gapTimeout i s) := by
  unfold State.gapTimeout
  repeat' split
  all_goals simp (maxDischargeDepth := 30) [h]

@[simp] theorem State.telegramSent_within (i : Nat) (s : State) (h : s0.within budget s) :
    s0.within budget (State.telegramSent i s) := by
  unfold State.telegramSent
  repeat' split
  all_goals simp (maxDischargeDepth := 30) [h]

@[simp] theorem State.setStates_within (g : List Nat) (new : SectState) (s : State) (h : s0.within budget s) :
    s0.within budget (State.setStates g new s) := by
  unfold State.setStates
  simp (maxDischargeDepth := 30) [h]

@[simp] theorem State.changeTo_within (g : List Nat) (new : SectState) (s : State) (h : s0.within budget s) :
    s0.within budget (State.changeTo g new s) := by
  unfold State.changeTo
  simp (maxDischargeDepth := 30) [h]

@[simp] theorem State.setSeq_within (base : Nat) (q : Option Sequence) (s : State) (h : s0.within budget s) :
    s0.within budget (State.setSeq base q s) := by
  unfold State.setSeq
  simp (maxDischargeDepth := 30) [h]

@[simp] theorem State.dropRequests_within (i : Nat) (s : State) (h : s0.within budget s) :
    s0.within budget (State.dropRequests i s) := by
  unfold State.dropRequests
  simp (maxDischargeDepth := 30) [h]

@[simp] theorem leftLive_within (i : Nat) (s : State) (h : s0.within budget s) : s0.within budget (leftLive i s) := by
  unfold leftLive
  simp (maxDischargeDepth := 30) [h]

@[simp] theorem becameLive_within (i : Nat) (s : State) (h : s0.within budget s) :
    s0.within budget (becameLive i s) := by
  unfold becameLive
  simp (maxDischargeDepth := 30) [h]

@[simp] theorem State.recount_within (s : State) (h : s0.within budget s) : s0.within budget (State.recount s) := by
  unfold State.recount
  simp (maxDischargeDepth := 30) [h]

@[simp] theorem State.recountAndExamine_within (s : State) (h : s0.within budget s) :
    s0.within budget (State.recountAndExamine s) := by
  unfold State.recountAndExamine
  repeat' split
  all_goals simp (maxDischargeDepth := 30) [h]

@[simp] theorem State.setLoad_within (slot : Nat) (n : Option LoadNote) (s : State) (h : s0.within budget s) :
    s0.within budget (State.setLoad slot n s) := h

@[simp] theorem State.unstrand_within (slot : Nat) (keep : Option Nat) (s : State) (h : s0.within budget s) :
    s0.within budget (State.unstrand slot keep s) := by
  unfold State.unstrand
  simp (maxDischargeDepth := 30) [h]

@[simp] theorem State.strand_within (slot : Nat) (i : Option Nat) (s : State) (h : s0.within budget s) :
    s0.within budget (State.strand slot i s) := by
  unfold State.strand
  repeat' split
  all_goals simp (maxDischargeDepth := 30) [h]

@[simp] theorem load_within (slot : Nat) (n : LoadNote) (s : State) (h : s0.within budget s) :
    s0.within budget (load slot n s) := by
  unfold load
  simp (maxDischargeDepth := 30) [h]

@[simp] theorem unload_within (slot train : Nat) (s : State) (h : s0.within budget s) :
    s0.within budget (unload slot train s) := by
  unfold unload
  simp (maxDischargeDepth := 30) [h]

@[simp] theorem State.countStart_within (train : Nat) (s : State) (h : s0.within budget s) :
    s0.within budget (State.countStart train s) := by
  unfold State.countStart
  simp (maxDischargeDepth := 30) [h]

@[simp] theorem State.grant_within (r : PermitRequest) (s : State) (h : s0.within budget s) :
    s0.within budget (State.grant r s) := by
  unfold State.grant
  simp (maxDischargeDepth := 30) [h]

@[simp] theorem walk_within (trains : List Nat) (s : State) (h : s0.within budget s) :
    s0.within budget (walk trains s) := by
  unfold walk
  repeat' split
  all_goals simp (maxDischargeDepth := 30) [h]

@[simp] theorem reexamine_within (s : State) (h : s0.within budget s) : s0.within budget (reexamine s) := by
  unfold reexamine
  simp (maxDischargeDepth := 30) [h]

@[simp] theorem permitRequest_within (train i : Nat) (s : State) (h : s0.within budget s) :
    s0.within budget (permitRequest train i s) := by
  unfold permitRequest
  repeat' split
  all_goals simp (maxDischargeDepth := 30) [h]

@[simp] theorem permitWithdraw_within (train : Nat) (s : State) (h : s0.within budget s) :
    s0.within budget (permitWithdraw train s) := by
  unfold permitWithdraw
  repeat' split
  all_goals simp (maxDischargeDepth := 30) [h]

@[simp] theorem permitEnded_within (train : Nat) (s : State) (h : s0.within budget s) :
    s0.within budget (permitEnded train s) := by
  unfold permitEnded
  simp (maxDischargeDepth := 30) [h]

@[simp] theorem State.permitWaitLong_within (train : Nat) (s : State) (h : s0.within budget s) :
    s0.within budget (State.permitWaitLong train s) := by
  unfold State.permitWaitLong
  repeat' split
  all_goals simp (maxDischargeDepth := 30) [h]

@[simp] theorem openBreaker_within (el : Nat) (s : State) (h : s0.within budget s) :
    s0.within budget (openBreaker el s) := by
  unfold openBreaker
  repeat' split
  all_goals simp (maxDischargeDepth := 30) [h]

@[simp] theorem State.isolate_within (i : Nat) (kind : IsoKind) (ordered : List Nat) (mustRead : Bool)
    (after : List Notice) (s : State) (h : s0.within budget s) (ha : silent after) :
    s0.within budget (State.isolate i kind ordered mustRead after s) := by
  unfold State.isolate
  simp (maxDischargeDepth := 30) [h, ha]

@[simp] theorem State.isolateHost_within (i : Nat) (s : State) (h : s0.within budget s) :
    s0.within budget (State.isolateHost i s) := by
  unfold State.isolateHost
  repeat' split
  all_goals simp (maxDischargeDepth := 30) [h]

@[simp] theorem isolationCheck_within (base : Nat) (s : State) (h : s0.within budget s) :
    s0.within budget (isolationCheck base s) := by
  unfold isolationCheck
  repeat' split
  all_goals simp (maxDischargeDepth := 30) [h]

@[simp] theorem State.abort_within (base : Nat) (c : AbortCause) (s : State) (h : s0.within budget s) :
    s0.within budget (State.abort base c s) := by
  unfold State.abort
  repeat' split
  all_goals simp (maxDischargeDepth := 30) [h]

@[simp] theorem State.chargeFailure_within (base named : Nat) (ordered : List Nat) (s : State)
    (h : s0.within budget s) : s0.within budget (State.chargeFailure base named ordered s) := by
  unfold State.chargeFailure
  simp (maxDischargeDepth := 30) [h]

@[simp] theorem State.trip_within (i : Nat) (s : State) (h : s0.within budget s) :
    s0.within budget (State.trip i s) := by
  unfold State.trip
  simp (maxDischargeDepth := 30) [h]

@[simp] theorem State.takeDerived_within (i : Nat) (d : Derived) (s : State) (h : s0.within budget s) :
    s0.within budget (State.takeDerived i d s) := by
  unfold State.takeDerived
  repeat' split
  all_goals simp (maxDischargeDepth := 30) [h]

@[simp] theorem derive_within (i : Nat) (s : State) (h : s0.within budget s) : s0.within budget (derive i s) := by
  unfold derive
  repeat' split
  all_goals simp (maxDischargeDepth := 30) [h]

@[simp] theorem demandAct_within (i : Nat) (s : State) (h : s0.within budget s) : s0.within budget (demandAct i s) := by
  unfold demandAct
  repeat' split
  all_goals simp (maxDischargeDepth := 30) [h]

@[simp] theorem demands_within (set : List Nat) (s : State) (h : s0.within budget s) :
    s0.within budget (demands set s) := by
  unfold demands
  simp (maxDischargeDepth := 30) [h]

@[simp] theorem State.prechargeFirst_within (base named : Nat) (ordered : List Nat) (s : State)
    (h : s0.within budget s) : s0.within budget (State.prechargeFirst base named ordered s) := by
  unfold State.prechargeFirst
  repeat' split
  all_goals simp (maxDischargeDepth := 30) [h]

@[simp] theorem State.firstStep_within (base named : Nat) (s : State) (h : s0.within budget s) :
    s0.within budget (State.firstStep base named s) := by
  unfold State.firstStep
  repeat' split
  all_goals simp (maxDischargeDepth := 30) [h]

@[simp] theorem nextClose_within (base : Nat) (s : State) (h : s0.within budget s) :
    s0.within budget (nextClose base s) := by
  unfold nextClose
  repeat' split
  all_goals simp (maxDischargeDepth := 30) [h]

@[simp] theorem State.prechargeExpiry_within (i : Nat) (s : State) (h : s0.within budget s) :
    s0.within budget (State.prechargeExpiry i s) := by
  unfold State.prechargeExpiry
  dsimp only
  repeat' split
  all_goals simp (maxDischargeDepth := 30) [h]

@[simp] theorem State.closeReached_within (base el named : Nat) (step : EnergizeStep) (ordered : List Nat)
    (m v : Option Nat) (s : State) (h : s0.within budget s) :
    s0.within budget (State.closeReached base el named step ordered m v s) := by
  unfold State.closeReached
  dsimp only
  repeat' split
  all_goals simp (maxDischargeDepth := 30) [h]

@[simp] theorem State.closeOutcome_within (o : OutcomeMsg) (s : State) (h : s0.within budget s) :
    s0.within budget (State.closeOutcome o s) := by
  unfold State.closeOutcome
  repeat' split
  all_goals simp (maxDischargeDepth := 30) [h]

@[simp] theorem State.breakerOutcome_within (o : OutcomeMsg) (s : State) (h : s0.within budget s) :
    s0.within budget (State.breakerOutcome o s) := by
  unfold State.breakerOutcome
  repeat' split
  all_goals simp (maxDischargeDepth := 30) [h]

@[simp] theorem State.breakerNotice_within (v : ValueNotice) (s : State) (h : s0.within budget s) :
    s0.within budget (State.breakerNotice v s) := by
  unfold State.breakerNotice
  repeat' split
  all_goals simp (maxDischargeDepth := 30) [h]

@[simp] theorem State.judgeOverload_within (f load : Nat) (s : State) (h : s0.within budget s) :
    s0.within budget (State.judgeOverload f load s) := by
  unfold State.judgeOverload
  repeat' split
  all_goals simp (maxDischargeDepth := 30) [h]

@[simp] theorem State.measure_within (f load moment : Nat) (s : State) (h : s0.within budget s) :
    s0.within budget (State.measure f load moment s) := by
  unfold State.measure
  simp (maxDischargeDepth := 30) [h]

@[simp] theorem State.meterStale_within (f : Nat) (s : State) (h : s0.within budget s) :
    s0.within budget (State.meterStale f s) := by
  unfold State.meterStale
  repeat' split
  all_goals simp (maxDischargeDepth := 30) [h]

@[simp] theorem State.voltage_within (i v moment : Nat) (s : State) (h : s0.within budget s) :
    s0.within budget (State.voltage i v moment s) := by
  unfold State.voltage
  simp (maxDischargeDepth := 30) [h]

@[simp] theorem State.meterNotice_within (v : ValueNotice) (s : State) (h : s0.within budget s) :
    s0.within budget (State.meterNotice v s) := by
  have h1 : s0.within budget ((List.range s.tsv.sects.length).foldl
      (fun s i => match s.carriedFor v i with
        | some x => s.voltage i x v.moment
        | none => s) s) := by
    refine foldl_within _ _ _ (fun t i => ?_) h
    split <;> simp
  unfold State.meterNotice
  dsimp only
  split
  · split
    · refine foldl_within _ _ _ (fun t f => ?_) h1
      split <;> simp
    · exact h1
  · exact h1

@[simp] theorem State.setLow_within (i : Nat) (s : State) (h : s0.within budget s) :
    s0.within budget (State.setLow i s) := by
  unfold State.setLow
  simp (maxDischargeDepth := 30) [h]

@[simp] theorem State.clearLow_within (i : Nat) (s : State) (h : s0.within budget s) :
    s0.within budget (State.clearLow i s) := by
  unfold State.clearLow
  simp (maxDischargeDepth := 30) [h]

@[simp] theorem State.voltageExpiry_within (i : Nat) (s : State) (h : s0.within budget s) :
    s0.within budget (State.voltageExpiry i s) := by
  unfold State.voltageExpiry
  repeat' split
  all_goals simp (maxDischargeDepth := 30) [h]

@[simp] theorem State.setMode_within (m : Nat) (mode : PairMode) (s : State) (h : s0.within budget s) :
    s0.within budget (State.setMode m mode s) := by
  unfold State.setMode
  simp (maxDischargeDepth := 30) [h]

@[simp] theorem State.putIncident_within (x : Incident) (s : State) (h : s0.within budget s) :
    s0.within budget (State.putIncident x s) := by
  unfold State.putIncident
  simp (maxDischargeDepth := 30) [h]

@[simp] theorem State.mergeReport_within (x : Incident) (mark : Nat) (s : State) (h : s0.within budget s) :
    s0.within budget (State.mergeReport x mark s) := by
  unfold State.mergeReport
  simp (maxDischargeDepth := 30) [h]

@[simp] theorem State.raiseReport_within (x : Incident) (s : State) (h : s0.within budget s) :
    s0.within budget (State.raiseReport x s) := by
  unfold State.raiseReport
  simp (maxDischargeDepth := 30) [h]

@[simp] theorem State.enter_within (x : Incident) (s : State) (h : s0.within budget s) :
    s0.within budget (State.enter x s) := h

@[simp] theorem State.reopen_within (y : Incident) (s : State) (h : s0.within budget s) :
    s0.within budget (State.reopen y s) := h

@[simp] theorem raise_within (k : IncKind) (key : Nat) (s : State) (h : s0.within budget s) :
    s0.within budget (raise k key s) := by
  unfold raise
  repeat' split
  all_goals simp (maxDischargeDepth := 30) [h]

@[simp] theorem resolve_within (k : IncKind) (key : Nat) (s : State) (h : s0.within budget s) :
    s0.within budget (resolve k key s) := by
  unfold resolve
  repeat' split
  all_goals simp (maxDischargeDepth := 30) [h]

@[simp] theorem State.escalateReport_within (number severity mark : Nat) (s : State) (h : s0.within budget s) :
    s0.within budget (State.escalateReport number severity mark s) := by
  unfold State.escalateReport
  simp (maxDischargeDepth := 30) [h]

@[simp] theorem State.escalate_within (x : Incident) (d : Nat) (s : State) (h : s0.within budget s) :
    s0.within budget (State.escalate x d s) := by
  unfold State.escalate
  repeat' split
  all_goals simp (maxDischargeDepth := 30) [h]

@[simp] theorem State.escalationDeadline_within (number : Nat) (s : State) (h : s0.within budget s) :
    s0.within budget (State.escalationDeadline number s) := by
  unfold State.escalationDeadline
  repeat' split
  all_goals simp (maxDischargeDepth := 30) [h]

@[simp] theorem deriveEffects_within (s : State) (h : s0.within budget s) : s0.within budget (deriveEffects s) := by
  unfold deriveEffects
  simp (maxDischargeDepth := 30) [h]

@[simp] theorem handHeld_within (s : State) (h : s0.within budget s) : s0.within budget (handHeld s) := by
  unfold handHeld
  split
  · exact h
  · exact State.post_within _ _ h (by simp)

@[simp] theorem handDemands_within (s : State) (h : s0.within budget s) : s0.within budget (handDemands s) := by
  unfold handDemands
  split
  · exact h
  · exact State.post_within _ _ h (by simp)

@[simp] theorem handContent_within (station : Nat) (s : State) (h : s0.within budget s) :
    s0.within budget (handContent station s) := by
  unfold handContent
  split
  · exact h
  · exact State.post_within _ _ h (by simp)

@[simp] theorem State.sendShow_within (i el : Nat) (r : StationRec) (s : State) (h : s0.within budget s) :
    s0.within budget (State.sendShow i el r s) := by
  unfold State.sendShow
  repeat' split
  all_goals simp (maxDischargeDepth := 30) [h]

@[simp] theorem judge_within (i : Nat) (s : State) (h : s0.within budget s) : s0.within budget (judge i s) := by
  unfold judge
  repeat' split
  all_goals simp (maxDischargeDepth := 30) [h]

@[simp] theorem showRaised_within (i : Nat) (s : State) (h : s0.within budget s) :
    s0.within budget (showRaised i s) := by
  unfold showRaised
  repeat' split
  all_goals simp (maxDischargeDepth := 30) [h]

@[simp] theorem State.sendingEnds_within (i el : Nat) (r : StationRec) (x : Result) (s : State)
    (h : s0.within budget s) : s0.within budget (State.sendingEnds i el r x s) := by
  unfold State.sendingEnds
  repeat' split
  all_goals simp (maxDischargeDepth := 30) [h]

@[simp] theorem State.showOutcome_within (o : OutcomeMsg) (s : State) (h : s0.within budget s) :
    s0.within budget (State.showOutcome o s) := by
  unfold State.showOutcome
  repeat' split
  all_goals simp (maxDischargeDepth := 30) [h]

@[simp] theorem State.shownNotice_within (v : ValueNotice) (s : State) (h : s0.within budget s) :
    s0.within budget (State.shownNotice v s) := by
  unfold State.shownNotice
  repeat' split
  all_goals simp (maxDischargeDepth := 30) [h]

@[simp] theorem releaseStation_within (i : Nat) (s : State) (h : s0.within budget s) :
    s0.within budget (releaseStation i s) := by
  unfold releaseStation
  repeat' split
  all_goals simp (maxDischargeDepth := 30) [h]

@[simp] theorem trainArrived_within (stop : Nat) (s : State) (h : s0.within budget s) :
    s0.within budget (trainArrived stop s) := by
  unfold trainArrived
  simp (maxDischargeDepth := 30) [h]

@[simp] theorem State.minuteBoundary_within (s : State) (h : s0.within budget s) :
    s0.within budget (State.minuteBoundary s) := by
  unfold State.minuteBoundary
  simp (maxDischargeDepth := 30) [h]

@[simp] theorem incidentContent_within (i : Nat) (c : Option Content) (s : State) (h : s0.within budget s) :
    s0.within budget (incidentContent i c s) := by
  unfold incidentContent
  repeat' split
  all_goals simp (maxDischargeDepth := 30) [h]

@[simp] theorem delayWrite_within (i : Nat) (n : DelayNotice) (s : State) (h : s0.within budget s) :
    s0.within budget (delayWrite i n s) := by
  unfold delayWrite
  repeat' split
  all_goals simp (maxDischargeDepth := 30) [h]

@[simp] theorem State.clearDelay_within (i train : Nat) (s : State) (h : s0.within budget s) :
    s0.within budget (State.clearDelay i train s) := by
  unfold State.clearDelay
  repeat' split
  all_goals simp (maxDischargeDepth := 30) [h]

@[simp] theorem delayWithdraw_within (train : Nat) (s : State) (h : s0.within budget s) :
    s0.within budget (delayWithdraw train s) := by
  unfold delayWithdraw
  simp (maxDischargeDepth := 30) [h]

@[simp] theorem trainDeparted_within (train stop : Nat) (s : State) (h : s0.within budget s) :
    s0.within budget (trainDeparted train stop s) := by
  unfold trainDeparted
  simp (maxDischargeDepth := 30) [h]

@[simp] theorem State.startDisplays_within (s : State) (h : s0.within budget s) :
    s0.within budget (State.startDisplays s) := by
  unfold State.startDisplays
  exact State.posts_within _ _ h (by simp)

@[simp] theorem State.replySent_within (s : State) (h : s0.within budget s) : s0.within budget (State.replySent s) := by
  refine ⟨Nat.le_trans ?_ h.1, h.2⟩
  simp only [State.owed, State.replySent, List.length_tail]
  omega

@[simp] theorem takeOutcome_within (o : OutcomeMsg) (s : State) (h : s0.within budget s) :
    s0.within budget (takeOutcome o s) := by
  unfold takeOutcome
  repeat' split
  all_goals simp (maxDischargeDepth := 30) [h]

@[simp] theorem takeValue_within (v : ValueNotice) (s : State) (h : s0.within budget s) :
    s0.within budget (takeValue v s) := by
  unfold takeValue
  repeat' split
  all_goals simp (maxDischargeDepth := 30) [h]

/-- Every notice but an answer is taken within what the state owes. -/
theorem handle_within (x : Notice) (s : State) (hx : ∀ tag a, x ≠ .answer tag a) : s.within 0 (handle x s) := by
  cases x
  case answer tag a => exact absurd rfl (hx tag a)
  all_goals simp [handle]

-- SPECIAL settle

end

/-! ### Running out -/

/-- R172: a notice taken from the agenda owes no more than the agenda did. -/
theorem State.takeNotice_within (x : Notice) (rest : List Notice) (s : State) (h : s.agenda = x :: rest) :
    s.within 0 (s.takeNotice x rest) := by
  suffices hx : (handle x (s.setAgenda [])).owed ≤ s.hpt.replies.length + (if x.isAnswer then 1 else 0) ∧
      ((handle x (s.setAgenda [])).window.entries.map TtEntry.keys).Sublist (s.window.entries.map TtEntry.keys) by
    refine ⟨?_, hx.2⟩
    have := hx.1
    simp only [State.owed, State.takeNotice, State.behind, State.setAgenda_hpt, State.latch_hpt, State.setAgenda_agenda,
      State.latch_agenda, List.countP_append, h, List.countP_cons] at this ⊢
    omega
  by_cases hx : ∃ tag a, x = .answer tag a
  · obtain ⟨tag, a, rfl⟩ := hx
    have := State.done_within tag ((s.setAgenda []).answerData a) _ (s.setAgenda []).within_refl
    exact ⟨by simpa [State.owed, Notice.isAnswer, handle, takeAnswer] using this.1, this.2⟩
  · simp only [not_exists] at hx
    have := handle_within x (s.setAgenda []) hx
    exact ⟨by simpa [State.owed] using Nat.le_trans this.1 (by simp [State.owed]), this.2⟩

theorem State.run_within (k : Nat) (s : State) : s.within 0 (s.run k) := by
  induction k generalizing s with
  | zero => exact s.within_refl
  | succ k ih =>
    unfold State.run
    split
    · exact s.within_refl
    · next x rest hx => exact (State.takeNotice_within x rest s hx).trans (ih _)

/-- What a command leaves settled owes no more than it did before its notices ran out, and holds no more entries. -/
theorem settle_within (s : State) : s.within 0 (settle s) := by
  have h := (State.latch_within s s.within_refl).trans (s.latch.run_within Config.cascadeBound)
  refine ⟨Nat.le_trans ?_ h.1, h.2⟩
  simp [State.owed, settle]

end Sys2Proof.Machine
end

section
/-! SUPPORT. The requests that only work on the records: each keeps the fixed parts and the bounds, and owes one reply. -/
namespace Sys2Proof.Machine

/-- An operation on the records: the fixed parts and the bounds are kept, no reply is owed and no entry brought in. -/
def State.orderly (s t : State) : Prop := t.fixed = s.fixed ∧ (s.bounded → t.bounded) ∧ s.within 0 t

/-- What such a request leaves: the fixed parts, the bounds, and one reply owed. -/
def State.answered (s t : State) : Prop := t.fixed = s.fixed ∧ (s.bounded → t.bounded) ∧ s.within 1 t

section
variable {s t : State}

@[simp] theorem State.orderly_refl (s : State) : s.orderly s := ⟨rfl, id, s.within_refl⟩

theorem State.orderly.done (h : s.orderly t) (tag : Byte) (data : List Byte) : s.answered (t.done tag data) :=
  ⟨(t.done_fixed tag data).trans h.1, fun hb => t.done_bounded tag data (h.2.1 hb), State.done_within tag data t h.2.2⟩

theorem State.orderly.answer (h : s.orderly t) (tag : Byte) (a : Answer) : s.answered (t.post (.answer tag a)) :=
  ⟨(t.post_fixed _).trans h.1, fun hb => t.post_bounded _ (h.2.1 hb), State.post_answer_within tag a t h.2.2⟩

theorem State.orderly.notices (h : s.orderly t) (tag : Byte) (a : Answer) {ns : List Notice} (hn : silent ns) :
    s.answered (t.posts (ns ++ [.answer tag a])) :=
  ⟨(t.posts_fixed _).trans h.1, fun hb => t.posts_bounded _ (h.2.1 hb), State.posts_answer_within ns tag a t h.2.2 hn⟩

/-- One more notice before the answer, as the incident manager posts it. -/
theorem State.orderly.noticeAnswer (h : s.orderly t) (x : Notice) (tag : Byte) (a : Answer)
    (hx : ∀ tag a, x ≠ .answer tag a) : s.answered (t.posts [x, .answer tag a]) :=
  h.notices (ns := [x]) tag a ((silent_cons x []).mpr ⟨hx, silent_nil⟩)

@[simp] theorem State.refuse_answered (tag : Byte) (c : RefusalCode) (s : State) : s.answered (s.refuse tag c) :=
  ⟨s.refuse_fixed tag c, s.refuse_bounded tag c, State.refuse_within tag c s s.within_refl⟩

@[simp] theorem State.done_answered (tag : Byte) (data : List Byte) (s : State) : s.answered (s.done tag data) :=
  s.orderly_refl.done tag data

end

/-! ### The host port and the queries -/

theorem reqIdentify_answered (tag : Byte) (d : List Byte) (s : State) : s.answered (reqIdentify tag d s) := by
  unfold reqIdentify
  split <;> simp

theorem reqTtQuery_answered (tag : Byte) (d : List Byte) (s : State) : s.answered (reqTtQuery tag d s) := by
  unfold reqTtQuery
  dsimp only
  repeat' split
  all_goals simp

@[simp] theorem State.slotAnswer_answered (tag : Byte) (slot : Nat) (s : State) : s.answered (s.slotAnswer tag slot) := by
  unfold State.slotAnswer
  split <;> simp

theorem reqTrainQuery_answered (tag : Byte) (d : List Byte) (s : State) : s.answered (reqTrainQuery tag d s) := by
  unfold reqTrainQuery
  dsimp only
  repeat' split
  all_goals simp

theorem reqSecQuery_answered (tag : Byte) (d : List Byte) (s : State) : s.answered (reqSecQuery tag d s) := by
  unfold reqSecQuery
  repeat' split
  all_goals simp

theorem reqIncQuery_answered (tag : Byte) (d : List Byte) (s : State) : s.answered (reqIncQuery tag d s) := by
  unfold reqIncQuery
  repeat' split
  all_goals simp

theorem reqAnnQuery_answered (tag : Byte) (d : List Byte) (s : State) : s.answered (reqAnnQuery tag d s) := by
  unfold reqAnnQuery
  repeat' split
  all_goals simp

theorem reqElementQuery_answered (tag : Byte) (d : List Byte) (s : State) : s.answered (reqElementQuery tag d s) := by
  unfold reqElementQuery
  repeat' split
  all_goals simp

theorem reqLinkQuery_answered (tag : Byte) (d : List Byte) (s : State) : s.answered (reqLinkQuery tag d s) := by
  unfold reqLinkQuery
  split
  · simp
  · split
    · simp
    · next l hl =>
      refine State.orderly.done ?_ _ _
      exact ⟨State.setLink_fixed .., fun h => State.setLink_bounded _ _ _ h (h.like hl rfl rfl),
        State.setLink_within _ _ _ s.within_refl⟩

theorem reqFetchReports_answered (tag : Byte) (d : List Byte) (s : State) : s.answered (reqFetchReports tag d s) := by
  unfold reqFetchReports
  split
  · simp
  · split
    · refine State.orderly.done ?_ _ _
      refine ⟨State.setReports_fixed .., fun h => ⟨Nat.le_trans ?_ h.1, h.2⟩, s.within_refl⟩
      simp
    · simp

theorem reqReadConditions_answered (tag : Byte) (d : List Byte) (s : State) :
    s.answered (reqReadConditions tag d s) := by
  unfold reqReadConditions
  split
  · simp
  · exact State.orderly.done ⟨State.clearConditions_fixed s, id, s.within_refl⟩ _ _

/-! ### Links and elements -/

theorem reqElementPoll_answered (tag : Byte) (d : List Byte) (s : State) : s.answered (reqElementPoll tag d s) := by
  unfold reqElementPoll
  repeat' split
  · simp
  · simp
  · exact State.orderly.done ⟨by simp, fun h => by simp [h], by simp⟩ _ _

@[simp] theorem State.enterLoop_orderly (i : Nat) (l : LinkRec) (s : State) (hl : s.links[i]? = some l) :
    s.orderly (s.enterLoop i l) := by
  refine ⟨State.enterLoop_fixed .., fun h => ?_, ?_⟩
  · unfold State.enterLoop
    split
    · simp [h]
    · exact State.post_bounded _ _ (State.setLink_bounded _ _ _ h (h.like hl rfl rfl))
    · exact h
  · unfold State.enterLoop
    split <;> simp

@[simp] theorem State.leaveLoop_orderly (i : Nat) (l : LinkRec) (s : State) : s.orderly (s.leaveLoop i l) := by
  refine ⟨State.leaveLoop_fixed .., fun h => ?_, ?_⟩
  · unfold State.leaveLoop
    repeat' split
    all_goals simp (maxDischargeDepth := 30) [h]
  · unfold State.leaveLoop
    repeat' split
    all_goals simp (maxDischargeDepth := 30)

theorem reqLinkMode_answered (tag : Byte) (d : List Byte) (s : State) : s.answered (reqLinkMode tag d s) := by
  unfold reqLinkMode
  split
  · simp
  · split
    · simp
    · simp
    · next l _ hl =>
      refine State.orderly.answer ?_ _ _
      split
      · exact State.enterLoop_orderly _ _ _ hl
      · exact State.leaveLoop_orderly _ _ _

/-! ### The timetable window -/

/-- R64: TT_CANCEL takes entries out of the window. -/
theorem reqTtCancel_answered (tag : Byte) (d : List Byte) (s : State) : s.answered (reqTtCancel tag d s) := by
  unfold reqTtCancel
  dsimp only
  repeat' split
  · simp
  · simp
  · simp
  · simp
  · refine State.orderly.done ?_ _ _
    exact ⟨rfl, fun h => State.setEntries_bounded _ _ h (List.length_filter_le _ _),
      State.setEntries_within _ _ s.within_refl (List.filter_sublist.map _)⟩

/-! ### Trains -/

theorem reqTrainAdd_answered (tag : Byte) (d : List Byte) (s : State) : s.answered (reqTrainAdd tag d s) := by
  unfold reqTrainAdd
  split
  · simp
  · split
    · simp
    · split
      · simp
      · split
        · simp
        · split
          · simp
          · split
            · simp
            · exact State.orderly.answer ⟨by simp, fun h => by simp [h], by simp⟩ _ _

theorem State.assignTrip_answered (tag : Byte) (slot : Nat) (t : Train) (trip : Nat) (s : State) :
    s.answered (s.assignTrip tag slot t trip) := by
  have htrain : ∀ t', s.orderly (s.setTrain slot t') :=
    fun t' => ⟨State.setTrain_fixed .., fun h => State.setTrain_bounded _ _ _ h, State.setTrain_within _ _ _ s.within_refl⟩
  unfold State.assignTrip
  repeat' split
  · simp
  · exact (htrain _).done _ _
  · exact (htrain _).done _ _
  · simp

theorem reqTrainAssign_answered (tag : Byte) (d : List Byte) (s : State) : s.answered (reqTrainAssign tag d s) := by
  unfold reqTrainAssign
  repeat' split
  all_goals simp [State.assignTrip_answered]

/-- R88, R91: a request that names a train is answered if its act is. -/
theorem State.withTrain_answered (tag : Byte) (d : List Byte) (s : State) (act : Nat → State)
    (h : ∀ i, s.answered (act i)) : s.answered (s.withTrain tag d act) := by
  unfold State.withTrain
  repeat' split
  all_goals simp [h]

theorem reqTrainRemove_answered (tag : Byte) (d : List Byte) (s : State) : s.answered (reqTrainRemove tag d s) := by
  refine State.withTrain_answered _ _ _ _ fun i => ?_
  split
  · simp
  · exact State.orderly.answer ⟨by simp, fun h => by simp [h], by simp⟩ _ _

theorem reqTrainHold_answered (tag : Byte) (d : List Byte) (s : State) : s.answered (reqTrainHold tag d s) :=
  State.withTrain_answered _ _ _ _ fun i => State.orderly.answer ⟨by simp, fun h => by simp [h], by simp⟩ _ _

theorem reqTrainUnhold_answered (tag : Byte) (d : List Byte) (s : State) : s.answered (reqTrainUnhold tag d s) :=
  State.withTrain_answered _ _ _ _ fun i => State.orderly.answer ⟨by simp, fun h => by simp [h], by simp⟩ _ _

/-! ### Sections -/

theorem reqSecEnergize_answered (tag : Byte) (d : List Byte) (s : State) : s.answered (reqSecEnergize tag d s) := by
  unfold reqSecEnergize
  dsimp only
  repeat' split
  · simp
  · simp
  · exact State.orderly.answer ⟨by simp, fun h => by simp [h], by simp⟩ _ _

theorem State.isolateByState_answered (tag : Byte) (i : Nat) (s : State) : s.answered (s.isolateByState tag i) := by
  unfold State.isolateByState
  split
  · simp
  · exact State.orderly.answer ⟨by simp, fun h => by simp [h], by simp⟩ _ _
  · exact State.orderly.answer ⟨by simp, fun h => by simp [h], by simp⟩ _ _
  · exact State.orderly.answer ⟨by simp, fun h => by simp [h], by simp⟩ _ _
  · simp
  · split
    · exact State.orderly.answer ⟨by simp, fun h => by simp [h], by simp⟩ _ _
    · simp

theorem reqSecIsolate_answered (tag : Byte) (d : List Byte) (s : State) : s.answered (reqSecIsolate tag d s) := by
  unfold reqSecIsolate
  split
  · simp
  · exact State.isolateByState_answered _ _ _

theorem reqSecUnlock_answered (tag : Byte) (d : List Byte) (s : State) : s.answered (reqSecUnlock tag d s) := by
  unfold reqSecUnlock
  dsimp only
  split
  · simp
  · split
    · exact State.orderly.noticeAnswer ⟨by simp, fun h => by simp [h], by simp⟩ _ _ _ (by simp)
    · exact s.orderly_refl.answer _ _

@[simp] theorem State.setMode_orderly (m : Nat) (mode : PairMode) (s : State) : s.orderly (s.setMode m mode) :=
  ⟨State.setMode_fixed .., id, s.within_refl⟩

theorem State.changeMode_answered (tag : Byte) (m : Nat) (mode : PairMode) (s : State) :
    s.answered (s.changeMode tag m mode) := by
  obtain ⟨hf, hb, hw⟩ := s.setMode_orderly m mode
  refine State.orderly.answer ?_ _ _
  exact ⟨by simp [hf], fun h => by simp (maxDischargeDepth := 30) [hb h], by simp (maxDischargeDepth := 30) [hw]⟩

theorem reqPairMode_answered (tag : Byte) (d : List Byte) (s : State) : s.answered (reqPairMode tag d s) := by
  unfold reqPairMode
  repeat' split
  all_goals simp [State.changeMode_answered]

/-! ### Incidents -/

@[simp] theorem State.putIncident_orderly (x : Incident) (s : State) : s.orderly (s.putIncident x) :=
  ⟨State.putIncident_fixed .., fun h => State.putIncident_bounded _ _ h, State.putIncident_within _ _ s.within_refl⟩

theorem reqIncRaise_answered (tag : Byte) (d : List Byte) (s : State) : s.answered (reqIncRaise tag d s) := by
  unfold reqIncRaise
  split
  · simp
  · split
    · simp
    · split
      · simp
      · split
        · simp
        · split
          · simp
          · split
            · simp
            · next hroom =>
              refine State.orderly.noticeAnswer ⟨by simp, fun h => ?_, ?_⟩ _ _ _ (by simp)
              · refine State.report_bounded _ _ _ _ _ ⟨h.1, h.2.1, ?_, h.2.2.2⟩
                simp only [State.incidentsBounded, State.enter, List.length_append, List.length_singleton]
                omega
              · exact State.raiseReport_within _ _ (State.enter_within _ _ s.within_refl)

theorem reqIncAmend_answered (tag : Byte) (d : List Byte) (s : State) : s.answered (reqIncAmend tag d s) := by
  unfold reqIncAmend
  repeat' split
  all_goals try simp only [State.refuse_answered]
  exact (State.putIncident_orderly _ s).noticeAnswer _ _ _ (by simp)

/-- R141, R142: a request that names an incident is answered if its act is. -/
theorem State.withIncident_answered (tag : Byte) (d : List Byte) (s : State) (act : Incident → State)
    (h : ∀ x, s.answered (act x)) : s.answered (s.withIncident tag d act) := by
  unfold State.withIncident
  repeat' split
  all_goals simp [h]

theorem reqIncAck_answered (tag : Byte) (d : List Byte) (s : State) : s.answered (reqIncAck tag d s) := by
  refine State.withIncident_answered _ _ _ _ fun x => ?_
  split
  · exact (State.putIncident_orderly _ s).noticeAnswer _ _ _ (by simp)
  · simp
  · simp

theorem reqIncClose_answered (tag : Byte) (d : List Byte) (s : State) : s.answered (reqIncClose tag d s) :=
  State.withIncident_answered _ _ _ _ fun _ => State.orderly.noticeAnswer
    ⟨State.setTable_fixed .., fun h => State.setTable_bounded _ _ h (List.length_filter_le _ _), s.within_refl⟩ _ _ _
    (by simp)

/-! ### Announcements -/

theorem State.bindAll_answered (tag : Byte) (layer : HostLayer) (p : PendingPart) (set : List Nat) (s : State) :
    s.answered (s.bindAll tag layer p set) := by
  unfold State.bindAll
  refine State.orderly.done ?_ _ _
  exact ⟨by simp [State.fixed], id, s.within_refl⟩

theorem reqAnnBind_answered (tag : Byte) (d : List Byte) (s : State) : s.answered (reqAnnBind tag d s) := by
  unfold reqAnnBind
  repeat' split
  all_goals simp [State.bindAll_answered]

theorem reqAnnClear_answered (tag : Byte) (d : List Byte) (s : State) : s.answered (reqAnnClear tag d s) := by
  unfold reqAnnClear
  repeat' split
  all_goals simp [State.bindAll_answered]

theorem reqAnnRelease_answered (tag : Byte) (d : List Byte) (s : State) : s.answered (reqAnnRelease tag d s) := by
  unfold reqAnnRelease
  dsimp only
  repeat' split
  all_goals try simp only [State.refuse_answered]
  exact s.orderly_refl.notices _ _ (silent_releases _ _)

end Sys2Proof.Machine
end

section
/-! SUPPORT. What a request can do, said once: it works on the records, or is one of the twelve effects on the description,
the clock, the window and the settings. -/
namespace Sys2Proof.Machine

/-- The kinds that load a table or empty the store (R1 to R10). -/
def tableKinds : List Nat := [0x11, 0x12, 0x13, 0x14, 0x15, 0x16, 0x1B, 0x1C, 0x1D]

/-- R3, R5: a change of the store that brings in no Stations or Sections table beyond the capacities. -/
def loadsWithin (f : Lds → Lds) : Prop :=
  ∀ l, ((f l).stations = l.stations ∨ ((f l).stations.getD []).length ≤ Config.maxStations) ∧
    ((f l).sections = l.sections ∨ (((f l).sections.map (·.sects)).getD []).length ≤ Config.maxSections) ∧
    (f l).service = l.service

/-- What a request of a kind can leave, by the effect it has. -/
inductive RequestStep (tag : Byte) (s : State) : Nat → State → Prop
  | answered (k : Nat) (t : State) (h : s.answered t) : RequestStep tag s k t
  | load (k : Nat) (f : Lds → Lds) (hk : k ∈ tableKinds) (hf : loadsWithin f) (hs : s.lds.service.active = false) :
      RequestStep tag s k (s.alterStore tag f)
  | commit (hs : s.lds.service = .unconfigured) (h : s.commitCheck = none) : RequestStep tag s 0x17 (s.commit tag)
  | clock (t : Nat) (h : t ≤ Config.lastLineTime) :
      RequestStep tag s 0x18 (((s.setClock t).limitReport.timeSeen).post (.answer tag (.done [])))
  | service (a : ServiceAction) (new : ServiceState) (h : s.serviceAfter a = some new) :
      RequestStep tag s 0x19 (s.serviceChange tag a new)
  | restart : RequestStep tag s 0x1A ((s.done tag []).restart)
  | append (es : List TtEntry) (h : s.appendCheck es = none) : RequestStep tag s 0x20 (s.append tag es)
  | amend (old e : TtEntry) (h : s.ttLookup e.trip e.stop = some old)
      (hc : s.window.entries.any (fun x => sameStopTime x e && !sameTripStop x e) = false) :
      RequestStep tag s 0x21 (s.amend tag old e)
  | working (beta threshold : Nat) (data : List Byte) : RequestStep tag s 0x36 ((s.setWorking beta threshold).done tag data)
  | stage (x : Staging) (data : List Byte) : RequestStep tag s 0x60 ((s.setStaging x).done tag data)
  | trigger (z : Nat) (x : Trigger) (data : List Byte) : RequestStep tag s 0x64 ((s.setTrigger z x).done tag data)
  | masks (cond classes : Nat) (attention : Bool) (data : List Byte) :
      RequestStep tag s 0x82 ((s.setMasks cond classes attention).done tag data)

section
variable {tag : Byte} {s : State} {k : Nat}

@[simp] theorem RequestStep.refuse (c : RefusalCode) : RequestStep tag s k (s.refuse tag c) := .answered _ _ (by simp)

/-! ### The tables -/

theorem inRange_iff (lo hi n : Nat) : inRange lo hi n = true ↔ lo ≤ n ∧ n ≤ hi := by
  simp [inRange]

/-- R2: a table message is refused or changes the store. -/
theorem State.tableMessage_step (lengthOk valueOk : Bool) (f : Lds → Lds) (hk : k ∈ tableKinds)
    (hf : valueOk = true → loadsWithin f) : RequestStep tag s k (s.tableMessage tag lengthOk valueOk f) := by
  unfold State.tableMessage
  split
  · simp
  · split
    · simp
    · next ha =>
      split
      · simp
      · next hv => exact .load _ _ hk (hf (by simpa using hv)) (by simpa using ha)

theorem reqLdBegin_step (d : List Byte) : RequestStep tag s 0x11 (reqLdBegin tag d s) :=
  State.tableMessage_step _ _ _ (by decide) fun _ _ => ⟨.inr (Nat.zero_le _), .inr (Nat.zero_le _), rfl⟩

theorem reqLdStations_step (d : List Byte) : RequestStep tag s 0x12 (reqLdStations tag d s) := by
  refine State.tableMessage_step _ _ _ (by decide) fun hv _ => ⟨.inr ?_, .inl rfl, rfl⟩
  simp only [stationsOk, Bool.and_eq_true, inRange_iff] at hv
  exact hv.1.2

theorem reqLdSections_step (d : List Byte) : RequestStep tag s 0x13 (reqLdSections tag d s) := by
  refine State.tableMessage_step _ _ _ (by decide) fun hv _ => ⟨.inl rfl, .inr ?_, rfl⟩
  simp only [sectionsOk, Bool.and_eq_true, inRange_iff] at hv
  simpa [readSections] using hv.1.1.2

/-- A table that is neither Stations nor Sections leaves both as they are. -/
theorem loadsWithin_other (f : Lds → Lds) (hs : ∀ l, (f l).stations = l.stations)
    (hc : ∀ l, (f l).sections = l.sections) (hv : ∀ l, (f l).service = l.service) : loadsWithin f :=
  fun l => ⟨.inl (hs l), .inl (hc l), hv l⟩

theorem reqLdElements_step (d : List Byte) : RequestStep tag s 0x14 (reqLdElements tag d s) :=
  State.tableMessage_step _ _ _ (by decide) fun _ => loadsWithin_other _ (fun _ => rfl) (fun _ => rfl) (fun _ => rfl)

theorem reqLdRuns_step (d : List Byte) : RequestStep tag s 0x15 (reqLdRuns tag d s) :=
  State.tableMessage_step _ _ _ (by decide) fun _ => loadsWithin_other _ (fun _ => rfl) (fun _ => rfl) (fun _ => rfl)

theorem reqLdParams_step (d : List Byte) : RequestStep tag s 0x16 (reqLdParams tag d s) :=
  State.tableMessage_step _ _ _ (by decide) fun _ => loadsWithin_other _ (fun _ => rfl) (fun _ => rfl) (fun _ => rfl)

theorem reqLdSubstations_step (d : List Byte) : RequestStep tag s 0x1B (reqLdSubstations tag d s) :=
  State.tableMessage_step _ _ _ (by decide) fun _ => loadsWithin_other _ (fun _ => rfl) (fun _ => rfl) (fun _ => rfl)

theorem reqLdLinks_step (d : List Byte) : RequestStep tag s 0x1C (reqLdLinks tag d s) :=
  State.tableMessage_step _ _ _ (by decide) fun _ => loadsWithin_other _ (fun _ => rfl) (fun _ => rfl) (fun _ => rfl)

theorem reqLdZones_step (d : List Byte) : RequestStep tag s 0x1D (reqLdZones tag d s) := by
  unfold reqLdZones
  split
  · simp
  · exact State.tableMessage_step _ _ _ (by decide)
      fun _ => loadsWithin_other _ (fun _ => rfl) (fun _ => rfl) (fun _ => rfl)

/-! ### The other requests -/

theorem reqLdCommit_step (d : List Byte) : RequestStep tag s 0x17 (reqLdCommit tag d s) := by
  unfold reqLdCommit
  split
  · simp
  · split
    · simp
    · simp
    · exact .answered _ _ (by simp)
    · next hu =>
      split
      · simp
      · next hc => exact .commit hu hc

theorem reqSetLineTime_step (d : List Byte) : RequestStep tag s 0x18 (reqSetLineTime tag d s) := by
  unfold reqSetLineTime
  split
  · simp
  · split
    · simp
    · next ht =>
      split
      · simp
      · exact .clock _ (by omega)

theorem reqService_step (d : List Byte) : RequestStep tag s 0x19 (reqService tag d s) := by
  unfold reqService
  split
  · simp
  · split
    · simp
    · split
      · simp
      · next hn => exact .service _ _ hn

theorem reqWarmRestart_step (d : List Byte) : RequestStep tag s 0x1A (reqWarmRestart tag d s) := by
  unfold reqWarmRestart
  split
  · simp
  · exact .restart

theorem reqTtAppend_step (d : List Byte) : RequestStep tag s 0x20 (reqTtAppend tag d s) := by
  unfold reqTtAppend
  dsimp only
  split
  · simp
  · split
    · simp
    · split
      · simp
      · split
        · simp
        · next hc => exact .append _ hc

theorem reqTtAmend_step (d : List Byte) : RequestStep tag s 0x21 (reqTtAmend tag d s) := by
  unfold reqTtAmend
  dsimp only
  split
  · simp
  · split
    · simp
    · split
      · simp
      · split
        · simp
        · next old ho =>
          split
          · simp
          · split
            · simp
            · next hc => exact .amend old _ ho (by simpa using hc)

theorem reqRegSet_step (d : List Byte) : RequestStep tag s 0x36 (reqRegSet tag d s) := by
  unfold reqRegSet
  split
  · simp
  · split
    · simp
    · exact .working _ _ _

theorem reqAnnStage_step (d : List Byte) : RequestStep tag s 0x60 (reqAnnStage tag d s) := by
  unfold reqAnnStage
  dsimp only
  split
  · simp
  · split
    · simp
    · split
      · exact .stage _ _
      · simp

theorem reqAnnTrigger_step (d : List Byte) : RequestStep tag s 0x64 (reqAnnTrigger tag d s) := by
  unfold reqAnnTrigger
  split
  · simp
  · split
    · simp
    · split
      · simp
      · split
        · simp
        · split
          · simp
          · exact .trigger _ _ _

theorem reqSetMasks_step (d : List Byte) : RequestStep tag s 0x82 (reqSetMasks tag d s) := by
  unfold reqSetMasks
  split
  · simp
  · split
    · simp
    · exact .masks _ _ _ _

end

/-- R172: every request does one of the things a request can do. -/
theorem dispatch_step (kind tag : Byte) (d : List Byte) (s : State) :
    RequestStep tag s kind.toNat (dispatch kind tag d s) := by
  unfold dispatch
  split
  case h_1 => exact .answered _ _ (reqIdentify_answered ..)
  case h_2 hk => exact hk ▸ reqLdBegin_step d
  case h_3 hk => exact hk ▸ reqLdStations_step d
  case h_4 hk => exact hk ▸ reqLdSections_step d
  case h_5 hk => exact hk ▸ reqLdElements_step d
  case h_6 hk => exact hk ▸ reqLdRuns_step d
  case h_7 hk => exact hk ▸ reqLdParams_step d
  case h_8 hk => exact hk ▸ reqLdCommit_step d
  case h_9 hk => exact hk ▸ reqSetLineTime_step d
  case h_10 hk => exact hk ▸ reqService_step d
  case h_11 hk => exact hk ▸ reqWarmRestart_step d
  case h_12 hk => exact hk ▸ reqLdSubstations_step d
  case h_13 hk => exact hk ▸ reqLdLinks_step d
  case h_14 hk => exact hk ▸ reqLdZones_step d
  case h_15 hk => exact hk ▸ reqTtAppend_step d
  case h_16 hk => exact hk ▸ reqTtAmend_step d
  case h_17 => exact .answered _ _ (reqTtCancel_answered ..)
  case h_18 => exact .answered _ _ (reqTtQuery_answered ..)
  case h_19 => exact .answered _ _ (reqTrainAdd_answered ..)
  case h_20 => exact .answered _ _ (reqTrainAssign_answered ..)
  case h_21 => exact .answered _ _ (reqTrainRemove_answered ..)
  case h_22 => exact .answered _ _ (reqTrainHold_answered ..)
  case h_23 => exact .answered _ _ (reqTrainUnhold_answered ..)
  case h_24 => exact .answered _ _ (reqTrainQuery_answered ..)
  case h_25 hk => exact hk ▸ reqRegSet_step d
  case h_26 => exact .answered _ _ (reqSecEnergize_answered ..)
  case h_27 => exact .answered _ _ (reqSecIsolate_answered ..)
  case h_28 => exact .answered _ _ (reqSecUnlock_answered ..)
  case h_29 => exact .answered _ _ (reqPairMode_answered ..)
  case h_30 => exact .answered _ _ (reqSecQuery_answered ..)
  case h_31 => exact .answered _ _ (reqIncRaise_answered ..)
  case h_32 => exact .answered _ _ (reqIncAmend_answered ..)
  case h_33 => exact .answered _ _ (reqIncAck_answered ..)
  case h_34 => exact .answered _ _ (reqIncClose_answered ..)
  case h_35 => exact .answered _ _ (reqIncQuery_answered ..)
  case h_36 hk => exact hk ▸ reqAnnStage_step d
  case h_37 => exact .answered _ _ (reqAnnBind_answered ..)
  case h_38 => exact .answered _ _ (reqAnnClear_answered ..)
  case h_39 => exact .answered _ _ (reqAnnRelease_answered ..)
  case h_40 hk => exact hk ▸ reqAnnTrigger_step d
  case h_41 => exact .answered _ _ (reqAnnQuery_answered ..)
  case h_42 => exact .answered _ _ (reqLinkMode_answered ..)
  case h_43 => exact .answered _ _ (reqLinkQuery_answered ..)
  case h_44 => exact .answered _ _ (reqElementQuery_answered ..)
  case h_45 => exact .answered _ _ (reqElementPoll_answered ..)
  case h_46 => exact .answered _ _ (reqFetchReports_answered ..)
  case h_47 => exact .answered _ _ (reqReadConditions_answered ..)
  case h_48 hk => exact hk ▸ reqSetMasks_step d
  case h_49 => exact .refuse .unknownKind

end Sys2Proof.Machine
end

section
/-! SUPPORT. The effects that change the description, the service state, the clock and the window: what each part of them
keeps, in the three families of laws (the fixed parts, the bounds, what is owed). -/
namespace Sys2Proof.Machine

/-! ### The parts of a withdrawal, a commit and a restart -/

@[simp] theorem State.abandonLine_fixed (i : Nat) (s : State) : (s.abandonLine i).fixed = s.fixed := by
  unfold State.abandonLine
  repeat' split
  all_goals simp

@[simp] theorem State.abandonLine_bounded (i : Nat) (s : State) (h : s.bounded) : (s.abandonLine i).bounded := by
  unfold State.abandonLine
  repeat' split
  all_goals simp [h]

@[simp] theorem State.abandonLine_within (i : Nat) (s : State) : s.within 0 (s.abandonLine i) := by
  unfold State.abandonLine
  repeat' split
  all_goals simp

theorem LinkRec.reset_bounded (carrier : Bool) : (LinkRec.reset carrier).bounded :=
  ⟨Nat.zero_le _, Nat.zero_le _⟩

@[simp] theorem State.disableLink_fixed (i : Nat) (s : State) : (s.disableLink i).fixed = s.fixed := by
  unfold State.disableLink
  repeat' split
  all_goals simp

@[simp] theorem State.disableLink_bounded (i : Nat) (s : State) (h : s.bounded) : (s.disableLink i).bounded := by
  unfold State.disableLink
  repeat' split
  all_goals simp (maxDischargeDepth := 30) [h, LinkRec.reset_bounded]

@[simp] theorem State.disableLink_within (i : Nat) (s : State) : s.within 0 (s.disableLink i) := by
  unfold State.disableLink
  repeat' split
  all_goals simp

@[simp] theorem State.serviceReport_fixed (old new : ServiceState) (s : State) :
    (s.serviceReport old new).fixed = s.fixed := State.report_fixed ..

@[simp] theorem State.serviceReport_bounded (old new : ServiceState) (s : State) (h : s.bounded) :
    (s.serviceReport old new).bounded := State.report_bounded _ _ _ _ _ h

@[simp] theorem State.serviceReport_within {s0 : State} {budget : Nat} (old new : ServiceState) (s : State)
    (h : s0.within budget s) : s0.within budget (s.serviceReport old new) := State.report_within _ _ _ _ _ h

@[simp] theorem State.commitLink_fixed (i : Nat) (s : State) : (s.commitLink i).fixed = s.fixed := by
  unfold State.commitLink
  split
  · split <;> simp
  · rfl

@[simp] theorem State.commitLink_bounded (i : Nat) (s : State) (h : s.bounded) : (s.commitLink i).bounded := by
  unfold State.commitLink
  split
  · next hl _ =>
    split
    · exact State.pollSweep_bounded _ _ (State.post_bounded _ _ (State.setLink_bounded _ _ _ h (h.like hl rfl rfl)))
    · exact State.posts_bounded _ _ (State.setLink_bounded _ _ _ h (h.like hl rfl rfl))
  · exact h

@[simp] theorem State.commitLink_within (i : Nat) (s : State) : s.within 0 (s.commitLink i) := by
  unfold State.commitLink
  split
  · split <;> simp (maxDischargeDepth := 30)
  · simp

@[simp] theorem State.deriveAll_fixed (s : State) : s.deriveAll.fixed = s.fixed := State.posts_fixed ..

@[simp] theorem State.deriveAll_bounded (s : State) (h : s.bounded) : s.deriveAll.bounded := State.posts_bounded _ _ h

@[simp] theorem State.deriveAll_within {s0 : State} {budget : Nat} (s : State) (h : s0.within budget s) :
    s0.within budget s.deriveAll := State.posts_within _ _ h (by simp)

@[simp] theorem State.restartLink_fixed (i : Nat) (s : State) : (s.restartLink i).fixed = s.fixed := by
  unfold State.restartLink
  repeat' split
  all_goals simp

@[simp] theorem State.restartLink_bounded (i : Nat) (s : State) (h : s.bounded) : (s.restartLink i).bounded := by
  unfold State.restartLink
  split
  · exact h
  · next l hl =>
    repeat' split
    · exact h
    · exact State.pollSweep_bounded _ _ (State.setLink_bounded _ _ _ h (h.like hl rfl rfl))
    · exact State.post_bounded _ _ (State.setLink_bounded _ _ _ h (h.like hl rfl rfl))

@[simp] theorem State.restartLink_within (i : Nat) (s : State) : s.within 0 (s.restartLink i) := by
  unfold State.restartLink
  repeat' split
  all_goals simp

/-! ### The service actions and the clock -/

@[simp] theorem State.serviceEffect_fixed (a : ServiceAction) (s : State) : (s.serviceEffect a).fixed = s.fixed := by
  have heach : ∀ (act : Nat → State → State) (u : State), (∀ i v, (act i v).fixed = v.fixed) →
      (u.eachStand act).fixed = u.fixed := fun act u h => foldl_fixed _ (fun v i => h i v) _ _
  cases a
  · exact (heach _ _ (by simp)).trans (by simp)
  all_goals exact heach _ _ (by simp)

theorem State.serviceEffect_bounded (a : ServiceAction) (s : State) (h : s.bounded) : (s.serviceEffect a).bounded := by
  cases a
  · exact State.eachStand_bounded _ _ (fun _ _ h => by simp [h]) (by simp [h])
  all_goals exact State.eachStand_bounded _ _ (fun _ _ h => by simp [h]) h

theorem State.serviceEffect_within {s0 : State} {budget : Nat} (a : ServiceAction) (s : State)
    (h : s0.within budget s) : s0.within budget (s.serviceEffect a) := by
  cases a
  · exact State.eachStand_within _ _ (fun _ _ => by simp) (by simp [h])
  all_goals exact State.eachStand_within _ _ (fun _ _ => by simp) h

@[simp] theorem State.timeSeen_fixed (s : State) : s.timeSeen.fixed = s.fixed := State.posts_fixed ..

@[simp] theorem State.timeSeen_bounded (s : State) (h : s.bounded) : s.timeSeen.bounded := State.posts_bounded _ _ h

@[simp] theorem State.timeSeen_within {s0 : State} {budget : Nat} (s : State) (h : s0.within budget s) :
    s0.within budget s.timeSeen := State.posts_within _ _ h (by simp)

@[simp] theorem State.limitReport_bounded (s : State) (h : s.bounded) : s.limitReport.bounded := by
  unfold State.limitReport
  split
  · exact State.report_bounded _ _ _ _ _ h
  · exact h

@[simp] theorem State.limitReport_within {s0 : State} {budget : Nat} (s : State) (h : s0.within budget s) :
    s0.within budget s.limitReport := by
  unfold State.limitReport
  split
  · exact State.report_within _ _ _ _ _ h
  · exact h

/-! ### What no request but its own changes -/

/-- The queue of commands, the host rate, the masks with the attention enable, and the staging record. -/
def State.settings (s : State) : List Instr × HostRate × (Conditions × ClassMask × Bool) × Staging :=
  (s.pending, s.hpt.rate, (s.hpt.condMask, s.hpt.classMask, s.hpt.attention), s.anp.staging)

/-- R109: the working values. -/
def State.working (s : State) : Option Nat × Option Nat := (s.rgl.beta, s.rgl.threshold)

theorem settings_of_fixed {s t : State} (h : t.fixed = s.fixed) : t.settings = s.settings :=
  congrArg (fun x => (x.1, x.2.2.2.1, (x.2.2.2.2.2.1, x.2.2.2.2.2.2.1, x.2.2.2.2.2.2.2.1), x.2.2.2.2.2.2.2.2.1)) h

theorem working_of_fixed {s t : State} (h : t.fixed = s.fixed) : t.working = s.working :=
  congrArg (fun x => (x.2.2.2.2.2.2.2.2.2.2.1, x.2.2.2.2.2.2.2.2.2.2.2.1)) h

theorem lds_of_fixed {s t : State} (h : t.fixed = s.fixed) : t.lds = s.lds := congrArg (·.2.1) h

theorem clock_of_fixed {s t : State} (h : t.fixed = s.fixed) : t.clock = s.clock := congrArg (·.2.2.1) h

theorem triggers_of_fixed {s t : State} (h : t.fixed = s.fixed) : t.anp.triggers = s.anp.triggers :=
  congrArg (·.2.2.2.2.2.2.2.2.2.1) h

theorem State.limitReport_settings (s : State) : s.limitReport.settings = s.settings := by
  unfold State.limitReport
  split
  · exact (settings_of_fixed (State.report_fixed ..)).trans rfl
  · rfl

theorem State.limitReport_working (s : State) : s.limitReport.working = s.working := by
  unfold State.limitReport
  split
  · exact (working_of_fixed (State.report_fixed ..)).trans rfl
  · rfl

/-- A withdrawal before the blocks but the links drop what they built. -/
theorem State.withdraw_eq_dropBuilt (s : State) : ∃ t : State,
    t.fixed = (s.setLds { s.lds with service := .unconfigured, committed := false }).fixed ∧ s.withdraw = t.dropBuilt :=
  ⟨_, by rw [foldl_fixed _ (fun s i => s.disableLink_fixed i), State.serviceReport_fixed], rfl⟩

theorem State.withdraw_settings (s : State) : s.withdraw.settings = s.settings := by
  obtain ⟨t, hf, he⟩ := s.withdraw_eq_dropBuilt
  rw [he]
  exact (settings_of_fixed hf).trans rfl

theorem State.withdraw_working (s : State) : s.withdraw.working = s.working := by
  obtain ⟨t, hf, he⟩ := s.withdraw_eq_dropBuilt
  rw [he]
  exact (working_of_fixed hf).trans rfl

theorem State.withdraw_clock (s : State) : s.withdraw.clock = s.clock := by
  obtain ⟨t, hf, he⟩ := s.withdraw_eq_dropBuilt
  rw [he]
  exact (clock_of_fixed hf).trans rfl

/-- R1, R2: a changed store is answered, after a withdrawal in CONFIGURED. -/
theorem State.alterStore_cases (tag : Byte) (f : Lds → Lds) (s : State) :
    (s.lds.service = .configured ∧ s.alterStore tag f =
      ((s.setLds { f s.lds with committed := false }).withdraw).post (.answer tag (.done []))) ∨
    (s.lds.service ≠ .configured ∧ s.alterStore tag f =
      (s.setLds { f s.lds with committed := false }).post (.answer tag (.done []))) := by
  unfold State.alterStore
  cases h : s.lds.service <;> simp

/-- A commit, before its answer: the blocks are built on the new description, and the links and sections follow. -/
theorem State.commit_eq_built (tag : Byte) (s : State) : ∃ t u : State,
    t.fixed = (s.setLds { s.lds with service := .configured, committed := true }).fixed ∧
    u.fixed = t.buildBlocks.fixed ∧ s.commit tag = u.post (.answer tag (.done [])) :=
  ⟨_, _, State.serviceReport_fixed .., by rw [State.deriveAll_fixed, foldl_fixed _ (fun s i => s.commitLink_fixed i)], rfl⟩

/-- A restart: the links' lines are abandoned, every block takes its restart values, the links and sections follow. -/
theorem State.restart_fixed_eq (s : State) : ∃ t : State,
    t.fixed = s.fixed ∧ s.restart.fixed = t.restartBlocks.fixed := by
  refine ⟨(List.range Config.linkCount).foldl (fun s i => s.abandonLine i) { s with hpt := s.hpt.restarted },
    foldl_fixed _ (fun s i => s.abandonLine_fixed i) _ _, ?_⟩
  unfold State.restart
  dsimp only
  rw [State.deriveAll_fixed, foldl_fixed _ (fun s i => s.restartLink_fixed i), State.post_fixed]

/-! ### What a request keeps of the settings -/

theorem State.alterStore_settings (tag : Byte) (f : Lds → Lds) (s : State) : (s.alterStore tag f).settings = s.settings := by
  obtain ⟨-, he⟩ | ⟨-, he⟩ := s.alterStore_cases tag f
  · rw [he]
    exact (settings_of_fixed (State.post_fixed ..)).trans ((State.withdraw_settings _).trans rfl)
  · rw [he]
    rfl

theorem State.alterStore_working (tag : Byte) (f : Lds → Lds) (s : State) : (s.alterStore tag f).working = s.working := by
  obtain ⟨-, he⟩ | ⟨-, he⟩ := s.alterStore_cases tag f
  · rw [he]
    exact (working_of_fixed (State.post_fixed ..)).trans ((State.withdraw_working _).trans rfl)
  · rw [he]
    rfl

theorem State.commit_settings (tag : Byte) (s : State) : (s.commit tag).settings = s.settings := by
  obtain ⟨t, u, ht, hu, he⟩ := s.commit_eq_built tag
  rw [he]
  calc u.settings
    _ = t.buildBlocks.settings := settings_of_fixed hu
    _ = t.settings := rfl
    _ = s.settings := (settings_of_fixed ht).trans rfl

theorem State.restart_settings (s : State) : s.restart.settings = s.settings := by
  obtain ⟨t, ht, hr⟩ := s.restart_fixed_eq
  calc s.restart.settings
    _ = t.restartBlocks.settings := settings_of_fixed hr
    _ = t.settings := rfl
    _ = s.settings := settings_of_fixed ht

theorem State.restart_working (s : State) : s.restart.working = s.working := by
  obtain ⟨t, ht, hr⟩ := s.restart_fixed_eq
  calc s.restart.working
    _ = t.restartBlocks.working := working_of_fixed hr
    _ = t.working := rfl
    _ = s.working := working_of_fixed ht

theorem State.serviceChange_fixed (tag : Byte) (a : ServiceAction) (new : ServiceState) (s : State) :
    (s.serviceChange tag a new).fixed = (s.setService new).fixed := by
  rw [State.serviceChange, State.post_fixed, State.serviceEffect_fixed, State.serviceReport_fixed]

theorem State.setClock_settings (t : Nat) (tag : Byte) (s : State) :
    (((s.setClock t).limitReport.timeSeen).post (.answer tag (.done []))).settings = s.settings := by
  calc (((s.setClock t).limitReport.timeSeen).post (.answer tag (.done []))).settings
    _ = (s.setClock t).limitReport.settings := settings_of_fixed (by rw [State.post_fixed, State.timeSeen_fixed])
    _ = s.settings := (State.limitReport_settings _).trans rfl

theorem State.setClock_working (t : Nat) (tag : Byte) (s : State) :
    (((s.setClock t).limitReport.timeSeen).post (.answer tag (.done []))).working = s.working := by
  calc (((s.setClock t).limitReport.timeSeen).post (.answer tag (.done []))).working
    _ = (s.setClock t).limitReport.working := working_of_fixed (by rw [State.post_fixed, State.timeSeen_fixed])
    _ = s.working := (State.limitReport_working _).trans rfl

section
variable {tag : Byte} {s t : State} {k : Nat}

/-- The queue of commands and the host rate are no request's. -/
theorem RequestStep.queue_rate (h : RequestStep tag s k t) : t.pending = s.pending ∧ t.hpt.rate = s.hpt.rate := by
  have of_settings : ∀ {u : State}, u.settings = s.settings → u.pending = s.pending ∧ u.hpt.rate = s.hpt.rate :=
    fun e => ⟨congrArg (·.1) e, congrArg (·.2.1) e⟩
  cases h with
  | answered _ _ h => exact of_settings (settings_of_fixed h.1)
  | load => exact of_settings (State.alterStore_settings ..)
  | commit => exact of_settings (State.commit_settings ..)
  | clock => exact of_settings (State.setClock_settings ..)
  | service => exact of_settings ((settings_of_fixed (State.serviceChange_fixed ..)).trans rfl)
  | restart => exact of_settings ((State.restart_settings _).trans rfl)
  | append | amend | working | stage | trigger | masks => exact ⟨rfl, rfl⟩

/-- R180: the masks and the attention enable are changed by SET_MASKS alone. -/
theorem RequestStep.masks_kept (h : RequestStep tag s k t) (hk : k ≠ 0x82) :
    (t.hpt.condMask, t.hpt.classMask, t.hpt.attention) = (s.hpt.condMask, s.hpt.classMask, s.hpt.attention) := by
  have of_settings : ∀ {u : State}, u.settings = s.settings →
      (u.hpt.condMask, u.hpt.classMask, u.hpt.attention) = (s.hpt.condMask, s.hpt.classMask, s.hpt.attention) :=
    fun e => congrArg (·.2.2.1) e
  cases h with
  | answered _ _ h => exact of_settings (settings_of_fixed h.1)
  | load => exact of_settings (State.alterStore_settings ..)
  | commit => exact of_settings (State.commit_settings ..)
  | clock => exact of_settings (State.setClock_settings ..)
  | service => exact of_settings ((settings_of_fixed (State.serviceChange_fixed ..)).trans rfl)
  | restart => exact of_settings ((State.restart_settings _).trans rfl)
  | append | amend | working | stage | trigger => rfl
  | masks => exact absurd rfl hk

/-- R154: the staging record is changed by ANN_STAGE alone. -/
theorem RequestStep.staging_kept (h : RequestStep tag s k t) (hk : k ≠ 0x60) : t.anp.staging = s.anp.staging := by
  have of_settings : ∀ {u : State}, u.settings = s.settings → u.anp.staging = s.anp.staging :=
    fun e => congrArg (·.2.2.2) e
  cases h with
  | answered _ _ h => exact of_settings (settings_of_fixed h.1)
  | load => exact of_settings (State.alterStore_settings ..)
  | commit => exact of_settings (State.commit_settings ..)
  | clock => exact of_settings (State.setClock_settings ..)
  | service => exact of_settings ((settings_of_fixed (State.serviceChange_fixed ..)).trans rfl)
  | restart => exact of_settings ((State.restart_settings _).trans rfl)
  | append | amend | working | trigger | masks => rfl
  | stage => exact absurd rfl hk

/-- R109: the working values are changed by REG_SET and LD_COMMIT alone. -/
theorem RequestStep.working_kept (h : RequestStep tag s k t) (hr : k ≠ 0x36) (hc : k ≠ 0x17) : t.working = s.working := by
  cases h with
  | answered _ _ h => exact working_of_fixed h.1
  | load => exact State.alterStore_working ..
  | commit => exact absurd rfl hc
  | clock => exact State.setClock_working ..
  | service => exact (working_of_fixed (State.serviceChange_fixed ..)).trans rfl
  | restart => exact (State.restart_working _).trans rfl
  | append | amend | stage | trigger | masks => rfl
  | working => exact absurd rfl hr

/-- The kinds of the requests that may change the description, the service state or the line clock. -/
def lineKinds : List Nat := tableKinds ++ [0x17, 0x18, 0x19, 0x1A]

/-- R14, R158: no other request touches the description, the service state or the clock; the triggers are ANN_TRIGGER's. -/
theorem RequestStep.line_kept (h : RequestStep tag s k t) (hk : k ∉ lineKinds) :
    t.lds = s.lds ∧ t.clock = s.clock ∧ (k ≠ 0x64 → t.anp.triggers = s.anp.triggers) := by
  cases h with
  | answered _ _ h => exact ⟨lds_of_fixed h.1, clock_of_fixed h.1, fun _ => triggers_of_fixed h.1⟩
  | load _ _ ht => exact absurd (List.mem_append_left _ ht) hk
  | commit | clock | service | restart => exact absurd (by decide) hk
  | append | amend | working | stage | masks => exact ⟨rfl, rfl, fun _ => rfl⟩
  | trigger => exact ⟨rfl, rfl, fun h => absurd rfl h⟩

end

end Sys2Proof.Machine
end

section
/-! SUPPORT. What every command keeps of the queue and of the settings (O3, O9). -/
namespace Sys2Proof.Machine

/-! ### The frame receiver -/

/-- R171: a character that brings about a discard moves the receiver and sets HOST_FRAME_ERROR. -/
theorem State.takeHostChar_discards {s : State} {c : HostChar} (h : s.discards c = true) :
    ∃ r, s.takeHostChar c = (s.setReceiver r).flagFrameError := by
  unfold State.discards at h
  unfold State.takeHostChar
  split
  · next hq => rw [hq] at h; cases h
  · exact ⟨_, rfl⟩
  · next r kind tag data hq =>
    rw [hq] at h
    have hfull : Config.maxReplies ≤ (s.setReceiver r).hpt.replies.length := by simpa [State.repliesFull] using h
    exact ⟨r, State.takeFrame_full _ _ hfull⟩

/-- R171: the frame that ends in a gap is discarded, or nothing happens. -/
theorem State.hostGap_fixed (s : State) : ∃ r, s.hostGap.fixed = (s.setReceiver r).fixed := by
  unfold State.hostGap
  split
  · next h => exact ⟨s.hpt.receiver, rfl⟩
  · exact ⟨.hunting, by simp [State.fixed]⟩

theorem State.onlyIf_fixed (b : Bool) (f : State → State) (s : State) (hf : (f s).fixed = s.fixed) :
    (s.onlyIf b f).fixed = s.fixed := by
  unfold State.onlyIf
  split
  · exact hf
  · rfl

/-! ### The events that keep the fixed parts -/

/-- The events after which more than the receiver can differ among the fixed parts. -/
def resettles : Instr → Bool
  | .powerOnReset _ _ | .lineTimeCount | .hostCharacterTaken _ => true
  | _ => false

/-- Every other event keeps the fixed parts but for the receiver. -/
theorem eventEffect_fixed {c : Instr} (hf : frameOf c = none) (hc : resettles c = false) (s : State) :
    ∃ r, (eventEffect c s).fixed = (s.setReceiver r).fixed := by
  have same : ∀ {t : State}, t.fixed = s.fixed → ∃ r, t.fixed = (s.setReceiver r).fixed :=
    fun h => ⟨s.hpt.receiver, h⟩
  cases c <;> simp only [frameOf, reduceCtorEq] at hf <;> simp only [resettles, Bool.true_eq_false] at hc
  case hostFrameDiscard x =>
    cases hd : s.discards x with
    | false => exact ⟨s.hpt.receiver, by simp only [eventEffect, State.onlyIf, hd]; rfl⟩
    | true =>
      obtain ⟨r, hr⟩ := State.takeHostChar_discards hd
      exact ⟨r, by simp only [eventEffect, State.onlyIf, hd, if_true, hr, State.flagFrameError_fixed]⟩
  case hostGapTimeout => exact s.hostGap_fixed
  case tentativeForward | fieldTelegramComplete | telegramLengthDamaged | leadByteFragment =>
    exact same (State.onlyIf_fixed _ _ _ (by simp))
  all_goals exact same (by simp [eventEffect])

theorem State.lineTimeCount_fixed_eq (s : State) : ∃ k : Clock, s.lineTimeCount.fixed = ({ s with clock := k } : State).fixed := by
  have hlimit : ∀ t : State, ∃ k : Clock, t.limitReport.fixed = ({ t with clock := k } : State).fixed := by
    intro t
    unfold State.limitReport
    split
    · exact ⟨_, State.report_fixed ..⟩
    · exact ⟨t.clock, rfl⟩
  have hcount : ∀ t : State, ∃ k : Clock, t.countUp.fixed = ({ t with clock := k } : State).fixed := by
    intro t
    obtain ⟨k, hk⟩ := hlimit (t.setTime (t.clock.time + 1))
    refine ⟨k, ?_⟩
    unfold State.countUp
    dsimp only
    split
    · rw [State.timeSeen_fixed, State.minuteBoundary_fixed, hk]; rfl
    · rw [State.timeSeen_fixed, hk]; rfl
  unfold State.lineTimeCount
  split
  · dsimp only
    split
    · obtain ⟨k, hk⟩ := hcount { s.reach s.clock.secondEnd with
        clock := { (s.reach s.clock.secondEnd).clock with secondEnd := (s.reach s.clock.secondEnd).clock.secondEnd + 1000 } }
      exact ⟨k, hk.trans rfl⟩
    · exact ⟨_, rfl⟩
  · exact ⟨s.clock, rfl⟩

/-! ### O3 -/

/-- No effect takes from the queue of commands or adds to it. -/
theorem effectOf_pending (c : Instr) (s : State) : (effectOf c s).pending = s.pending := by
  have of_fixed : ∀ {t u : State}, t.fixed = u.fixed → u.pending = s.pending → t.pending = s.pending :=
    fun h hu => (congrArg (·.1) h).trans hu
  cases hf : frameOf c with
  | some x =>
    obtain ⟨kind, tag, data⟩ := x
    rw [effectOf_frame hf]
    exact requestEffect_keeps (P := fun t => t.pending = s.pending) rfl
      fun _ => (dispatch_step kind tag data s.framed).queue_rate.1
  | none =>
    rw [effectOf_event hf]
    cases hc : resettles c with
    | false =>
      obtain ⟨r, hr⟩ := eventEffect_fixed hf hc s
      exact of_fixed hr rfl
    | true =>
      cases c <;> simp only [resettles, Bool.false_eq_true] at hc
      · rfl
      · obtain ⟨k, hk⟩ := s.lineTimeCount_fixed_eq
        exact of_fixed hk rfl
      · exact takeHostChar_keeps (P := fun t => t.pending = s.pending) (fun _ => rfl) (fun _ => rfl)
          fun r kind tag data _ => (dispatch_step kind tag data (s.setReceiver r)).queue_rate.1

/-- Settles O3: a command that is well formed settles its effect, any other is a fault; neither its effect nor the running
out touches the queue. -/
theorem commandsCompleteOrFaultAndKeepTheQueue : Obligations.CommandsCompleteOrFaultAndKeepTheQueue := by
  refine ⟨fun c s h => ⟨_, exec_wellFormed h s⟩, fun c s h => exec_illFormed h s, fun c s t h => ?_⟩
  obtain ⟨-, rfl⟩ := exec_next h
  exact (congrArg (·.1) (settle_fixed (effectOf c s))).trans (effectOf_pending c s)

/-! ### O9 -/

/-- What O9 says of a command's effect; the running out keeps all of it. -/
def keepsSettings (c : Instr) (s t : State) : Prop :=
  (changesLine c = false → t.lds = s.lds ∧ t.clock = s.clock ∧
    ((∀ g d, c ≠ .annTrigger g d) → t.anp.triggers = s.anp.triggers)) ∧
  t.hpt.rate = s.hpt.rate ∧
  ((∀ g d, c ≠ .setMasks g d) → t.hpt.condMask = s.hpt.condMask ∧ t.hpt.classMask = s.hpt.classMask ∧
    t.hpt.attention = s.hpt.attention) ∧
  ((∀ g d, c ≠ .annStage g d) → t.anp.staging = s.anp.staging) ∧
  ((∀ g d, c ≠ .regSet g d) → (∀ g d, c ≠ .ldCommit g d) → t.rgl.beta = s.rgl.beta ∧ t.rgl.threshold = s.rgl.threshold)

/-- A state with the fixed parts of another has its settings. -/
theorem keepsSettings_of_fixed {c : Instr} {s t u : State} (h : u.fixed = t.fixed) (ht : keepsSettings c s t) :
    keepsSettings c s u := by
  have hs := settings_of_fixed h
  have hw := working_of_fixed h
  simp only [State.settings, State.working, Prod.mk.injEq] at hs hw
  obtain ⟨-, hrate, ⟨hcond, hclass, hatt⟩, hstage⟩ := hs
  obtain ⟨hbeta, hthr⟩ := hw
  simpa only [keepsSettings, lds_of_fixed h, clock_of_fixed h, triggers_of_fixed h, hrate, hcond, hclass, hatt, hstage,
    hbeta, hthr] using ht

/-- A kind that names no request is none of the kinds of the settings. -/
theorem unknown_kind_ne {kind : Byte} (h : kindIsKnown kind = false) {n : Nat} (hn : n ∈ requestKinds) :
    kind.toNat ≠ n := by
  rintro rfl
  simp only [kindIsKnown, List.contains_eq_mem, decide_eq_false_iff_not] at h
  exact h hn

/-- The frame of a command has a kind of the settings only if the command is the one of that kind. -/
theorem frameOf_kind {c : Instr} {kind tag : Byte} {data : List Byte} (hf : frameOf c = some (kind, tag, data)) :
    (changesLine c = false → kind.toNat ∉ lineKinds) ∧ ((∀ g d, c ≠ .annTrigger g d) → kind.toNat ≠ 0x64) ∧
    ((∀ g d, c ≠ .setMasks g d) → kind.toNat ≠ 0x82) ∧ ((∀ g d, c ≠ .annStage g d) → kind.toNat ≠ 0x60) ∧
    ((∀ g d, c ≠ .regSet g d) → kind.toNat ≠ 0x36) ∧ ((∀ g d, c ≠ .ldCommit g d) → kind.toNat ≠ 0x17) := by
  cases c <;> simp only [frameOf, reduceCtorEq] at hf
  case unknownKind k g d =>
    split at hf
    · cases hf
    · next hk =>
      cases hf
      have hk' := Bool.eq_false_iff.mpr hk
      have hne : ∀ {n}, n ∈ requestKinds → kind.toNat ≠ n := unknown_kind_ne hk'
      refine ⟨fun _ hm => ?_, fun _ => hne (by decide), fun _ => hne (by decide), fun _ => hne (by decide),
        fun _ => hne (by decide), fun _ => hne (by decide)⟩
      have hsub : lineKinds ⊆ requestKinds := by decide
      exact hne (hsub hm) rfl
  all_goals
    cases hf
    simp [changesLine, lineKinds, tableKinds]

/-- A request of the kind of a command keeps what that command keeps. -/
theorem RequestStep.keepsSettings {c : Instr} {kind tag : Byte} {data : List Byte} {s t : State}
    (hf : frameOf c = some (kind, tag, data)) (h : RequestStep tag s kind.toNat t) : keepsSettings c s t := by
  obtain ⟨hline, htrigger, hmasks, hstage, hreg, hcommit⟩ := frameOf_kind hf
  refine ⟨fun hc => ?_, h.queue_rate.2, fun hc => ?_, fun hc => h.staging_kept (hstage hc), fun hr hc => ?_⟩
  · obtain ⟨hlds, hclock, htrig⟩ := h.line_kept (hline hc)
    exact ⟨hlds, hclock, fun ht => htrig (htrigger ht)⟩
  · simpa only [Prod.mk.injEq] using h.masks_kept (hmasks hc)
  · simpa only [State.working, Prod.mk.injEq] using h.working_kept (hreg hr) (hcommit hc)

/-- What O9 says of a command, said of its effect. -/
theorem effectOf_keepsSettings {c : Instr} (s : State) (hp : ∀ a b, c ≠ .powerOnReset a b)
    (hh : ∀ x, c ≠ .hostCharacterTaken x) : keepsSettings c s (effectOf c s) := by
  have of_same : ∀ r, keepsSettings c s (s.setReceiver r) := fun r =>
    ⟨fun _ => ⟨rfl, rfl, fun _ => rfl⟩, rfl, fun _ => ⟨rfl, rfl, rfl⟩, fun _ => rfl, fun _ _ => ⟨rfl, rfl⟩⟩
  cases hf : frameOf c with
  | some x =>
    obtain ⟨kind, tag, data⟩ := x
    rw [effectOf_frame hf]
    refine requestEffect_keeps (P := keepsSettings c s) ?_ fun _ => ?_
    · exact keepsSettings_of_fixed (State.flagFrameError_fixed _) (of_same _)
    · have h : keepsSettings c s.framed _ := RequestStep.keepsSettings hf (dispatch_step kind tag data s.framed)
      exact h
  | none =>
    rw [effectOf_event hf]
    cases hc : resettles c with
    | false =>
      obtain ⟨r, hr⟩ := eventEffect_fixed hf hc s
      exact keepsSettings_of_fixed hr (of_same r)
    | true =>
      cases c <;> simp only [resettles, Bool.false_eq_true] at hc
      · exact absurd rfl (hp _ _)
      · obtain ⟨k, hk⟩ := s.lineTimeCount_fixed_eq
        refine keepsSettings_of_fixed hk ⟨fun h => ?_, rfl, fun _ => ⟨rfl, rfl, rfl⟩, fun _ => rfl, fun _ _ => ⟨rfl, rfl⟩⟩
        cases h
      · exact absurd rfl (hh _)

/-- Settles O9: by the kind of request a command is, or by the event it is; the running out keeps the fixed parts. -/
theorem onlyTheirCommandsChangeTheSettings : Obligations.OnlyTheirCommandsChangeTheSettings := by
  intro c s t h hp hh
  obtain ⟨-, rfl⟩ := exec_next h
  exact keepsSettings_of_fixed (settle_fixed _) (effectOf_keepsSettings s hp hh)

end Sys2Proof.Machine
end

section
/-! SUPPORT. What every step keeps of the replies owed and of the timetable window (O7, O8). -/
namespace Sys2Proof.Machine

/-! ### Replies owed -/

theorem dropBuilt_within {s0 s : State} {budget : Nat} (h : s0.within budget s) : s0.within budget s.dropBuilt :=
  ⟨h.1, List.nil_sublist _⟩

theorem State.withdraw_within (s : State) : s.within 0 s.withdraw := by
  unfold State.withdraw
  refine dropBuilt_within ?_
  have h : s.within 0 ((List.range Config.linkCount).foldl (fun s i => s.disableLink i)
      ((s.setLds { s.lds with service := .unconfigured, committed := false }).serviceReport s.lds.service
        .unconfigured)) :=
    foldl_within _ _ _ (fun s i => s.disableLink_within i) (State.serviceReport_within _ _ _ s.within_refl)
  exact h

theorem State.alterStore_within (tag : Byte) (f : Lds → Lds) (s : State) : s.within 1 (s.alterStore tag f) := by
  obtain ⟨-, he⟩ | ⟨-, he⟩ := s.alterStore_cases tag f
  · rw [he]
    exact State.post_answer_within _ _ _ (State.withdraw_within (s.setLds { f s.lds with committed := false }))
  · rw [he]
    exact State.post_answer_within _ _ _ (State.within_refl s)

theorem State.commit_within (tag : Byte) (s : State) : s.within 1 (s.commit tag) := by
  have hbuilt : ∀ t : State, s.within 0 t → s.within 0 t.buildBlocks := fun t h => ⟨h.1, List.nil_sublist _⟩
  unfold State.commit
  refine State.post_answer_within _ _ _ (State.deriveAll_within _ ?_)
  refine foldl_within _ _ _ (fun s i => s.commitLink_within i) (hbuilt _ ?_)
  exact State.serviceReport_within _ _ _ s.within_refl

theorem State.restart_within {s0 : State} {budget : Nat} (s : State) (h : s0.within budget s) :
    s0.within budget s.restart := by
  have hblocks : ∀ t : State, s0.within budget t → s0.within budget t.restartBlocks := by
    intro t h
    refine ⟨h.1, ?_⟩
    have he : t.restartBlocks.window.entries = [] := by
      simp only [State.restartBlocks]
      split <;> rfl
    rw [he]
    exact List.nil_sublist _
  unfold State.restart
  refine State.deriveAll_within _ (foldl_within _ _ _ (fun s i => s.restartLink_within i)
    (State.post_within _ _ (hblocks _ ?_) (by simp)))
  exact foldl_within _ _ _ (fun s i => s.abandonLine_within i) h

theorem State.takeClock_within (tag : Byte) (time : Nat) (s : State) :
    s.within 1 (((s.setClock time).limitReport.timeSeen).post (.answer tag (.done []))) :=
  State.post_answer_within _ _ _ (State.timeSeen_within _ (State.limitReport_within (s.setClock time) s.within_refl))

theorem State.serviceChange_within (tag : Byte) (a : ServiceAction) (new : ServiceState) (s : State) :
    s.within 1 (s.serviceChange tag a new) := by
  unfold State.serviceChange
  exact State.post_answer_within _ _ _ (State.serviceEffect_within _ _ (State.serviceReport_within _ _ _ s.within_refl))

section
variable {tag : Byte} {s t : State} {k : Nat}

/-- R172: a request owes one reply more. -/
theorem RequestStep.owed_le (h : RequestStep tag s k t) : t.owed ≤ s.owed + 1 := by
  cases h with
  | answered _ _ h => exact h.2.2.1
  | load => exact (State.alterStore_within ..).1
  | commit => exact (State.commit_within ..).1
  | clock => exact (State.takeClock_within ..).1
  | service => exact (State.serviceChange_within ..).1
  | restart => exact (State.restart_within _ (State.done_within _ _ _ s.within_refl)).1
  | append es => simp [State.owed, State.append, State.done, State.reply, Notice.isAnswer]; omega
  | amend old e => simp [State.owed, State.amend, State.done, State.reply, Notice.isAnswer]; omega
  | working | stage | trigger | masks => exact (State.done_within _ _ _ s.within_refl).1

/-- R60: no request but TT_APPEND and TT_AMEND brings an entry into the window. -/
theorem RequestStep.window_kept (h : RequestStep tag s k t) (ha : k ≠ 0x20) (hm : k ≠ 0x21) :
    (t.window.entries.map TtEntry.keys).Sublist (s.window.entries.map TtEntry.keys) := by
  cases h with
  | answered _ _ h => exact h.2.2.2
  | load => exact (State.alterStore_within ..).2
  | commit => exact (State.commit_within ..).2
  | clock => exact (State.takeClock_within ..).2
  | service => exact (State.serviceChange_within ..).2
  | restart => exact (State.restart_within _ (State.done_within _ _ _ s.within_refl)).2
  | append => exact absurd rfl ha
  | amend => exact absurd rfl hm
  | working | stage | trigger | masks => exact .refl _

end

theorem State.lineTimeCount_within (s : State) : s.within 0 s.lineTimeCount := by
  have hcount : ∀ t : State, s.within 0 t → s.within 0 t.countUp := by
    intro t h
    have h1 : s.within 0 (t.setTime (t.clock.time + 1)).limitReport := State.limitReport_within _ h
    unfold State.countUp
    dsimp only
    split
    · exact State.timeSeen_within _ (State.minuteBoundary_within _ h1)
    · exact State.timeSeen_within _ h1
  unfold State.lineTimeCount
  split
  · dsimp only
    split
    · exact hcount _ s.within_refl
    · exact s.within_refl
  · exact s.within_refl

theorem State.hostGap_within (s : State) : s.within 0 s.hostGap := by
  unfold State.hostGap
  split <;> exact s.within_refl

theorem State.onlyIf_within (b : Bool) (f : State → State) (s : State) (hf : s.within 0 (f s)) :
    s.within 0 (s.onlyIf b f) := by
  unfold State.onlyIf
  split
  · exact hf
  · exact s.within_refl

/-- R172: no event but a host character owes a reply, and none brings in an entry. -/
theorem eventEffect_within {c : Instr} (hf : frameOf c = none) (hh : ∀ x, c ≠ .hostCharacterTaken x) (s : State) :
    s.within 0 (eventEffect c s) := by
  cases c <;> simp only [frameOf, reduceCtorEq] at hf
  case powerOnReset a b => exact ⟨Nat.zero_le _, List.nil_sublist _⟩
  case hostFrameDiscard x =>
    cases hd : s.discards x with
    | false => simp only [eventEffect, State.onlyIf, hd]; exact s.within_refl
    | true =>
      obtain ⟨r, hr⟩ := State.takeHostChar_discards hd
      simp only [eventEffect, State.onlyIf, hd, if_true, hr]
      exact s.within_refl
  case hostGapTimeout => exact s.hostGap_within
  case hostCharacterTaken x => exact absurd rfl (hh x)
  case lineTimeCount => exact s.lineTimeCount_within
  case tentativeForward | fieldTelegramComplete | telegramLengthDamaged | leadByteFragment =>
    exact State.onlyIf_within _ _ _ (by simp)
  all_goals simp [eventEffect]

/-- R171, R172: a command of a unit that owes no reply but those queued leaves it owing sixteen at most. -/
theorem effectOf_owed (c : Instr) (s : State) (ha : s.agenda = []) (h : s.repliesBounded) :
    (effectOf c s).owed ≤ Config.maxReplies := by
  have howed : ∀ {t : State}, t.agenda = [] → t.owed = t.hpt.replies.length := fun h => by simp [State.owed, h]
  have hs : s.owed ≤ Config.maxReplies := by
    rw [howed ha]
    exact h
  have hroom : ∀ {t u : State} {tag : Byte} {k : Nat}, t.agenda = [] → t.hpt.replies.length < Config.maxReplies →
      RequestStep tag t k u → u.owed ≤ Config.maxReplies := by
    intro t u tag k ht hr hstep
    have := hstep.owed_le
    rw [howed ht] at this
    omega
  cases hf : frameOf c with
  | some x =>
    obtain ⟨kind, tag, data⟩ := x
    rw [effectOf_frame hf]
    exact requestEffect_keeps (P := fun t => t.owed ≤ Config.maxReplies) hs
      fun hr => hroom (t := s.framed) ha hr (dispatch_step kind tag data s.framed)
  | none =>
    rw [effectOf_event hf]
    by_cases hc : ∃ x, c = .hostCharacterTaken x
    · obtain ⟨x, rfl⟩ := hc
      exact takeHostChar_keeps (P := fun t => t.owed ≤ Config.maxReplies) (fun _ => hs) (fun _ => hs)
        fun r kind tag data hr => hroom (t := s.setReceiver r) ha hr (dispatch_step kind tag data (s.setReceiver r))
    · exact Nat.le_trans (eventEffect_within hf (fun x e => hc ⟨x, e⟩) s).1 hs

/-- Settles O7: what settles is settled; a settled unit owes the replies it has queued, and a command owes one at most,
with room for it. -/
theorem everyStepLeavesTheUnitSettled : Obligations.EveryStepLeavesTheUnitSettled := by
  have hsettled : ∀ s t : State, s.settled → step s = .next t → t.settled := fun s t hs h =>
    step_keeps (P := State.settled) (fun _ h => h) (fun _ _ h => h) (fun _ _ _ => settle_isSettled _) hs h
  have hreplies : ∀ s t : State, s.settled ∧ s.repliesBounded → step s = .next t → t.settled ∧ t.repliesBounded := by
    refine fun s t hs h => step_keeps (P := fun s => s.settled ∧ s.repliesBounded) (fun _ h => h) (fun _ _ h => h)
      (fun c s ⟨hset, hrep⟩ => ⟨settle_isSettled _, ?_⟩) hs h
    calc (settle (effectOf c s)).hpt.replies.length
      _ ≤ (settle (effectOf c s)).owed := Nat.le_add_right _ _
      _ ≤ (effectOf c s).owed := (settle_within _).1
      _ ≤ Config.maxReplies := effectOf_owed c s hset.1 hrep
  exact ⟨hsettled, fun s t hs hr h => (hreplies s t ⟨hs, hr⟩ h).2⟩

/-! ### The timetable window -/

/-- R60: the order of the window, read on the keys of two entries. -/
def keysApart (a b : Nat × Nat × Nat) : Prop :=
  (a.2.2 < b.2.2 ∨ a.2.2 = b.2.2 ∧ a.2.1 < b.2.1) ∧ ¬(a.1 = b.1 ∧ a.2.1 = b.2.1)

theorem before_iff (a b : TtEntry) : a.before b = true ↔ a.p < b.p ∨ a.p = b.p ∧ a.stop < b.stop := by
  simp [TtEntry.before]

theorem sameTripStop_iff (a b : TtEntry) : sameTripStop a b = true ↔ a.trip = b.trip ∧ a.stop = b.stop := by
  simp [sameTripStop]

theorem sameStopTime_iff (a b : TtEntry) : sameStopTime a b = true ↔ a.stop = b.stop ∧ a.p = b.p := by
  simp [sameStopTime]

/-- R60: an entry stands lawfully before another. -/
theorem apart_iff (a b : TtEntry) :
    (a.before b = true ∧ sameTripStop a b = false ∧ sameStopTime a b = false) ↔ keysApart a.keys b.keys := by
  simp only [Bool.eq_false_iff, ne_eq, before_iff, sameTripStop_iff, sameStopTime_iff, keysApart, TtEntry.keys]
  omega

theorem windowLawful_iff (es : List TtEntry) : windowLawful es ↔ (es.map TtEntry.keys).Pairwise keysApart := by
  simp only [windowLawful, List.pairwise_map, apart_iff]

/-- R60: a window whose keys are among those of a lawful one, in their order, is lawful. -/
theorem windowLawful_of_sublist {es fs : List TtEntry} (h : (fs.map TtEntry.keys).Sublist (es.map TtEntry.keys))
    (he : windowLawful es) : windowLawful fs :=
  (windowLawful_iff fs).mpr (((windowLawful_iff es).mp he).sublist h)

/-- Two entries are free of a clash when they share neither trip and stop nor stop and P. -/
def noClash (e x : TtEntry) : Prop := sameTripStop e x = false ∧ sameStopTime e x = false

theorem noClash_comm {e x : TtEntry} : noClash e x ↔ noClash x e := by
  simp only [noClash, Bool.eq_false_iff, ne_eq, sameTripStop_iff, sameStopTime_iff]
  omega

theorem mem_insertEntry {e x : TtEntry} {es : List TtEntry} : x ∈ insertEntry e es ↔ x = e ∨ x ∈ es := by
  induction es with
  | nil => simp [insertEntry]
  | cons y es ih =>
    unfold insertEntry
    split
    · simp
    · simp only [List.mem_cons, ih, or_left_comm]

theorem length_insertEntry (e : TtEntry) (es : List TtEntry) : (insertEntry e es).length = es.length + 1 := by
  induction es with
  | nil => rfl
  | cons y es ih =>
    unfold insertEntry
    split
    · rfl
    · simp [ih]

/-- R60: an entry that clashes with none takes its lawful place. -/
theorem windowLawful_insertEntry {e : TtEntry} {es : List TtEntry} (h : windowLawful es)
    (hc : ∀ x ∈ es, noClash e x) : windowLawful (insertEntry e es) := by
  induction es with
  | nil => simp [insertEntry, windowLawful]
  | cons y es ih =>
    obtain ⟨hy, hes⟩ := List.pairwise_cons.mp h
    have hey := hc y (List.mem_cons_self ..)
    unfold insertEntry
    split
    · next hb =>
      refine List.pairwise_cons.mpr ⟨fun x hx => ?_, h⟩
      refine ⟨?_, hc x hx⟩
      rcases List.mem_cons.mp hx with rfl | hx
      · exact hb
      · have h1 := (before_iff e y).mp hb
        have h2 := (before_iff y x).mp (hy x hx).1
        rw [before_iff]
        omega
    · next hb =>
      refine List.pairwise_cons.mpr ⟨fun x hx => ?_, ih hes fun x hx => hc x (List.mem_cons_of_mem _ hx)⟩
      rcases mem_insertEntry.mp hx with rfl | hx
      · refine ⟨?_, noClash_comm.mp hey⟩
        have h1 : ¬(x.p < y.p ∨ x.p = y.p ∧ x.stop < y.stop) := fun h => hb ((before_iff x y).mpr h)
        have h2 : ¬(x.stop = y.stop ∧ x.p = y.p) := fun h =>
          Bool.false_ne_true (hey.2.symm.trans ((sameStopTime_iff x y).mpr h))
        rw [before_iff]
        omega
      · exact hy x hx

/-- R62: no entry of a message clashes with the window, nor with an entry before it in the message. -/
theorem noClash_of_firstClash {clash : TtEntry → TtEntry → Bool} {window seen es : List TtEntry} {i : Nat}
    (h : firstClash clash window seen es i = none) :
    (∀ e ∈ es, ∀ x ∈ seen ++ window, clash e x = false) ∧ es.Pairwise (fun x e => clash e x = false) := by
  induction es generalizing seen i with
  | nil => exact ⟨fun e he => (List.not_mem_nil he).elim, .nil⟩
  | cons e es ih =>
    unfold firstClash at h
    split at h
    · cases h
    · next hn =>
      simp only [Bool.or_eq_true, List.any_eq_true, not_or, not_exists, not_and, Bool.not_eq_true] at hn
      obtain ⟨hrest, hpair⟩ := ih h
      refine ⟨fun e' he' x hx => ?_, List.pairwise_cons.mpr ⟨fun e' he' => ?_, hpair⟩⟩
      · rcases List.mem_cons.mp he' with rfl | he'
        · rcases List.mem_append.mp hx with hx | hx
          · exact hn.1 x hx
          · exact hn.2 x hx
        · exact hrest e' he' x ((List.mem_append.mp hx).elim (fun h => by simp [h]) (fun h => by simp [h]))
      · exact hrest e' he' e (by simp)

/-- R62: entries that clash neither with the window nor with each other all take their lawful places. -/
theorem windowLawful_insertAll {es window : List TtEntry} (h : windowLawful window)
    (hw : ∀ e ∈ es, ∀ x ∈ window, noClash e x) (hp : es.Pairwise (fun x e => noClash e x)) :
    windowLawful (insertAll es window) := by
  induction es generalizing window with
  | nil => exact h
  | cons e es ih =>
    obtain ⟨he, hes⟩ := List.pairwise_cons.mp hp
    refine ih (windowLawful_insertEntry h (hw e (List.mem_cons_self ..))) (fun f hf x hx => ?_) hes
    rcases mem_insertEntry.mp hx with rfl | hx
    · exact he f hf
    · exact hw f (List.mem_cons_of_mem _ hf) x hx

theorem length_insertAll (es window : List TtEntry) : (insertAll es window).length = window.length + es.length := by
  induction es generalizing window with
  | nil => rfl
  | cons e es ih =>
    have := ih (insertEntry e window)
    simp only [insertAll, List.foldl_cons, length_insertEntry, List.length_cons] at this ⊢
    omega

/-- R62: what the checks of TT_APPEND leave: no clash, and room. -/
theorem State.appendCheck_none {s : State} {es : List TtEntry} (h : s.appendCheck es = none) :
    (∀ e ∈ es, ∀ x ∈ s.window.entries, noClash e x) ∧ es.Pairwise (fun x e => noClash e x) ∧
    es.length ≤ s.freeEntries := by
  unfold State.appendCheck at h
  split at h
  · cases h
  · next htrip =>
    split at h
    · cases h
    · next htime =>
      split at h
      · cases h
      · next hfree =>
        obtain ⟨ht, htp⟩ := noClash_of_firstClash htrip
        obtain ⟨hs, hsp⟩ := noClash_of_firstClash htime
        exact ⟨fun e he x hx => ⟨ht e he x hx, hs e he x hx⟩, htp.imp₂ (fun _ _ a b => ⟨a, b⟩) hsp, by omega⟩

/-- R63: the entries that stay beside an amended one clash with it in nothing. -/
theorem State.amendEntry_lawful {s : State} {old e : TtEntry} (h : windowLawful s.window.entries)
    (ho : s.ttLookup e.trip e.stop = some old)
    (hc : s.window.entries.any (fun x => sameStopTime x e && !sameTripStop x e) = false) :
    windowLawful (s.amendEntry old e) := by
  have hkey : old.trip = e.trip ∧ old.stop = e.stop := by
    have := List.find?_some ho
    simpa using this
  refine windowLawful_insertEntry (h.sublist List.filter_sublist) fun x hx => ?_
  obtain ⟨hx, hne⟩ := List.mem_filter.mp hx
  have htrip : ¬(x.trip = e.trip ∧ x.stop = e.stop) := by
    rw [← hkey.1, ← hkey.2, ← sameTripStop_iff]
    simpa using hne
  have htime := List.any_eq_false.mp hc x hx
  simp only [Bool.and_eq_true, Bool.not_eq_true', Bool.eq_false_iff, ne_eq, sameTripStop_iff, sameStopTime_iff] at htime
  simp only [noClash, Bool.eq_false_iff, ne_eq, sameTripStop_iff, sameStopTime_iff]
  omega

/-- R60: every request keeps the order and the keys of the window. -/
theorem RequestStep.window_lawful {tag : Byte} {s t : State} {k : Nat} (h : RequestStep tag s k t)
    (hw : windowLawful s.window.entries) : windowLawful t.window.entries := by
  by_cases ha : k = 0x20
  · subst ha
    cases h with
    | answered _ _ h => exact windowLawful_of_sublist h.2.2.2 hw
    | load _ _ hk => exact absurd hk (by decide)
    | append es hc =>
      obtain ⟨hclash, hpair, -⟩ := State.appendCheck_none hc
      exact windowLawful_insertAll hw hclash hpair
  · by_cases hm : k = 0x21
    · subst hm
      cases h with
      | answered _ _ h => exact windowLawful_of_sublist h.2.2.2 hw
      | load _ _ hk => exact absurd hk (by decide)
      | amend old e ho hc => exact State.amendEntry_lawful hw ho hc
    · exact windowLawful_of_sublist (h.window_kept ha hm) hw

theorem effectOf_window_lawful (c : Instr) (s : State) (h : windowLawful s.window.entries) :
    windowLawful (effectOf c s).window.entries := by
  cases hf : frameOf c with
  | some x =>
    obtain ⟨kind, tag, data⟩ := x
    rw [effectOf_frame hf]
    exact requestEffect_keeps (P := fun t => windowLawful t.window.entries) h
      fun _ => (dispatch_step kind tag data s.framed).window_lawful h
  | none =>
    rw [effectOf_event hf]
    by_cases hc : ∃ x, c = .hostCharacterTaken x
    · obtain ⟨x, rfl⟩ := hc
      exact takeHostChar_keeps (P := fun t => windowLawful t.window.entries) (fun _ => h) (fun _ => h)
        fun r kind tag data _ => (dispatch_step kind tag data (s.setReceiver r)).window_lawful h
    · exact windowLawful_of_sublist (eventEffect_within hf (fun x e => hc ⟨x, e⟩) s).2 h

/-- Settles O8: TT_APPEND and TT_AMEND put their entries in lawful places; nothing else brings an entry in. -/
theorem everyStepKeepsTheWindowLawful : Obligations.EveryStepKeepsTheWindowLawful := fun _ _ hs h =>
  step_keeps (P := fun s => windowLawful s.window.entries) (fun _ h => h) (fun _ _ h => h)
    (fun c s h => windowLawful_of_sublist (settle_within (effectOf c s)).2 (effectOf_window_lawful c s h)) hs h

end Sys2Proof.Machine
end

section
/-! SUPPORT. What every command keeps of the bounds, of the lengths of the slot tables and of the capacities (O6). -/
namespace Sys2Proof.Machine

/-! ### The queues, the incident table and the window -/

theorem State.dropBuilt_bounded {s : State} (h : s.bounded) : s.dropBuilt.bounded :=
  ⟨h.1, h.2.1, Nat.zero_le _, Nat.zero_le _⟩

theorem State.withdraw_bounded {s : State} (h : s.bounded) : s.withdraw.bounded := by
  unfold State.withdraw
  refine State.dropBuilt_bounded ?_
  exact foldl_bounded _ (fun s i => s.disableLink_bounded i) _ _ (State.serviceReport_bounded _ _ _ h)

theorem State.alterStore_bounded (tag : Byte) (f : Lds → Lds) {s : State} (h : s.bounded) :
    (s.alterStore tag f).bounded := by
  obtain ⟨-, he⟩ | ⟨-, he⟩ := s.alterStore_cases tag f
  · rw [he]
    refine State.post_bounded _ _ (State.withdraw_bounded ?_)
    exact h
  · rw [he]
    exact h

theorem State.buildBlocks_bounded {s : State} (h : s.bounded) : s.buildBlocks.bounded :=
  ⟨h.1, h.2.1, Nat.zero_le _, Nat.zero_le _⟩

theorem State.commit_bounded (tag : Byte) {s : State} (h : s.bounded) : (s.commit tag).bounded := by
  unfold State.commit
  refine State.post_bounded _ _ (State.deriveAll_bounded _ ?_)
  refine foldl_bounded _ (fun s i => s.commitLink_bounded i) _ _ (State.buildBlocks_bounded ?_)
  exact State.serviceReport_bounded _ _ _ h

theorem State.restartBlocks_bounded {s : State} (h : s.bounded) : s.restartBlocks.bounded := by
  obtain ⟨hreports, -, hinc, -⟩ := h
  refine ⟨hreports, ?_, ?_, ?_⟩
  · intro l hl
    obtain ⟨l', -, rfl⟩ := List.mem_map.mp hl
    exact LinkRec.reset_bounded l'.carrier
  · calc s.restartBlocks.inc.table.length
      _ = (s.inc.table.filter (fun x => x.kind.isHost)).length := List.length_map ..
      _ ≤ s.inc.table.length := List.length_filter_le ..
      _ ≤ _ := hinc
  · have he : s.restartBlocks.window.entries = [] := by
      simp only [State.restartBlocks]
      split <;> rfl
    simp only [State.windowBounded, he]
    exact Nat.zero_le _

theorem State.restart_bounded {s : State} (h : s.bounded) : s.restart.bounded := by
  have hport : ({ s with hpt := s.hpt.restarted } : State).bounded := ⟨Nat.zero_le _, h.2⟩
  unfold State.restart
  refine State.deriveAll_bounded _ (foldl_bounded _ (fun s i => s.restartLink_bounded i) _ _ ?_)
  refine State.post_bounded _ _ (State.restartBlocks_bounded ?_)
  exact foldl_bounded _ (fun s i => s.abandonLine_bounded i) _ _ hport

/-- R62: the entries appended find room. -/
theorem State.append_bounded (tag : Byte) {es : List TtEntry} {s : State} (hc : s.appendCheck es = none)
    (h : s.bounded) : (s.append tag es).bounded := by
  obtain ⟨-, -, hroom⟩ := State.appendCheck_none hc
  obtain ⟨hreports, hlinks, hinc, hwindow⟩ := h
  refine ⟨hreports, hlinks, hinc, ?_⟩
  have hlen : (s.append tag es).window.entries.length = s.window.entries.length + es.length := length_insertAll ..
  simp only [State.windowBounded, State.freeEntries] at hwindow hroom ⊢
  omega

/-- R63: the entry amended leaves its place before it takes its new one. -/
theorem State.amendEntry_length {s : State} {old e : TtEntry} (h : s.ttLookup e.trip e.stop = some old) :
    (s.amendEntry old e).length ≤ s.window.entries.length := by
  have hdrop : (s.window.entries.filter (fun x => !sameTripStop x old)).length < s.window.entries.length :=
    List.length_filter_lt_length_iff_exists.mpr ⟨old, List.mem_of_find?_eq_some h, by simp [sameTripStop]⟩
  rw [State.amendEntry, length_insertEntry]
  exact hdrop

section
variable {tag : Byte} {s t : State} {k : Nat}

theorem RequestStep.bounded (h : RequestStep tag s k t) (hs : s.bounded) : t.bounded := by
  cases h with
  | answered _ _ h => exact h.2.1 hs
  | load => exact State.alterStore_bounded _ _ hs
  | commit => exact State.commit_bounded _ hs
  | clock => exact State.post_bounded _ _ (State.timeSeen_bounded _ (State.limitReport_bounded _ hs))
  | service =>
    exact State.post_bounded _ _ (State.serviceEffect_bounded _ _ (State.serviceReport_bounded _ _ _ hs))
  | restart => exact State.restart_bounded hs
  | append _ hc => exact State.append_bounded _ hc hs
  | amend _ _ ho => exact State.post_bounded _ _ (State.setEntries_bounded _ s hs (State.amendEntry_length ho))
  | working | stage | trigger | masks => exact hs

end

theorem State.lineTimeCount_bounded {s : State} (h : s.bounded) : s.lineTimeCount.bounded := by
  have hcount : ∀ t : State, t.bounded → t.countUp.bounded := by
    intro t ht
    have h1 : (t.setTime (t.clock.time + 1)).limitReport.bounded := State.limitReport_bounded _ ht
    unfold State.countUp
    dsimp only
    split
    · exact State.timeSeen_bounded _ (State.minuteBoundary_bounded _ h1)
    · exact State.timeSeen_bounded _ h1
  unfold State.lineTimeCount
  split
  · dsimp only
    split
    · exact hcount _ h
    · exact h
  · exact h

theorem State.powerOn_bounded (pending : List Instr) (carriers : List Bool) (rate : HostRate) :
    (State.powerOn pending carriers rate).bounded := by
  refine ⟨Nat.zero_le _, fun l hl => ?_, Nat.zero_le _, Nat.zero_le _⟩
  obtain ⟨b, -, rfl⟩ := List.mem_map.mp hl
  exact LinkRec.reset_bounded b

theorem State.hostGap_bounded {s : State} (h : s.bounded) : s.hostGap.bounded := by
  unfold State.hostGap
  split <;> exact h

theorem State.onlyIf_bounded (b : Bool) (f : State → State) {s : State} (h : s.bounded) (hf : (f s).bounded) :
    (s.onlyIf b f).bounded := by
  unfold State.onlyIf
  split
  · exact hf
  · exact h

theorem State.takeHostChar_bounded (c : HostChar) {s : State} (h : s.bounded) : (s.takeHostChar c).bounded :=
  takeHostChar_keeps (P := State.bounded) (fun _ => h) (fun _ => h)
    fun r kind tag data _ => (dispatch_step kind tag data (s.setReceiver r)).bounded h

theorem eventEffect_bounded {c : Instr} (hf : frameOf c = none) {s : State} (h : s.bounded) :
    (eventEffect c s).bounded := by
  cases c <;> simp only [frameOf, reduceCtorEq] at hf
  case powerOnReset a b => exact State.powerOn_bounded _ _ _
  case hostFrameDiscard x => exact State.onlyIf_bounded _ _ h (State.takeHostChar_bounded x h)
  case hostCharacterTaken x => exact State.takeHostChar_bounded x h
  case hostGapTimeout => exact State.hostGap_bounded h
  case lineTimeCount => exact State.lineTimeCount_bounded h
  case tentativeForward | fieldTelegramComplete | telegramLengthDamaged | leadByteFragment =>
    exact State.onlyIf_bounded _ _ h (by simp [h])
  all_goals simp [eventEffect, h]

theorem effectOf_bounded (c : Instr) {s : State} (h : s.bounded) : (effectOf c s).bounded := by
  cases hf : frameOf c with
  | none => rw [effectOf_event hf]; exact eventEffect_bounded hf h
  | some x =>
    obtain ⟨kind, tag, data⟩ := x
    rw [effectOf_frame hf]
    exact requestEffect_keeps (P := State.bounded) h fun _ => (dispatch_step kind tag data s.framed).bounded h

/-! ### Line time, and the lengths of the link table and of the slot tables -/

/-- The lengths of the tables of R18, R72 and R90: links, slots, tentative slots, stands, host holds and loads. -/
def State.slotLengths (s : State) : List Nat :=
  [s.links.length, s.reg.slots.length, s.reg.tentative.length, s.rgl.stands.length, s.rgl.hostHold.length,
   s.tsv.loads.length]

theorem slotLengths_of_fixed {s t : State} (h : t.fixed = s.fixed) : t.slotLengths = s.slotLengths := by
  simp only [State.fixed, Prod.mk.injEq, List.cons.injEq] at h
  simp only [State.slotLengths, h]

/-- R18: eight links. R72, R90: the slot tables have their lengths. -/
def State.shaped (s : State) : Prop := s.links.length = Config.linkCount ∧ s.slotsShaped

/-- R72, R90: whatever a command leaves has the slot tables of before, or freshly built ones. -/
def State.slotsLike (s t : State) : Prop :=
  t.links.length = s.links.length ∧ (s.slotsShaped → t.slotsShaped)

theorem slotsLike_of_fixed {s t u : State} (h : u.fixed = t.fixed) (ht : s.slotsLike t) : s.slotsLike u := by
  have hl := slotLengths_of_fixed h
  simp only [State.slotLengths, List.cons.injEq] at hl
  obtain ⟨hlinks, hslots, htent, hstands, hhold, hloads, -⟩ := hl
  simpa only [State.slotsLike, State.slotsShaped, hlinks, hslots, htent, hstands, hhold, hloads] using ht

theorem State.slotsLike_refl (s : State) : s.slotsLike s := ⟨rfl, id⟩

theorem State.withdraw_slotsLike (s : State) : s.slotsLike s.withdraw := by
  obtain ⟨t, hf, he⟩ := s.withdraw_eq_dropBuilt
  have hl := slotLengths_of_fixed hf
  rw [he]
  exact ⟨congrArg (·.headD 0) hl, fun _ => ⟨rfl, rfl, rfl, rfl, rfl⟩⟩

theorem State.alterStore_slotsLike (tag : Byte) (f : Lds → Lds) (s : State) : s.slotsLike (s.alterStore tag f) := by
  obtain ⟨-, he⟩ | ⟨-, he⟩ := s.alterStore_cases tag f
  · rw [he]
    refine slotsLike_of_fixed (State.post_fixed ..) ?_
    exact State.withdraw_slotsLike (s.setLds { f s.lds with committed := false })
  · rw [he]
    exact s.slotsLike_refl

theorem State.limitReport_slotsLike (s : State) : s.slotsLike s.limitReport := by
  unfold State.limitReport
  split
  · exact slotsLike_of_fixed (State.report_fixed ..) s.slotsLike_refl
  · exact s.slotsLike_refl

theorem RequestStep.slotsLike {tag : Byte} {s t : State} {k : Nat} (h : RequestStep tag s k t) : s.slotsLike t := by
  cases h with
  | answered _ _ h => exact slotsLike_of_fixed h.1 s.slotsLike_refl
  | load => exact State.alterStore_slotsLike ..
  | commit =>
    obtain ⟨t, u, ht, hu, he⟩ := s.commit_eq_built tag
    have hl := slotLengths_of_fixed ht
    simp only [State.slotLengths, List.cons.injEq] at hl
    obtain ⟨hlinks, hslots, htent, -⟩ := hl
    rw [he]
    refine slotsLike_of_fixed ((State.post_fixed ..).trans hu) ⟨hlinks, fun h => ?_⟩
    exact ⟨hslots.trans h.1, htent.trans h.2.1, rfl, rfl, rfl⟩
  | clock t =>
    exact slotsLike_of_fixed ((State.post_fixed ..).trans (State.timeSeen_fixed _))
      (State.limitReport_slotsLike (s.setClock t))
  | service => exact slotsLike_of_fixed (State.serviceChange_fixed ..) s.slotsLike_refl
  | restart =>
    obtain ⟨t, ht, hr⟩ := (s.done tag []).restart_fixed_eq
    have hl := slotLengths_of_fixed ht
    refine slotsLike_of_fixed hr ⟨?_, fun _ => ⟨rfl, rfl, rfl, rfl, rfl⟩⟩
    exact (List.length_map ..).trans (congrArg (·.headD 0) hl)
  | append | amend | working | stage | trigger | masks => exact s.slotsLike_refl

theorem effectOf_slotsLike (c : Instr) (s : State) : s.slotsLike (effectOf c s) := by
  cases hf : frameOf c with
  | some x =>
    obtain ⟨kind, tag, data⟩ := x
    rw [effectOf_frame hf]
    exact requestEffect_keeps (P := s.slotsLike) s.slotsLike_refl
      fun _ => (dispatch_step kind tag data s.framed).slotsLike
  | none =>
    rw [effectOf_event hf]
    cases hc : resettles c with
    | false =>
      obtain ⟨r, hr⟩ := eventEffect_fixed hf hc s
      exact slotsLike_of_fixed hr s.slotsLike_refl
    | true =>
      cases c <;> simp only [resettles, Bool.false_eq_true] at hc
      · exact ⟨by simp [eventEffect, State.powerOn], fun _ => ⟨rfl, rfl, rfl, rfl, rfl⟩⟩
      · obtain ⟨k, hk⟩ := s.lineTimeCount_fixed_eq
        exact slotsLike_of_fixed hk s.slotsLike_refl
      · exact takeHostChar_keeps (P := s.slotsLike) (fun _ => s.slotsLike_refl) (fun _ => s.slotsLike_refl)
          fun r kind tag data _ => (dispatch_step kind tag data (s.setReceiver r)).slotsLike

theorem State.limitReport_time (s : State) : s.limitReport.clock.time = s.clock.time := by
  unfold State.limitReport
  split
  · exact (congrArg Clock.time (clock_of_fixed (State.report_fixed ..))).trans rfl
  · rfl

theorem State.withdraw_time (s : State) : s.withdraw.clock.time = s.clock.time := congrArg Clock.time s.withdraw_clock

/-- R14: no request brings line time beyond its last second. -/
theorem RequestStep.timeBounded {tag : Byte} {s t : State} {k : Nat} (h : RequestStep tag s k t) (hs : s.timeBounded) :
    t.timeBounded := by
  have same : ∀ {u : State}, u.clock = s.clock → u.timeBounded := fun e => by rwa [State.timeBounded, e]
  cases h with
  | answered _ _ h => exact same (clock_of_fixed h.1)
  | load =>
    obtain ⟨-, he⟩ | ⟨-, he⟩ := s.alterStore_cases tag ‹_›
    · rw [he]
      exact same ((clock_of_fixed (State.post_fixed ..)).trans ((State.withdraw_clock _).trans rfl))
    · rw [he]
      exact hs
  | commit =>
    obtain ⟨t, u, ht, hu, he⟩ := s.commit_eq_built tag
    rw [he]
    exact same ((clock_of_fixed hu).trans ((clock_of_fixed ht).trans rfl))
  | clock t ht =>
    have hc : (((s.setClock t).limitReport.timeSeen).post (.answer tag (.done []))).clock =
        (s.setClock t).limitReport.clock := clock_of_fixed ((State.post_fixed ..).trans (State.timeSeen_fixed _))
    rw [State.timeBounded, hc, State.limitReport_time]
    exact ht
  | service => exact same ((clock_of_fixed (State.serviceChange_fixed ..)).trans rfl)
  | restart =>
    obtain ⟨t, ht, hr⟩ := (s.done tag []).restart_fixed_eq
    exact same ((clock_of_fixed hr).trans ((clock_of_fixed ht).trans rfl))
  | append | amend | working | stage | trigger | masks => exact hs

/-- R14: line time counts to its last second only. -/
theorem State.lineTimeCount_timeBounded {s : State} (hs : s.timeBounded) : s.lineTimeCount.timeBounded := by
  have hcount : ∀ t : State, t.clock.time < Config.lastLineTime → t.countUp.timeBounded := by
    intro t ht
    have h1 : (t.setTime (t.clock.time + 1)).limitReport.clock.time = t.clock.time + 1 := State.limitReport_time _
    unfold State.countUp State.timeBounded
    dsimp only
    rw [clock_of_fixed (State.timeSeen_fixed _)]
    split
    · rw [clock_of_fixed (State.minuteBoundary_fixed _), h1]
      exact ht
    · rw [h1]
      exact ht
  unfold State.lineTimeCount
  split
  · dsimp only
    split
    · next hlt => exact hcount _ hlt
    · exact hs
  · exact hs

theorem effectOf_timeBounded (c : Instr) {s : State} (h : s.timeBounded) : (effectOf c s).timeBounded := by
  cases hf : frameOf c with
  | some x =>
    obtain ⟨kind, tag, data⟩ := x
    rw [effectOf_frame hf]
    exact requestEffect_keeps (P := State.timeBounded) h fun _ => (dispatch_step kind tag data s.framed).timeBounded h
  | none =>
    rw [effectOf_event hf]
    cases hc : resettles c with
    | false =>
      obtain ⟨r, hr⟩ := eventEffect_fixed hf hc s
      rw [State.timeBounded, clock_of_fixed hr]
      exact h
    | true =>
      cases c <;> simp only [resettles, Bool.false_eq_true] at hc
      · exact Nat.zero_le _
      · exact State.lineTimeCount_timeBounded h
      · exact takeHostChar_keeps (P := State.timeBounded) (fun _ => h) (fun _ => h)
          fun r kind tag data _ => (dispatch_step kind tag data (s.setReceiver r)).timeBounded h

/-! ### The description and the records built from it -/

theorem tables_of_fixed {s t : State} (h : t.fixed = s.fixed) :
    t.lds = s.lds ∧ t.tsv.sects.map (·.feeders) = s.tsv.sects.map (·.feeders) ∧
    t.mirror.map (·.el) = s.mirror.map (·.el) ∧ t.tsv.sects.length = s.tsv.sects.length ∧
    t.anp.stations.length = s.anp.stations.length := by
  simp only [State.fixed, Prod.mk.injEq, List.cons.injEq] at h
  simp only [h, and_self]

/-- R5: the sections with a feeder, read on the lists of feeders. -/
theorem feeders_ne_iff (l : List SectRec) : (∀ r ∈ l, r.feeders ≠ []) ↔ ∀ f ∈ l.map (·.feeders), f ≠ [] := by
  simp

theorem tablesBounded_of_fixed {s t : State} (h : t.fixed = s.fixed) (hs : s.tablesBounded) : t.tablesBounded := by
  obtain ⟨hlds, hfeeders, hels, hsects, hstations⟩ := tables_of_fixed h
  simpa only [State.tablesBounded, State.stationCount, State.stations, State.sectCount, State.sectRows, hlds, hels, hsects,
    hstations, feeders_ne_iff, hfeeders] using hs

/-- R12: without the records built, the tables of the description are what is bounded. -/
theorem State.dropBuilt_tablesBounded {s : State} (hst : s.stationCount ≤ Config.maxStations)
    (hse : s.sectCount ≤ Config.maxSections) : s.dropBuilt.tablesBounded :=
  ⟨hst, hse, Nat.zero_le _, Nat.zero_le _, fun _ h => (List.not_mem_nil h).elim, List.nodup_nil⟩

/-- R3, R5: a store loaded within the capacities keeps them. -/
theorem State.loaded_counts {s : State} {f : Lds → Lds} (hf : loadsWithin f) (h : s.tablesBounded) :
    (s.setLds { f s.lds with committed := false }).stationCount ≤ Config.maxStations ∧
    (s.setLds { f s.lds with committed := false }).sectCount ≤ Config.maxSections := by
  obtain ⟨hst, hse, -⟩ := h
  obtain ⟨hfst, hfse, -⟩ := hf s.lds
  constructor
  · rcases hfst with he | hle
    · simpa only [State.stationCount, State.stations, State.setLds, he] using hst
    · exact hle
  · rcases hfse with he | hle
    · simpa only [State.sectCount, State.sectRows, State.setLds, he] using hse
    · exact hle

theorem State.alterStore_tablesBounded (tag : Byte) {f : Lds → Lds} {s : State} (hf : loadsWithin f)
    (h : s.tablesBounded) : (s.alterStore tag f).tablesBounded := by
  obtain ⟨hst, hse⟩ := State.loaded_counts hf h
  obtain ⟨-, he⟩ | ⟨-, he⟩ := s.alterStore_cases tag f
  · rw [he]
    obtain ⟨t, ht, hd⟩ := (s.setLds { f s.lds with committed := false }).withdraw_eq_dropBuilt
    have hl : t.lds = _ := lds_of_fixed ht
    rw [hd]
    refine tablesBounded_of_fixed (State.post_fixed ..) (State.dropBuilt_tablesBounded ?_ ?_)
    · rw [State.stationCount, State.stations, hl]
      exact hst
    · rw [State.sectCount, State.sectRows, hl]
      exact hse
  · rw [he]
    exact ⟨hst, hse, h.2.2⟩

/-- A table whose first finding is none has none for any of its rows. -/
theorem firstOf_none {α : Type} {table : Nat} {rows : List α} {check : Nat → α → Option Nat}
    (h : firstOf table rows check = none) {i : Nat} {r : α} (hr : rows[i]? = some r) : check i r = none := by
  unfold firstOf at h
  rw [List.findSome?_eq_none_iff] at h
  have hm : (check i r).map (fun c => RefusalCode.inconsistent table i c) ∈
      rows.mapIdx (fun i r => (check i r).map (fun c => RefusalCode.inconsistent table i c)) := by
    refine List.mem_of_getElem? (i := i) ?_
    rw [List.getElem?_mapIdx, hr]
    rfl
  exact Option.map_eq_none_iff.mp (h _ hm)

/-- R11: every table is loaded and every check passed. -/
theorem State.commitCheck_none {s : State} (h : s.commitCheck = none) :
    s.lds.missing = none ∧ firstOf 1 s.stations s.stationCheck = none ∧ s.runsCheck = none ∧
    firstOf 3 s.sectRows s.sectionCheck = none ∧ firstOf 4 s.subRows s.substationCheck = none ∧
    firstOf 5 s.elemRows s.elementCheck = none ∧ s.zonesCheck = none := by
  unfold State.commitCheck at h
  split at h
  · cases h
  · next hm =>
    rw [List.findSome?_eq_none_iff] at h
    simp only [List.forall_mem_cons, id_eq] at h
    obtain ⟨h1, h2, h3, h4, h5, h6, -⟩ := h
    exact ⟨hm, h1, h2, h3, h4, h5, h6⟩

/-- R11: every section of a description that passes the checks has a feeder. -/
theorem State.commitCheck_feeders {s : State} (h : s.commitCheck = none) : ∀ r ∈ s.sectRows, r.feeders ≠ [] := by
  obtain ⟨-, -, -, hsects, -⟩ := State.commitCheck_none h
  intro r hr
  obtain ⟨i, hi⟩ := List.mem_iff_getElem?.mp hr
  have hc := firstOf_none hsects hi
  intro he
  simp [State.sectionCheck, he] at hc

/-- The entries built name their elements in the order of the table. -/
theorem builtMirror_els (s : State) : (s.builtMirror.map (·.el)).Pairwise (· < ·) := by
  unfold State.builtMirror
  rw [List.pairwise_map, List.pairwise_filterMap, List.pairwise_iff_getElem]
  intro i j hi hj hij a ha b hb
  rw [id_eq, List.getElem_mapIdx] at ha hb
  obtain ⟨_, -, rfl⟩ := Option.map_eq_some_iff.mp ha
  obtain ⟨_, -, rfl⟩ := Option.map_eq_some_iff.mp hb
  exact hij

theorem State.commit_tablesBounded (tag : Byte) {s : State} (hc : s.commitCheck = none) (h : s.tablesBounded) :
    (s.commit tag).tablesBounded := by
  obtain ⟨t, u, ht, hu, he⟩ := s.commit_eq_built tag
  have hl : t.lds = _ := lds_of_fixed ht
  have hsects : t.sectRows = s.sectRows := by simp only [State.sectRows, hl]; rfl
  have hstations : t.stations = s.stations := by simp only [State.stations, hl]; rfl
  obtain ⟨hst, hse, -⟩ := h
  rw [he]
  refine tablesBounded_of_fixed ((State.post_fixed ..).trans hu) ⟨?_, ?_, ?_, ?_, ?_, ?_⟩
  · exact Nat.le_trans (Nat.le_of_eq (congrArg List.length hstations)) hst
  · exact Nat.le_trans (Nat.le_of_eq (congrArg List.length hsects)) hse
  · calc t.buildBlocks.tsv.sects.length
      _ = t.sectRows.length := List.length_map ..
      _ ≤ _ := hsects ▸ hse
  · calc t.buildBlocks.anp.stations.length
      _ = t.stations.length := List.length_mapIdx ..
      _ ≤ _ := hstations ▸ hst
  · intro r hr
    obtain ⟨row, hrow, rfl⟩ := List.mem_map.mp hr
    exact State.commitCheck_feeders hc row (hsects ▸ hrow)
  · exact (builtMirror_els t).imp Nat.ne_of_lt

theorem State.restartBlocks_tablesBounded {s : State} (h : s.tablesBounded) : s.restartBlocks.tablesBounded := by
  obtain ⟨hst, hse, hsects, hstations, hfeeders, hels⟩ := h
  refine ⟨hst, hse, Nat.le_trans (Nat.le_of_eq (List.length_map ..)) hsects,
    Nat.le_trans (Nat.le_of_eq (List.length_map ..)) hstations, ?_, ?_⟩
  · intro r hr
    obtain ⟨r', hr', rfl⟩ := List.mem_map.mp hr
    exact hfeeders r' hr'
  · have he : s.restartBlocks.mirror.map (·.el) = s.mirror.map (·.el) := by
      simp [State.restartBlocks, MirrorEntry.toUnknown, Function.comp_def]
    rw [he]
    exact hels

theorem State.limitReport_tablesBounded {s : State} (h : s.tablesBounded) : s.limitReport.tablesBounded := by
  unfold State.limitReport
  split
  · exact tablesBounded_of_fixed (State.report_fixed ..) h
  · exact h

theorem RequestStep.tablesBounded {tag : Byte} {s t : State} {k : Nat} (h : RequestStep tag s k t)
    (hs : s.tablesBounded) : t.tablesBounded := by
  cases h with
  | answered _ _ h => exact tablesBounded_of_fixed h.1 hs
  | load _ _ _ hf => exact State.alterStore_tablesBounded tag hf hs
  | commit _ hc => exact State.commit_tablesBounded tag hc hs
  | clock =>
    exact tablesBounded_of_fixed ((State.post_fixed ..).trans (State.timeSeen_fixed _))
      (State.limitReport_tablesBounded hs)
  | service => exact tablesBounded_of_fixed (State.serviceChange_fixed ..) hs
  | restart =>
    obtain ⟨t, ht, hr⟩ := (s.done tag []).restart_fixed_eq
    exact tablesBounded_of_fixed hr (State.restartBlocks_tablesBounded (tablesBounded_of_fixed ht hs))
  | append | amend | working | stage | trigger | masks => exact hs

theorem effectOf_tablesBounded (c : Instr) {s : State} (h : s.tablesBounded) : (effectOf c s).tablesBounded := by
  cases hf : frameOf c with
  | some x =>
    obtain ⟨kind, tag, data⟩ := x
    rw [effectOf_frame hf]
    exact requestEffect_keeps (P := State.tablesBounded) h
      fun _ => (dispatch_step kind tag data s.framed).tablesBounded h
  | none =>
    rw [effectOf_event hf]
    cases hc : resettles c with
    | false =>
      obtain ⟨r, hr⟩ := eventEffect_fixed hf hc s
      exact tablesBounded_of_fixed hr h
    | true =>
      cases c <;> simp only [resettles, Bool.false_eq_true] at hc
      · exact ⟨Nat.zero_le _, Nat.zero_le _, Nat.zero_le _, Nat.zero_le _, fun _ h => (List.not_mem_nil h).elim,
          List.nodup_nil⟩
      · obtain ⟨k, hk⟩ := s.lineTimeCount_fixed_eq
        exact tablesBounded_of_fixed hk h
      · exact takeHostChar_keeps (P := State.tablesBounded) (fun _ => h) (fun _ => h)
          fun r kind tag data _ => (dispatch_step kind tag data (s.setReceiver r)).tablesBounded h

/-! ### O6 -/

/-- Settles O6: each effect keeps the bounds, the lengths and the capacities; the running out keeps the bounds, and the
fixed parts on which the others are read. -/
theorem everyStepKeepsTheBounds : Obligations.EveryStepKeepsTheBounds := by
  refine ⟨fun s t hr ht hl hi hw h => ?_, fun s t hs h => ?_, fun s t hs h => ?_⟩
  · have hstep := step_keeps (P := fun s => s.bounded ∧ s.timeBounded ∧ s.links.length = Config.linkCount)
      (fun _ h => h) (fun _ _ h => h) (fun c s ⟨hb, ht, hl⟩ => by
        refine ⟨settle_bounded _ (effectOf_bounded c hb), ?_, ?_⟩
        · rw [State.timeBounded, clock_of_fixed (settle_fixed _)]
          exact effectOf_timeBounded c ht
        · exact (slotsLike_of_fixed (settle_fixed _) (effectOf_slotsLike c s)).1.trans hl)
      ⟨⟨hr, hl.2, hi, hw⟩, ht, hl.1⟩ h
    obtain ⟨⟨hr, hq, hi, hw⟩, ht, hl⟩ := hstep
    exact ⟨hr, ht, ⟨hl, hq⟩, hi, hw⟩
  · exact step_keeps (P := State.slotsShaped) (fun _ h => h) (fun _ _ h => h)
      (fun c s hs => (slotsLike_of_fixed (settle_fixed _) (effectOf_slotsLike c s)).2 hs) hs h
  · exact step_keeps (P := State.tablesBounded) (fun _ h => h) (fun _ _ h => h)
      (fun c s hs => tablesBounded_of_fixed (settle_fixed _) (effectOf_tablesBounded c hs)) hs h

end Sys2Proof.Machine
end

section
/-! SUPPORT. The layouts of 11: what is read back from the bytes a number, a row, a telegram or a frame is sent as. -/
namespace Sys2Proof.Machine

/-! ### Bytes and numbers -/

@[simp] theorem length_u8 (n : Nat) : (u8 n).length = 1 := rfl
@[simp] theorem length_u16 (n : Nat) : (u16 n).length = 2 := rfl
@[simp] theorem length_u24 (n : Nat) : (u24 n).length = 3 := rfl

@[simp] theorem at8_cons_zero (b : Byte) (d : List Byte) : at8 (b :: d) 0 = b.toNat := rfl

@[simp] theorem at8_cons_succ (b : Byte) (d : List Byte) (i : Nat) : at8 (b :: d) (i + 1) = at8 d i := rfl

theorem at8_append_right (d e : List Byte) (i : Nat) : at8 (d ++ e) (d.length + i) = at8 e i := by
  rw [at8, at8, List.getElem?_append_right (Nat.le_add_right ..), Nat.add_sub_cancel_left]

theorem at8_append_left (d e : List Byte) {i : Nat} (h : i < d.length) : at8 (d ++ e) i = at8 d i := by
  simp [at8, List.getElem?_append_left h]

theorem at16_append_right (d e : List Byte) (i : Nat) : at16 (d ++ e) (d.length + i) = at16 e i := by
  rw [at16, at16, Nat.add_assoc, at8_append_right, at8_append_right]

theorem at16_append_left (d e : List Byte) {i : Nat} (h : i + 1 < d.length) : at16 (d ++ e) i = at16 d i := by
  rw [at16, at16, at8_append_left d e (Nat.lt_of_succ_lt h), at8_append_left d e h]

theorem at24_append_right (d e : List Byte) (i : Nat) : at24 (d ++ e) (d.length + i) = at24 e i := by
  rw [at24, at24, Nat.add_assoc d.length i 1, Nat.add_assoc d.length i 2, at8_append_right, at8_append_right,
    at8_append_right]

@[simp] theorem at8_lt (d : List Byte) (i : Nat) : at8 d i < 256 := by
  unfold at8
  cases d[i]? with
  | none => decide
  | some b => exact b.isLt

theorem at8_u8 {n : Nat} (h : n < 256) (d : List Byte) : at8 (u8 n ++ d) 0 = n := Nat.mod_eq_of_lt h

theorem at16_u16 {n : Nat} (h : n < 65536) (d : List Byte) : at16 (u16 n ++ d) 0 = n := by
  simp [at16, u16]
  omega

theorem at24_u24 {n : Nat} (h : n < 16777216) (d : List Byte) : at24 (u24 n ++ d) 0 = n := by
  simp [at24, u24]
  omega

@[simp] theorem ofNat_at8 (b : Byte) (d : List Byte) : BitVec.ofNat 8 (at8 (b :: d) 0) = b := by simp

/-! ### Rows (R186) -/

/-- Rows of one width that a reader reads back where they stand are read back in their order. -/
theorem read_rows {ρ : Type} {enc : ρ → List Byte} {read : List Byte → Nat → ρ} {w : Nat} (hw : ∀ r, (enc r).length = w)
    (l : List ρ) (pre : List Byte) (hread : ∀ r ∈ l, ∀ pre post, read (pre ++ (enc r ++ post)) pre.length = r) :
    (List.range l.length).map (fun j => read (pre ++ l.flatMap enc) (pre.length + w * j)) = l := by
  induction l generalizing pre with
  | nil => rfl
  | cons r l ih =>
    have hrest := ih (pre ++ enc r) fun x hx => hread x (List.mem_cons_of_mem _ hx)
    rw [List.length_cons, List.range_succ_eq_map, List.map_cons, List.map_map]
    congr 1
    · exact hread r (List.mem_cons_self ..) pre _
    · refine Eq.trans (List.map_congr_left fun j _ => ?_) hrest
      simp only [Function.comp_apply, List.flatMap_cons, List.append_assoc, List.length_append, hw]
      congr 1
      rw [Nat.mul_succ]
      omega

theorem readStation_bytes (r : StationRow) (pre post : List Byte)
    (h : r.sect < 256 ∧ r.up < 256 ∧ r.down < 256 ∧ ∀ e ∈ r.display, e < 255) :
    readStation (pre ++ (r.bytes ++ post)) pre.length = r := by
  obtain ⟨sect, up, down, display⟩ := r
  obtain ⟨hsect, hup, hdown, hdisplay⟩ := h
  have h0 := at8_append_right pre (StationRow.bytes ⟨sect, up, down, display⟩ ++ post) 0
  simp only [Nat.add_zero] at h0
  simp only [readStation, atOpt8, h0, at8_append_right]
  cases display with
  | none => simp [StationRow.bytes, u8, opt8, Nat.mod_eq_of_lt hsect, Nat.mod_eq_of_lt hup, Nat.mod_eq_of_lt hdown]
  | some e =>
    have he : e < 255 := hdisplay e rfl
    have hm : e % 256 = e := Nat.mod_eq_of_lt (by omega)
    simp [StationRow.bytes, u8, opt8, Nat.mod_eq_of_lt hsect, Nat.mod_eq_of_lt hup, Nat.mod_eq_of_lt hdown, hm]
    omega

/-- Two bytes of a number in their place. -/
theorem at16_of {d : List Byte} {i n : Nat} (h : at8 d i = n / 256 % 256) (h' : at8 d (i + 1) = n % 256)
    (hn : n < 65536) : at16 d i = n := by
  rw [at16, h, h']
  omega

/-- Three bytes of a number in their place. -/
theorem at24_of {d : List Byte} {i n : Nat} (h : at8 d i = n / 65536 % 256) (h' : at8 d (i + 1) = n / 256 % 256)
    (h'' : at8 d (i + 2) = n % 256) (hn : n < 16777216) : at24 d i = n := by
  rw [at24, h, h', h'']
  omega

theorem readRun_bytes (r : RunRow) (pre post : List Byte)
    (h : r.sect < 256 ∧ r.upMin < 65536 ∧ r.upMax < 65536 ∧ r.downMin < 65536 ∧ r.downMax < 65536) :
    readRun (pre ++ (r.bytes ++ post)) pre.length = r := by
  obtain ⟨sect, a, b, c, d⟩ := r
  obtain ⟨hsect, ha, hb, hc, hd⟩ := h
  have h0 := at8_append_right pre (RunRow.bytes ⟨sect, a, b, c, d⟩ ++ post) 0
  simp only [Nat.add_zero] at h0
  simp only [readRun, at16_append_right, h0]
  have h16 : ∀ i n, n < 65536 → at8 (RunRow.bytes ⟨sect, a, b, c, d⟩ ++ post) i = n / 256 % 256 →
      at8 (RunRow.bytes ⟨sect, a, b, c, d⟩ ++ post) (i + 1) = n % 256 →
      at16 (RunRow.bytes ⟨sect, a, b, c, d⟩ ++ post) i = n := fun i n hn h h' => at16_of h h' hn
  rw [h16 1 a ha rfl rfl, h16 3 b hb rfl rfl, h16 5 c hc rfl rfl, h16 7 d hd rfl rfl]
  simp [RunRow.bytes, u8, Nat.mod_eq_of_lt hsect]

theorem readEntry_sent (e : TtEntry) (pre post : List Byte)
    (h : e.trip < 65536 ∧ e.stop < 256 ∧ e.p < 16777216 ∧ e.w < 65536 ∧ (∀ r ∈ e.rp, 0 < r ∧ r < 65536) ∧
      e.bound = none) : readEntry (pre ++ (e.sent ++ post)) pre.length = e := by
  obtain ⟨trip, stop, p, w, rp, bound⟩ := e
  obtain ⟨htrip, hstop, hp, hw, hrp, rfl⟩ := h
  have h0 := at16_append_right pre (TtEntry.sent ⟨trip, stop, p, w, rp, none⟩ ++ post) 0
  simp only [Nat.add_zero] at h0
  simp only [readEntry, h0, at8_append_right, at16_append_right, at24_append_right]
  have h10 : ∀ rp : Option Nat, (optId rp).length = 2 := fun rp => by cases rp <;> rfl
  have hrest : TtEntry.sent ⟨trip, stop, p, w, rp, none⟩ ++ post =
      (u16 trip ++ u8 stop ++ u24 p ++ u16 w) ++ (optId rp ++ post) := by simp [TtEntry.sent]
  have hlast : ∀ i, at16 (TtEntry.sent ⟨trip, stop, p, w, rp, none⟩ ++ post) (8 + i) = at16 (optId rp ++ post) i :=
    fun i => by rw [hrest]; exact at16_append_right (u16 trip ++ u8 stop ++ u24 p ++ u16 w) (optId rp ++ post) i
  have hid : at16 (optId rp ++ post) 0 = rp.getD 0 := by
    cases rp with
    | none => exact at16_u16 (by omega) _
    | some r => exact at16_u16 (hrp r rfl).2 _
  have h8 := hlast 0
  rw [Nat.add_zero] at h8
  rw [at16_of (n := trip) rfl rfl htrip, at16_of (i := 6) (n := w) rfl rfl hw,
    at24_of (i := 3) (n := p) rfl rfl rfl hp, h8, hid]
  have hs : at8 (TtEntry.sent ⟨trip, stop, p, w, rp, none⟩ ++ post) 2 = stop := Nat.mod_eq_of_lt hstop
  rw [hs]
  congr 1
  cases rp with
  | none => rfl
  | some r => simp [Nat.ne_of_gt (hrp r rfl).1]

/-- Settles O12: the count byte, then each row read back where it stands. -/
theorem rowsAreReadFieldByField : Obligations.RowsAreReadFieldByField := by
  refine ⟨fun l hl h => ?_, fun l hl h => ?_, fun l hl h => ?_⟩
  · have hw : ∀ r : StationRow, r.bytes.length = 4 := fun r => by
      obtain ⟨_, _, _, _ | _⟩ := r <;> rfl
    rw [readStations, at8_u8 hl]
    exact read_rows hw l (u8 l.length) fun r hr pre post => readStation_bytes r pre post (h r hr)
  · rw [readRuns, at8_u8 hl]
    exact read_rows (enc := RunRow.bytes) (fun _ => rfl) l (u8 l.length) fun r hr pre post => readRun_bytes r pre post (h r hr)
  · have hw : ∀ e : TtEntry, e.sent.length = 10 := fun e => by
      obtain ⟨_, _, _, _, _ | _, _⟩ := e <;> rfl
    rw [readEntries, at8_u8 hl]
    exact read_rows hw l (u8 l.length) fun r hr pre post => readEntry_sent r pre post (h r hr)

/-! ### Doubled lead bytes (R20, R170) -/

theorem doubled_cons_lead (lead : Byte) (bs : List Byte) : doubled lead (lead :: bs) = lead :: lead :: doubled lead bs := by
  simp [doubled]

theorem doubled_cons_other {lead b : Byte} (h : b ≠ lead) (bs : List Byte) :
    doubled lead (b :: bs) = b :: doubled lead bs := by
  simp [doubled, h]

theorem doubled_ne_nil {lead : Byte} {bs : List Byte} (h : bs ≠ []) : doubled lead bs ≠ [] := by
  cases bs with
  | nil => exact absurd rfl h
  | cons b bs =>
    by_cases hb : b = lead
    · rw [hb, doubled_cons_lead]
      exact List.cons_ne_nil _ _
    · rw [doubled_cons_other hb]
      exact List.cons_ne_nil _ _

/-! ### Telegrams (R20, R21, R184) -/

theorem asmAll_cons {bs : List Byte} (h : bs ≠ []) (a : Assembler) (now : Nat) (b : Byte) :
    asmAll a now (b :: bs) = asmAll (asmTake a (.good b) now).1 now bs := by
  cases bs with
  | nil => exact absurd rfl h
  | cons c bs => rfl

/-- R20: a byte sent, its lead doubled, is one byte appended. -/
theorem asmAll_doubled (bytes : List Byte) (now : Nat) (b : Byte) (bs : List Byte) :
    asmAll (.busy bytes false false now) now (doubled fieldLead (b :: bs)) =
      if bs = [] then asmAppend bytes false b now
      else asmAll (asmAppend bytes false b now).1 now (doubled fieldLead bs) := by
  by_cases hb : b = fieldLead
  · subst hb
    rw [doubled_cons_lead, asmAll_cons (List.cons_ne_nil _ _)]
    by_cases hbs : bs = []
    · subst hbs
      rfl
    · rw [asmAll_cons (doubled_ne_nil hbs), if_neg hbs]
      rfl
  · rw [doubled_cons_other hb]
    have ht : asmTake (.busy bytes false false now) (.good b) now = asmAppend bytes false b now := by
      simp [asmTake, hb]
    by_cases hbs : bs = []
    · subst hbs
      exact ht
    · rw [asmAll_cons (doubled_ne_nil hbs), ht, if_neg hbs]

/-- R21: a byte before the last leaves the assembler busy; the last completes the telegram. -/
theorem asmAppend_of_prefix {bytes rest whole : List Byte} {b : Byte} (now : Nat) (hw : bytes ++ b :: rest = whole)
    (hl : at8 whole 3 ≤ 24) (hlen : whole.length = 4 + at8 whole 3 + 2) :
    (rest = [] → asmAppend bytes false b now = (.hunting, .complete whole false)) ∧
    (rest ≠ [] → (asmAppend bytes false b now).1 = .busy (bytes ++ [b]) false false now) := by
  have hlen' : bytes.length + 1 + rest.length = whole.length := by rw [← hw]; simp; omega
  have hwhole : whole = (bytes ++ [b]) ++ rest := by simp [← hw]
  have h3 : 4 ≤ bytes.length + 1 → at8 (bytes ++ [b]) 3 = at8 whole 3 := fun h => by
    rw [hwhole, at8_append_left (bytes ++ [b]) rest (by rw [List.length_append, List.length_singleton]; exact h)]
  constructor
  · rintro rfl
    rw [List.append_nil] at hwhole
    have hb : bytes.length + 1 = 4 + at8 whole 3 + 2 := by simpa using hlen'.trans hlen
    simp only [asmAppend, ← hwhole, hlen]
    rw [if_neg (by omega), if_neg (by omega), if_pos trivial]
  · intro hr
    have hpos : 0 < rest.length := List.length_pos_iff.mpr hr
    simp only [asmAppend, List.length_append, List.length_singleton]
    by_cases h4 : bytes.length + 1 < 4
    · rw [if_pos h4]
    · rw [if_neg h4, h3 (by omega), if_neg (by omega), if_neg (by omega)]
      split <;> rfl

/-- R20, R21: the bytes of a telegram that are still to come complete it. -/
theorem asmAll_rest {bytes rest whole : List Byte} (now : Nat) (hr : rest ≠ []) (hw : bytes ++ rest = whole)
    (hl : at8 whole 3 ≤ 24) (hlen : whole.length = 4 + at8 whole 3 + 2) :
    asmAll (.busy bytes false false now) now (doubled fieldLead rest) = (.hunting, .complete whole false) := by
  induction rest generalizing bytes with
  | nil => exact absurd rfl hr
  | cons b rest ih =>
    obtain ⟨hlast, hmore⟩ := asmAppend_of_prefix now hw hl hlen
    rw [asmAll_doubled]
    by_cases hrest : rest = []
    · rw [if_pos hrest, hlast hrest]
    · rw [if_neg hrest, hmore hrest]
      exact ih hrest (by rw [← hw, List.append_assoc, List.singleton_append])

/-- Settles O10: what is assembled is the body and its check word, and the telegram is read back from the body. -/
theorem telegramsAreReadAsTheyAreSent : Obligations.TelegramsAreReadAsTheyAreSent := by
  rintro ⟨addr, kind, seq, payload⟩ now hp
  replace hp : payload.length ≤ 24 := hp
  generalize ht : (⟨addr, kind, seq, payload⟩ : Telegram) = t
  have hbody : t.body = addr :: kind :: seq :: BitVec.ofNat 8 payload.length :: payload := by rw [← ht]; rfl
  have h3 : ∀ x, at8 (t.body ++ x) 3 = payload.length := fun x => by
    rw [hbody]
    exact Nat.mod_eq_of_lt (by omega)
  have hblen : t.body.length = 4 + payload.length := by rw [hbody]; simp; omega
  refine ⟨t.body ++ u16 (checkSum t.body), ?_, ?_, ?_⟩
  · have hne : t.body ++ u16 (checkSum t.body) ≠ [] := by simp [u16]
    rw [Telegram.characters, asmAll_cons (doubled_ne_nil hne)]
    refine asmAll_rest now hne rfl ?_ ?_
    · rw [h3]; exact hp
    · rw [h3, List.length_append, hblen, length_u16]
  · rw [checkMatches, h3, ← hblen, List.take_left]
    have h0 := at16_append_right t.body (u16 (checkSum t.body)) 0
    rw [Nat.add_zero] at h0
    have hsum : checkSum t.body < 65536 := Nat.mod_lt _ (by decide)
    rw [h0, ← List.append_nil (u16 _), at16_u16 hsum]
    exact beq_self_eq_true _
  · rw [telegramOf, h3, hbody, ← ht]
    simp

/-! ### Frames (R170, R183) -/

theorem recvAll_cons {bs : List Byte} (h : bs ≠ []) (r : Receiver) (now : Nat) (b : Byte) :
    recvAll r now (b :: bs) = recvAll (recvTake r (.good b) now).1 now bs := by
  cases bs with
  | nil => exact absurd rfl h
  | cons c bs => rfl

/-- R170: a byte sent, its lead doubled, is one byte appended. -/
theorem recvAll_doubled (bytes : List Byte) (now : Nat) (b : Byte) (bs : List Byte) :
    recvAll (.busy bytes false now) now (doubled hostLead (b :: bs)) =
      if bs = [] then recvAppend bytes b now
      else recvAll (recvAppend bytes b now).1 now (doubled hostLead bs) := by
  by_cases hb : b = hostLead
  · subst hb
    rw [doubled_cons_lead, recvAll_cons (List.cons_ne_nil _ _)]
    by_cases hbs : bs = []
    · subst hbs
      rfl
    · rw [recvAll_cons (doubled_ne_nil hbs), if_neg hbs]
      rfl
  · rw [doubled_cons_other hb]
    have ht : recvTake (.busy bytes false now) (.good b) now = recvAppend bytes b now := by
      simp [recvTake, hb]
    by_cases hbs : bs = []
    · subst hbs
      exact ht
    · rw [recvAll_cons (doubled_ne_nil hbs), ht, if_neg hbs]

/-- R170: a byte before the last leaves the receiver busy; the last completes the frame. -/
theorem recvAppend_of_prefix {bytes rest whole : List Byte} {b : Byte} (now : Nat) (hw : bytes ++ b :: rest = whole)
    (hl : 2 ≤ at16 whole 0 ∧ at16 whole 0 ≤ 1022) (hlen : whole.length = 4 + at16 whole 0) :
    (rest = [] → recvAppend bytes b now = (.hunting, frameEvent whole)) ∧
    (rest ≠ [] → (recvAppend bytes b now).1 = .busy (bytes ++ [b]) false now) := by
  have hlen' : bytes.length + 1 + rest.length = whole.length := by rw [← hw]; simp; omega
  have hwhole : whole = (bytes ++ [b]) ++ rest := by simp [← hw]
  have h0 : 2 ≤ bytes.length + 1 → at16 (bytes ++ [b]) 0 = at16 whole 0 := fun h => by
    rw [hwhole, at16_append_left (bytes ++ [b]) rest (by rw [List.length_append, List.length_singleton]; exact h)]
  constructor
  · rintro rfl
    rw [List.append_nil] at hwhole
    simp only [recvAppend, ← hwhole, hlen, Config.maxBody]
    rw [if_neg (by omega), if_neg (by omega), if_pos trivial]
  · intro hr
    have hpos : 0 < rest.length := List.length_pos_iff.mpr hr
    simp only [recvAppend, List.length_append, List.length_singleton, Config.maxBody]
    by_cases h2 : bytes.length + 1 < 2
    · rw [if_pos h2]
    · rw [if_neg h2, h0 (by omega), if_neg (by omega), if_neg (by omega)]

/-- R170: the bytes of a frame that are still to come complete it. -/
theorem recvAll_rest {bytes rest whole : List Byte} (now : Nat) (hr : rest ≠ []) (hw : bytes ++ rest = whole)
    (hl : 2 ≤ at16 whole 0 ∧ at16 whole 0 ≤ 1022) (hlen : whole.length = 4 + at16 whole 0) :
    recvAll (.busy bytes false now) now (doubled hostLead rest) = (.hunting, frameEvent whole) := by
  induction rest generalizing bytes with
  | nil => exact absurd rfl hr
  | cons b rest ih =>
    obtain ⟨hlast, hmore⟩ := recvAppend_of_prefix now hw hl hlen
    rw [recvAll_doubled]
    by_cases hrest : rest = []
    · rw [if_pos hrest, hlast hrest]
    · rw [if_neg hrest, hmore hrest]
      exact ih hrest (by rw [← hw, List.append_assoc, List.singleton_append])

/-- R183: the check of a frame as it is sent matches, and gives its kind, tag and data. -/
theorem frameEvent_frameBytes (kind tag : Byte) (data : List Byte) (h : data.length ≤ 1020) :
    frameEvent (frameBytes kind tag data) = .complete kind tag data := by
  have hlen : at16 (frameBytes kind tag data) 0 = data.length + 2 := by
    simp only [frameBytes, List.append_assoc]
    exact at16_u16 (by omega) _
  generalize hb : u16 (data.length + 2) ++ [kind, tag] ++ data = body at *
  have hwhole : frameBytes kind tag data = body ++ u16 (crcOf body).toNat := by rw [← hb]; rfl
  have hblen : body.length = 2 + (data.length + 2) := by rw [← hb]; simp
  have hcheck : at16 (body ++ u16 (crcOf body).toNat) body.length = (crcOf body).toNat := by
    have h0 := at16_append_right body (u16 (crcOf body).toNat) 0
    rw [Nat.add_zero] at h0
    rw [h0, ← List.append_nil (u16 _), at16_u16 (crcOf body).isLt]
  simp only [frameEvent, hlen]
  rw [hwhole, ← hblen, List.take_left, if_pos hcheck, ← hb]
  simp [u16]

/-- Settles O11: the bytes of the frame complete it one after another, and the check of the whole matches. -/
theorem framesAreReadAsTheyAreSent : Obligations.FramesAreReadAsTheyAreSent := by
  intro kind tag data now h
  have hlen : at16 (frameBytes kind tag data) 0 = data.length + 2 := by
    simp only [frameBytes, List.append_assoc]
    exact at16_u16 (by omega) _
  have hne : frameBytes kind tag data ≠ [] := by simp [frameBytes, u16]
  rw [recvAll_cons (doubled_ne_nil hne), ← frameEvent_frameBytes kind tag data h]
  refine recvAll_rest now hne rfl ?_ ?_
  · rw [hlen]; omega
  · rw [hlen]; simp [frameBytes]; omega

end Sys2Proof.Machine
end

section
/-! SUPPORT. What a settled unit answers: the steps that post no notice, the refusals, the frame receiver and the host
port's own requests (O1, O2, O4, O5, O13 to O20, O49). -/
namespace Sys2Proof.Machine

/-! ### Settled states -/

theorem State.settled.framed {s : State} (h : s.settled) : s.framed.settled := h

theorem State.settled.reply {s : State} (h : s.settled) (r : Reply) : (s.reply r).settled := h

theorem State.settled.refuse {s : State} (h : s.settled) (tag : Byte) (c : RefusalCode) : (s.refuse tag c).settled := h

theorem State.settled.done {s : State} (h : s.settled) (tag : Byte) (d : List Byte) : (s.done tag d).settled := h

theorem State.settled.setReceiver {s : State} (h : s.settled) (r : Receiver) : (s.setReceiver r).settled := h

theorem State.settled.flagFrameError {s : State} (h : s.settled) : s.flagFrameError.settled := h

theorem State.settled.report {s : State} (h : s.settled) (k : ReportKind) (x : Option Subject) (a b : Option Nat) :
    (s.report k x a b).settled := by
  unfold State.report
  split
  · exact h
  · split <;> exact h

theorem dataFits_iff (d : List Byte) : dataFits d = true ↔ d.length ≤ 1020 := by
  exact decide_eq_true_iff.trans (Nat.le_sub_iff_add_le (by decide)).symm

section
variable {c : Instr} {kind tag : Byte} {d : List Byte} {s t : State}

/-- R172: a request to a ready unit is the settling of what its row does. -/
theorem exec_ready (hf : frameOf c = some (kind, tag, d)) (hd : d.length ≤ 1020) (hs : s.ready) :
    exec c s = .next (settle (dispatch kind tag d s.framed)) := by
  rw [exec_frame c kind tag d s hf, request_ready d _ s ((dataFits_iff d).mpr hd) hs]

/-- R172: a request that posts nothing is answered at once. -/
theorem exec_at_once (hf : frameOf c = some (kind, tag, d)) (hd : d.length ≤ 1020) (hs : s.ready)
    (hb : dispatch kind tag d s.framed = t) (ht : t.settled) : exec c s = .next t := by
  rw [exec_ready hf hd hs, hb, settle_settled t ht]

/-- R174: a request that is refused adds its reply and nothing else. -/
theorem exec_refuse {code : RefusalCode} (hf : frameOf c = some (kind, tag, d)) (hd : d.length ≤ 1020) (hs : s.ready)
    (hb : dispatch kind tag d s.framed = s.framed.refuse tag code) : exec c s = .next (s.framed.refuse tag code) :=
  exec_at_once hf hd hs hb (hs.1.framed.refuse tag code)

/-- R172: a request answered DONE without further effect. -/
theorem exec_done {data : List Byte} (hf : frameOf c = some (kind, tag, d)) (hd : d.length ≤ 1020) (hs : s.ready)
    (hb : dispatch kind tag d s.framed = s.framed.done tag data) : exec c s = .next (s.framed.done tag data) :=
  exec_at_once hf hd hs hb (hs.1.framed.done tag data)

end

/-! ### The queue and the reset -/

/-- Settles O1. -/
theorem stepRunsTheFront : Obligations.StepRunsTheFront := fun _ _ _ => rfl

/-- Settles O2. -/
theorem emptyQueueLetsOneMillisecondPass : Obligations.EmptyQueueLetsOneMillisecondPass := by
  intro s h
  simp only [step, h, State.idle]

/-- The carriers aside, a reset link is a reset link. -/
theorem reset_links_of_length (l : List LinkRec) (h : l.length = Config.linkCount) :
    ((l.map (·.carrier)).map LinkRec.reset).map (fun l => { l with carrier := false }) =
      (List.replicate Config.linkCount false).map LinkRec.reset := by
  have hf : ∀ x : Bool, ({ LinkRec.reset x with carrier := false } : LinkRec) = LinkRec.reset false := fun _ => rfl
  rw [List.map_replicate, List.map_map, List.map_map, ← h, ← List.map_const']
  exact List.map_congr_left fun x _ => hf x.carrier

/-- Settles O4: the reset state is read off; POWER_ON_RESET differs from it in the rate and the carriers alone. -/
theorem resetAndPowerOnValues : Obligations.ResetAndPowerOnValues := by
  refine ⟨?_, fun a b s hs => ⟨State.powerOn s.pending (s.links.map (·.carrier)) (rateOf a b), rfl, ?_, ?_, ?_⟩⟩
  · rintro s rfl
    and_intros
    all_goals try rfl
    decide
  · cases a <;> cases b <;> rfl
  · simp [State.powerOn, LinkRec.reset, Function.comp_def]
  · have hl := reset_links_of_length s.links hs.1
    simp only [State.powerOn, State.reset] at hl ⊢
    rw [hl]
    rfl

/-- Settles O5. -/
theorem resetSatisfiesTheInvariants : Obligations.ResetSatisfiesTheInvariants := by
  refine ⟨⟨rfl, rfl⟩, Nat.zero_le _, Nat.zero_le _, ⟨rfl, ?_⟩, ⟨rfl, rfl, rfl, rfl, rfl⟩, Nat.zero_le _, Nat.zero_le _,
    Nat.zero_le _, .nil, ?_⟩
  · exact (State.powerOn_bounded [] (List.replicate Config.linkCount false) .r115200).2.1
  · exact ⟨Nat.zero_le _, Nat.zero_le _, Nat.zero_le _, Nat.zero_le _, fun _ h => (List.not_mem_nil h).elim,
      List.nodup_nil⟩

/-- Settles O49: by which of the layers is empty. -/
theorem effectiveContentIsTheHighestLayer : Obligations.EffectiveContentIsTheHighestLayer := by
  intro r
  refine ⟨fun c h => ?_, fun c h1 h2 => ?_, fun n h1 h2 h3 => ?_, fun c h1 h2 h3 h4 => ?_, fun h1 h2 h3 h4 => ?_,
    fun _ _ => rfl, fun c e => ?_⟩
  · simp only [StationRec.effective, h]
  · simp only [StationRec.effective, h1, h2]
  · simp only [StationRec.effective, h1, h2, h3, DelayNotice.content]
  · simp only [StationRec.effective, h1, h2, h3, h4]
  · simp only [StationRec.effective, h1, h2, h3, h4, Content.default]
  · cases c
    cases e
    simp

/-! ### The frame receiver (O13, O14, O15) -/

theorem exec_hostCharacter (x : HostChar) (s : State) :
    exec (.hostCharacterTaken x) s = .next (settle (s.takeHostChar x)) := by rfl

theorem exec_hostDiscard (x : HostChar) (s : State) :
    exec (.hostFrameDiscard x) s = .next (settle (s.onlyIf (s.discards x) (State.takeHostChar x))) := by rfl

section
variable {x : HostChar} {s : State} {r : Receiver}

theorem exec_hostCharacter_quiet (hs : s.settled) (h : recvTake s.hpt.receiver x.judged s.tick = (r, .quiet)) :
    exec (.hostCharacterTaken x) s = .next (s.setReceiver r) := by
  rw [exec_hostCharacter, State.takeHostChar, h]
  exact congrArg _ (settle_settled _ (hs.setReceiver r))

/-- R171: a character that discards the frame, taken as one or named as one. -/
theorem exec_hostCharacter_discard (hs : s.settled) (h : recvTake s.hpt.receiver x.judged s.tick = (r, .discard)) :
    exec (.hostCharacterTaken x) s = .next (s.setReceiver r).flagFrameError ∧
    exec (.hostFrameDiscard x) s = .next (s.setReceiver r).flagFrameError := by
  have hd : s.discards x = true := by rw [State.discards, h]
  have ht : s.takeHostChar x = (s.setReceiver r).flagFrameError := by rw [State.takeHostChar, h]
  have hset := settle_settled _ (hs.setReceiver r).flagFrameError
  constructor
  · rw [exec_hostCharacter, ht, hset]
  · rw [exec_hostDiscard, hd, State.onlyIf, if_pos rfl, ht, hset]

theorem setReceiver_self (h : s.hpt.receiver = r) : s.setReceiver r = s := by
  rw [← h]
  rfl

end

/-- R169: a framing failure or a break. -/
theorem judged_faulty {x : HostChar} (h : x = .lineBreak ∨ ∃ v, x = .bits v false) : x.judged = .faulty := by
  rcases h with rfl | ⟨v, rfl⟩ <;> rfl

/-- R170: a byte, or a doubled lead byte, joins the frame. -/
theorem recvTake_joins {bytes : List Byte} {lead : Bool} {b : Byte} (last now : Nat) (h : lead = true ↔ b = 0xC3#8) :
    recvTake (.busy bytes lead last) (.good b) now = recvAppend bytes b now := by
  cases lead with
  | true =>
    have hb : b = hostLead := h.mp rfl
    simp [recvTake, hb]
  | false =>
    have hb : b ≠ hostLead := fun e => absurd (h.mpr e) Bool.false_ne_true
    simp [recvTake, hb]

section
variable {bytes : List Byte} {b : Byte} {now : Nat}

theorem recvAppend_first (h : bytes = []) : recvAppend bytes b now = (.busy (bytes ++ [b]) false now, .quiet) := by
  subst h
  rfl

theorem recvAppend_length_bad (h : bytes ≠ []) (hn : at16 (bytes ++ [b]) 0 < 2 ∨ 1022 < at16 (bytes ++ [b]) 0) :
    recvAppend bytes b now = (.hunting, .discard) := by
  have hl : 0 < bytes.length := List.length_pos_iff.mpr h
  simp only [recvAppend, List.length_append, List.length_singleton, Config.maxBody]
  rw [if_neg (by omega), if_pos hn]

theorem recvAppend_inside (h : bytes ≠ []) (h2 : 2 ≤ at16 (bytes ++ [b]) 0) (hmax : at16 (bytes ++ [b]) 0 ≤ 1022)
    (hl : bytes.length + 1 ≠ 4 + at16 (bytes ++ [b]) 0) :
    recvAppend bytes b now = (.busy (bytes ++ [b]) false now, .quiet) := by
  have hpos : 0 < bytes.length := List.length_pos_iff.mpr h
  simp only [recvAppend, List.length_append, List.length_singleton, Config.maxBody]
  rw [if_neg (by omega), if_neg (by omega), if_neg hl]

theorem recvAppend_check_bad (h : bytes ≠ []) (h2 : 2 ≤ at16 (bytes ++ [b]) 0) (hmax : at16 (bytes ++ [b]) 0 ≤ 1022)
    (hl : bytes.length + 1 = 4 + at16 (bytes ++ [b]) 0)
    (hc : at16 (bytes ++ [b]) (2 + at16 (bytes ++ [b]) 0) ≠
      (crcOf ((bytes ++ [b]).take (2 + at16 (bytes ++ [b]) 0))).toNat) :
    recvAppend bytes b now = (.hunting, .discard) := by
  have hpos : 0 < bytes.length := List.length_pos_iff.mpr h
  simp only [recvAppend, List.length_append, List.length_singleton, Config.maxBody]
  rw [if_neg (by omega), if_neg (by omega), if_pos hl, frameEvent]
  simp only [if_neg hc]

end

/-- R170: a frame that completes leaves the receiver hunting, and its length lies within 2..1,022. -/
theorem recvTake_complete {r : Receiver} {x : HostReceived} {now : Nat} {kind tag : Byte} {data : List Byte}
    (h : (recvTake r x now).2 = .complete kind tag data) :
    recvTake r x now = (.hunting, .complete kind tag data) ∧ data.length ≤ 1020 := by
  have happend : ∀ bytes b, (recvAppend bytes b now).2 = .complete kind tag data →
      recvAppend bytes b now = (.hunting, .complete kind tag data) ∧ data.length ≤ 1020 := by
    intro bytes b h
    unfold recvAppend at h ⊢
    dsimp only at h ⊢
    split at h
    · cases h
    · split at h
      · cases h
      · next h2 hn =>
        split at h
        · next hl =>
          rw [if_neg h2, if_neg hn, if_pos hl]
          refine ⟨Prod.ext rfl h, ?_⟩
          unfold frameEvent at h
          dsimp only at h
          split at h
          · cases h
            simp only [Config.maxBody] at hn
            rw [List.length_take]
            omega
          · cases h
        · cases h
  cases r with
  | hunting => cases x <;> simp only [recvTake] at h <;> (try split at h) <;> cases h
  | busy bytes lead last =>
    cases x with
    | faulty => cases lead <;> cases h
    | good v =>
      by_cases hj : lead = true ↔ v = 0xC3#8
      · rw [recvTake_joins last now hj] at h ⊢
        exact happend bytes v h
      · cases lead with
        | true =>
          have hv : v ≠ hostLead := fun e => hj ⟨fun _ => e, fun _ => rfl⟩
          rw [recvTake, if_neg hv] at h
          cases h
        | false =>
          have hv : v = hostLead := by
            refine Classical.byContradiction fun e => ?_
            exact hj ⟨fun h => absurd h Bool.false_ne_true, fun h => absurd h e⟩
          rw [recvTake, if_pos hv] at h
          cases h

/-- Settles O13: by where the receiver stands and what the character brings about. -/
theorem hostReceiverFollowsTheLeadByte : Obligations.HostReceiverFollowsTheLeadByte := by
  refine ⟨fun s bad hs hbad => ⟨fun hr => ⟨?_, fun v hv => ?_, ?_⟩, fun bytes last hr => ?_, fun bytes lead last hr => ?_,
    fun bytes last v hr hv => ?_⟩, ?_, fun s hs => ⟨fun bytes lead last hr => ?_, fun hr => ?_⟩, ?_⟩
  · exact exec_hostCharacter_quiet hs (by rw [hr]; rfl)
  · have h := exec_hostCharacter_quiet (x := .bits v true) (r := .hunting) hs
      (by rw [hr]; exact if_neg hv)
    rwa [setReceiver_self hr] at h
  · have h := exec_hostCharacter_quiet (x := bad) (r := .hunting) hs (by rw [hr, judged_faulty hbad]; rfl)
    rwa [setReceiver_self hr] at h
  · exact exec_hostCharacter_quiet hs (by rw [hr]; rfl)
  · exact exec_hostCharacter_discard hs (by rw [hr, judged_faulty hbad]; cases lead <;> rfl)
  · exact exec_hostCharacter_discard hs (by rw [hr]; exact if_neg hv)
  · intro s bytes lead last b hs hr hlead joined dropped hj hd
    subst hj hd
    have ht : recvTake s.hpt.receiver (HostChar.bits b true).judged s.tick = recvAppend bytes b s.tick := by
      rw [hr]
      exact recvTake_joins last s.tick hlead
    refine ⟨fun he => ?_, fun hne n hn => ⟨fun hbad => ?_, fun h2 hmax => ⟨fun hl => ?_, fun hl hc => ?_⟩⟩, fun x hx => ?_⟩
    · exact exec_hostCharacter_quiet hs (ht.trans (recvAppend_first he))
    · subst hn
      exact exec_hostCharacter_discard hs (ht.trans (recvAppend_length_bad hne hbad))
    · subst hn
      exact exec_hostCharacter_quiet hs (ht.trans (recvAppend_inside hne h2 hmax hl))
    · subst hn
      exact exec_hostCharacter_discard hs (ht.trans (recvAppend_check_bad hne h2 hmax hl hc))
    · rw [exec_hostDiscard, hx, State.onlyIf, if_neg Bool.false_ne_true, settle_settled s hs]
  · have hg : s.hostGap = ({ s with tick := max s.tick (last + 51) }.setReceiver .hunting).flagFrameError := by
      simp only [State.hostGap, hr, State.reach, Config.hostGapMs]
    have he : exec .hostGapTimeout s = .next (settle s.hostGap) := by rfl
    have hset : ({ s with tick := max s.tick (last + 51) }.setReceiver .hunting).flagFrameError.settled := hs
    rw [he, hg, settle_settled _ hset]
  · have hg : s.hostGap = s := by simp only [State.hostGap, hr]
    have he : exec .hostGapTimeout s = .next (settle s.hostGap) := by rfl
    rw [he, hg, settle_settled s hs]
  · intro c kind tag data s hf hlen hs
    have hd : dataFits data = false := by
      rw [Bool.eq_false_iff, Ne, dataFits_iff]
      omega
    rw [exec_frame c kind tag data s hf, request_discarded data _ s hd, settle_settled _ hs.framed.flagFrameError]

/-- Settles O14: the completed frame's row is run on the hunting receiver, as the command's is. -/
theorem completeFramesRunTheirRow : Obligations.CompleteFramesRunTheirRow := by
  intro x c kind tag data s hf h
  obtain ⟨ht, hlen⟩ := recvTake_complete h
  rw [exec_hostCharacter, State.takeHostChar, ht, exec_frame c kind tag data s hf,
    request_fits data _ s ((dataFits_iff data).mpr hlen)]
  rfl

/-- Settles O15. -/
theorem fullReplyQueueDiscardsTheFrame : Obligations.FullReplyQueueDiscardsTheFrame := by
  refine ⟨fun c kind tag data s hf hlen hs hfull => ?_, fun s hs => ?_⟩
  · rw [exec_frame c kind tag data s hf, request_fits data _ s ((dataFits_iff data).mpr hlen),
      State.takeFrame_full _ s.framed hfull, settle_settled _ hs.framed.flagFrameError]
  · have he : exec .replySent s = .next (settle s.replySent) := by rfl
    rw [he, settle_settled s.replySent hs]
    rfl

/-! ### Refusals in the order of the checks (O16) -/

section
variable {kind : Byte} {d : List Byte}

theorem readSet_eq_none {d : List Byte} {i : Nat} (h : setLengthOk d i = false) : readSet d i = none := by
  unfold readSet
  unfold setLengthOk at h
  by_cases hi : d.length ≤ i
  · simp [hi]
  · by_cases hall : at8 d i = 0xFF
    · by_cases hl : d.length = i + 1 <;> simp_all
    · by_cases hl : d.length = i + 1 + at8 d i <;> simp_all

theorem State.tableMessage_badLength (tag : Byte) {b : Bool} (hb : b = false) (ok : Bool) (f : Lds → Lds) (s : State) :
    s.tableMessage tag b ok f = s.refuse tag .badLength := by
  rw [hb]
  rfl

theorem State.sectCheck_badLength {s : State} (h : d.length ≠ 1) : s.sectCheck d = some .badLength := if_pos h

theorem length_ne_of {n : Nat} (h : (d.length == n) = false) : d.length ≠ n := beq_eq_false_iff_ne.mp h

/-- R174, order 2: every row judges the length of its data first. -/
theorem dispatch_badLength (tag : Byte) (s : State) (h : lengthOk kind d = false) :
    dispatch kind tag d s = s.refuse tag .badLength := by
  unfold lengthOk at h
  split at h
  all_goals
    rename_i hk
    try simp only [dispatch, hk]
  case h_49 => cases h
  case h_2 | h_6 | h_7 | h_8 | h_9 | h_10 | h_11 | h_12 => exact State.tableMessage_badLength tag h _ _ s
  case h_13 =>
    have hz : zonesOf d = none := by simpa using h
    simp only [reqLdZones, hz]
  case h_14 =>
    refine if_pos ?_
    simpa [Decidable.or_iff_not_imp_left] using h
  case h_34 | h_35 | h_36 | h_37 =>
    simp only [reqSecEnergize, reqSecIsolate, reqSecUnlock, reqSecQuery, State.sectCheck_badLength (length_ne_of h)]
  case h_43 | h_44 => exact if_pos (by rw [incLengthOk, h]; rfl)
  case h_46 | h_47 | h_48 =>
    simp only [reqAnnBind, reqAnnRelease, reqAnnClear, readSet_eq_none h]
  all_goals exact if_pos (length_ne_of h)

theorem readSet_of_lengthOk {i : Nat} (h : setLengthOk d i = true) : ∃ x, readSet d i = some x := by
  unfold readSet
  unfold setLengthOk at h
  by_cases hi : d.length ≤ i
  · have : ¬ i < d.length := by omega
    simp [this] at h
  · by_cases hall : at8 d i = 0xFF <;> simp_all

theorem State.sectCheck_wrongState {s : State} (h : d.length = 1) (hs : s.lds.service = .unconfigured) :
    s.sectCheck d = some .wrongState := (if_neg (not_not_intro h)).trans (if_pos hs)

theorem State.linkModeCheck_wrongState {s : State} (hs : s.lds.service = .unconfigured) :
    s.linkModeCheck d = some .wrongState := if_pos hs

/-- R174, order 3: a row that needs a committed description judges the service state next. -/
theorem dispatch_undescribed (tag : Byte) (s : State) (hl : lengthOk kind d = true) (hn : needsDescription kind = true)
    (hs : s.lds.service = .unconfigured) : dispatch kind tag d s = s.refuse tag .wrongState := by
  unfold lengthOk at hl
  split at hl
  all_goals
    rename_i hk
    try simp only [dispatch, hk]
  case h_49 => simp_all [needsDescription]
  case h_1 | h_2 | h_3 | h_4 | h_5 | h_6 | h_7 | h_8 | h_9 | h_10 | h_11 | h_12 | h_13 | h_19 | h_21 | h_23 | h_33 | h_39 |
      h_40 | h_41 | h_42 | h_45 =>
    simp [needsDescription, hk] at hn
  case h_14 =>
    refine (if_neg ?_).trans (if_pos hs)
    simpa using hl
  case h_32 =>
    refine (if_neg (not_not_intro (beq_iff_eq.mp hl))).trans ?_
    rw [State.linkModeCheck_wrongState hs]
  case h_34 | h_35 | h_36 | h_37 =>
    simp only [reqSecEnergize, reqSecIsolate, reqSecUnlock, reqSecQuery, State.sectCheck_wrongState (beq_iff_eq.mp hl) hs]
  case h_43 | h_44 =>
    refine (if_neg ?_).trans (if_pos hs)
    rw [incLengthOk, hl]
    exact Bool.false_ne_true
  case h_46 | h_47 | h_48 =>
    obtain ⟨x, hx⟩ := readSet_of_lengthOk hl
    simp only [reqAnnBind, reqAnnRelease, reqAnnClear, hx, if_pos hs]
  all_goals exact (if_neg (not_not_intro (beq_iff_eq.mp hl))).trans (if_pos hs)

/-- R2, R11: in service the tables and LD_COMMIT are refused. -/
theorem dispatch_inService (tag : Byte) (s : State) (hl : lengthOk kind d = true)
    (hk : loadsTable kind = true ∨ kind = 0x17#8) (hs : s.lds.service = .inService ∨ s.lds.service = .suspended) :
    dispatch kind tag d s = s.refuse tag .wrongState := by
  have ha : s.lds.service.active = true := by rcases hs with hs | hs <;> rw [hs] <;> rfl
  have htable : ∀ (lengthOk valueOk : Bool) (f : Lds → Lds), lengthOk = true →
      s.tableMessage tag lengthOk valueOk f = s.refuse tag .wrongState := by
    rintro _ v f rfl
    exact if_pos ha
  rcases hk with hk | rfl
  · simp only [loadsTable, List.contains_eq_mem, List.mem_cons, List.not_mem_nil, or_false, decide_eq_true_eq] at hk
    rcases hk with hk | hk | hk | hk | hk | hk | hk | hk | hk <;> simp only [lengthOk, hk] at hl <;>
      simp only [dispatch, hk]
    case inr.inr.inr.inr.inr.inr.inr.inr =>
      obtain ⟨z, hz⟩ := Option.isSome_iff_exists.mp hl
      simp only [reqLdZones, hz]
      exact htable _ _ _ rfl
    all_goals exact htable _ _ _ hl
  · have hd : d.length = 0 := beq_iff_eq.mp hl
    refine (if_neg (not_not_intro hd)).trans ?_
    rcases hs with hs | hs <;> rw [hs]
end

/-- Settles O16. -/
theorem requestsAreRefusedInTheOrderOfTheirChecks : Obligations.RequestsAreRefusedInTheOrderOfTheirChecks := by
  refine ⟨fun kind tag data s hk hd hs => ?_, fun c kind tag data s hf hd hs hl => ?_,
    fun c kind tag data s hf hd hs hl hn hu => ?_, fun c kind tag data s hf hd hs hl hk hu => ?_⟩
  · refine exec_refuse (code := .unknownKind) (kind := kind) ?_ hd hs (dispatch_unknown kind tag data _ hk)
    simp [frameOf, hk]
  · exact exec_refuse (code := .badLength) hf hd hs (dispatch_badLength tag _ hl)
  · exact exec_refuse (code := .wrongState) hf hd hs (dispatch_undescribed tag _ hl hn hu)
  · exact exec_refuse (code := .wrongState) hf hd hs (dispatch_inService tag _ hl hk hu)

/-- Settles O17. -/
theorem fetchReportsDeliversTheOldest : Obligations.FetchReportsDeliversTheOldest := by
  intro tag n s hs
  refine ⟨fun h1 h16 => exec_at_once rfl (by simp) hs ?_ hs.1,
    fun h => exec_refuse (code := .badValue) rfl (by simp) hs ?_⟩
  · have hr : inRange 1 16 n.toNat = true := (inRange_iff ..).mpr ⟨h1, h16⟩
    simp [dispatch, reqFetchReports, hr, State.done, fetchBytes, State.framed]
  · have hr : inRange 1 16 n.toNat = false := by
      rw [Bool.eq_false_iff, Ne, inRange_iff]
      omega
    simp [dispatch, reqFetchReports, hr]

/-- Settles O18. -/
theorem readConditionsReturnsAndClearsTheFlags : Obligations.ReadConditionsReturnsAndClearsTheFlags :=
  fun _ _ hs => exec_at_once rfl (by decide) hs rfl hs.1

theorem bitOf_hasBit (n k : Nat) : bitOf (hasBit n k) k = n / 2 ^ k % 2 * 2 ^ k := by
  unfold bitOf hasBit
  rcases Nat.mod_two_eq_zero_or_one (n / 2 ^ k) with h | h <;> simp [h]

/-- Settles O19. -/
theorem setMasksReplacesTheThreeParts : Obligations.SetMasksReplacesTheThreeParts := by
  intro tag a b x s hs
  refine ⟨fun ha hb hx => exec_at_once rfl (by simp) hs ?_ hs.1,
    fun h => exec_refuse (code := .badValue) rfl (by simp) hs ?_, ?_, ?_⟩
  · have hr : ¬(127 < a.toNat ∨ 63 < b.toNat ∨ 1 < x.toNat) := by omega
    exact if_neg hr
  · exact if_pos h
  · simp only [Conditions.ofNat, Conditions.toNat, bitOf_hasBit]
    omega
  · simp only [ClassMask.ofNat, ClassMask.toNat, bitOf_hasBit]
    omega

/-- Settles O20: a report by the mask of its class and the room in the queue; the pin by its definition. -/
theorem reportsAndAttention : Obligations.ReportsAndAttention := by
  refine ⟨fun k x a b s => ⟨State.report_masked k x a b s, State.report_joins k x a b s, fun hm hfull => ?_⟩, fun s => ?_,
    fun s => ⟨rfl, rfl⟩⟩
  · have hn : ¬ s.hpt.reports.length < Config.maxReports := Nat.not_lt.mpr hfull
    simp only [State.report, hm, Bool.false_eq_true, if_false, if_neg hn]
  · simp only [State.attn, Conditions.unmasked, Bool.or_eq_true, Bool.and_eq_true, Bool.not_eq_true', or_assoc,
      List.isEmpty_eq_false_iff, ne_eq]

end Sys2Proof.Machine
end

section
/-! SUPPORT. The queries (O21): each adds its reply to the queue and changes nothing else. -/
namespace Sys2Proof.Machine

/-- A request that adds one reply with its tag and changes nothing else. -/
def State.onlyReplies (tag : Byte) (s t : State) : Prop := ∃ r : Reply, r.tag = tag ∧ t = s.reply r

@[simp] theorem State.refuse_onlyReplies (tag : Byte) (c : RefusalCode) (s : State) : s.onlyReplies tag (s.refuse tag c) :=
  ⟨_, rfl, rfl⟩

@[simp] theorem State.done_onlyReplies (tag : Byte) (data : List Byte) (s : State) : s.onlyReplies tag (s.done tag data) :=
  ⟨_, rfl, rfl⟩

section
variable (tag : Byte) (d : List Byte) (s : State)

theorem reqIdentify_onlyReplies : s.onlyReplies tag (reqIdentify tag d s) := by
  unfold reqIdentify
  split <;> simp

theorem reqTtQuery_onlyReplies : s.onlyReplies tag (reqTtQuery tag d s) := by
  unfold reqTtQuery
  dsimp only
  repeat' split
  all_goals simp

theorem reqTrainQuery_onlyReplies : s.onlyReplies tag (reqTrainQuery tag d s) := by
  unfold reqTrainQuery State.slotAnswer
  dsimp only
  repeat' split
  all_goals simp

theorem reqSecQuery_onlyReplies : s.onlyReplies tag (reqSecQuery tag d s) := by
  unfold reqSecQuery
  repeat' split
  all_goals simp

theorem reqIncQuery_onlyReplies : s.onlyReplies tag (reqIncQuery tag d s) := by
  unfold reqIncQuery
  repeat' split
  all_goals simp

theorem reqAnnQuery_onlyReplies : s.onlyReplies tag (reqAnnQuery tag d s) := by
  unfold reqAnnQuery
  repeat' split
  all_goals simp

theorem reqElementQuery_onlyReplies : s.onlyReplies tag (reqElementQuery tag d s) := by
  unfold reqElementQuery
  repeat' split
  all_goals simp

end

/-- R172: a request that only replies is answered with that reply. -/
theorem exec_onlyReplies {c : Instr} {kind tag : Byte} {d : List Byte} {s : State} (hf : frameOf c = some (kind, tag, d))
    (hd : d.length ≤ 1020) (hs : s.ready) (h : s.framed.onlyReplies tag (dispatch kind tag d s.framed)) :
    ∃ r : Reply, r.tag = tag ∧ exec c s = .next (s.framed.reply r) := by
  obtain ⟨r, hr, he⟩ := h
  exact ⟨r, hr, exec_at_once hf hd hs he (hs.1.framed.reply r)⟩

/-! ### What each query answers -/

section
variable {tag : Byte} {d : List Byte} {s : State}

theorem reqElementQuery_found {e : MirrorEntry} (hd : d.length = 1) (he : s.entry? (at8 d 0) = some e) :
    reqElementQuery tag d s = s.done tag (s.entryBytes e) := by
  rw [reqElementQuery, if_neg (not_not_intro hd), he]

theorem reqTtQuery_stop (hd : d.length = 5) (hs : s.lds.service ≠ .unconfigured) (h0 : at8 d 0 = 0)
    (hk : at16 d 1 < s.stopCount) (hskip : at16 d 3 ≤ 1023) :
    reqTtQuery tag d s = s.done tag (selectedBytes (s.window.entries.filter (fun e => e.stop == at16 d 1)) (at16 d 3) ++
      lastBytes ((s.window.last[at16 d 1]?).join)) := by
  simp only [reqTtQuery]
  rw [if_neg (not_not_intro hd), if_neg hs, if_neg (Nat.not_lt.mpr hskip), if_pos h0, if_pos hk]

theorem reqTtQuery_trip (hd : d.length = 5) (hs : s.lds.service ≠ .unconfigured) (h0 : at8 d 0 = 1)
    (ht : inRange 1 9999 (at16 d 1) = true) (hskip : at16 d 3 ≤ 1023) :
    reqTtQuery tag d s =
      s.done tag (selectedBytes (s.window.entries.filter (fun e => e.trip == at16 d 1)) (at16 d 3)) := by
  simp only [reqTtQuery]
  rw [if_neg (not_not_intro hd), if_neg hs, if_neg (Nat.not_lt.mpr hskip), if_neg (by omega), if_pos h0, if_pos ht]

theorem reqTrainQuery_slot (hd : d.length = 3) (hs : s.lds.service ≠ .unconfigured) (h0 : at8 d 0 = 1)
    (hi : at16 d 1 < 40) : reqTrainQuery tag d s = s.slotAnswer tag (at16 d 1) := by
  simp only [reqTrainQuery]
  rw [if_neg (not_not_intro hd), if_neg hs, if_neg (by omega), if_pos h0]
  exact if_pos hi

/-- R115: the section a request names exists. -/
theorem State.sectCheck_none (hd : d.length = 1) (hs : s.lds.service ≠ .unconfigured) (hi : at8 d 0 < 24)
    (hc : at8 d 0 < s.sectCount) : s.sectCheck d = none := by
  have hmax : ¬ Config.maxSections ≤ at8 d 0 := Nat.not_le.mpr hi
  rw [State.sectCheck, if_neg (not_not_intro hd), if_neg hs, if_neg hmax, if_neg (Nat.not_le.mpr hc)]

theorem reqSecQuery_found {r : SectRec} (hc : s.sectCheck d = none) (hr : s.sect? (at8 d 0) = some r) :
    reqSecQuery tag d s = s.done tag (s.sectBytes (at8 d 0) r) := by
  rw [reqSecQuery, hc]
  simp only [hr]

theorem reqIncQuery_all (hd : d.length = 2) (hs : s.lds.service ≠ .unconfigured) (h0 : at16 d 0 = 0) :
    reqIncQuery tag d s = s.done tag s.incListBytes := by
  rw [reqIncQuery, if_neg (not_not_intro hd), if_neg hs, if_pos h0]

theorem reqIncQuery_found {x : Incident} (hd : d.length = 2) (hs : s.lds.service ≠ .unconfigured) (h0 : at16 d 0 ≠ 0)
    (hx : s.incident? (at16 d 0) = some x) :
    reqIncQuery tag d s = s.done tag (x.bytes s.tick ++ x.remaining s.tick ++ list8 (s.effective x)) := by
  rw [reqIncQuery, if_neg (not_not_intro hd), if_neg hs, if_neg h0, hx]

theorem reqAnnQuery_found {r : StationRec} (hd : d.length = 1) (hs : s.lds.service ≠ .unconfigured) (hi : at8 d 0 < 32)
    (hr : s.station? (at8 d 0) = some r) : reqAnnQuery tag d s = s.done tag (s.stationBytes r) := by
  rw [reqAnnQuery, if_neg (not_not_intro hd), if_neg hs, if_neg (by omega), hr]

end

theorem at8_u8_self {n : Nat} (h : n < 256) : at8 (u8 n) 0 = n := at8_u8 h []

theorem at16_u16_self {n : Nat} (h : n < 65536) : at16 (u16 n) 0 = n := at16_u16 h []

/-- Settles O21: the rows of the seven queries only reply; each answer is read off its row. -/
theorem queriesAnswerAndChangeNothing : Obligations.QueriesAnswerAndChangeNothing := by
  refine ⟨fun tag d s hs hd c hc => ?_, fun tag s hs => exec_done rfl (by simp) hs rfl, fun tag s hs =>
    ⟨fun i e hi he => ?_, fun hu => ⟨fun k skip hk h256 hskip => ?_, fun trip skip h1 h2 hskip => ?_, fun i hi ht => ?_,
      fun i t hi ht => ?_, fun i r hi hc hr => ?_, ?_, fun n x h1 h2 hx => ?_, fun i r hi hr => ?_⟩⟩⟩
  · simp only [List.mem_cons, List.not_mem_nil, or_false] at hc
    rcases hc with rfl | rfl | rfl | rfl | rfl | rfl | rfl
    · exact exec_onlyReplies rfl hd hs (reqTtQuery_onlyReplies tag d _)
    · exact exec_onlyReplies rfl hd hs (reqTrainQuery_onlyReplies tag d _)
    · exact exec_onlyReplies rfl hd hs (reqSecQuery_onlyReplies tag d _)
    · exact exec_onlyReplies rfl hd hs (reqIncQuery_onlyReplies tag d _)
    · exact exec_onlyReplies rfl hd hs (reqAnnQuery_onlyReplies tag d _)
    · exact exec_onlyReplies rfl hd hs (reqElementQuery_onlyReplies tag d _)
    · exact exec_onlyReplies rfl hd hs (reqIdentify_onlyReplies tag d _)
  · exact exec_done rfl (by simp) hs (reqElementQuery_found rfl (by rw [at8_u8_self hi]; exact he))
  · have hn : at16 (u8 0 ++ u16 k ++ u16 skip) 1 = k := at16_of rfl rfl (by omega)
    have hm : at16 (u8 0 ++ u16 k ++ u16 skip) 3 = skip := at16_of rfl rfl (by omega)
    have h := reqTtQuery_stop (tag := tag) (d := u8 0 ++ u16 k ++ u16 skip) (s := s.framed) rfl hu rfl
      (by rw [hn]; exact hk) (by rw [hm]; exact hskip)
    rw [hn, hm] at h
    exact exec_done rfl (by simp) hs h
  · have hn : at16 (u8 1 ++ u16 trip ++ u16 skip) 1 = trip := at16_of rfl rfl (by omega)
    have hm : at16 (u8 1 ++ u16 trip ++ u16 skip) 3 = skip := at16_of rfl rfl (by omega)
    have h := reqTtQuery_trip (tag := tag) (d := u8 1 ++ u16 trip ++ u16 skip) (s := s.framed) rfl hu rfl
      (by rw [hn]; exact (inRange_iff ..).mpr ⟨h1, h2⟩) (by rw [hm]; exact hskip)
    rw [hn, hm] at h
    exact exec_done rfl (by simp) hs h
  · have hn : at16 (u8 1 ++ u16 i) 1 = i := at16_of rfl rfl (by omega)
    have h := reqTrainQuery_slot (tag := tag) (d := u8 1 ++ u16 i) (s := s.framed) rfl hu rfl (by rw [hn]; exact hi)
    have hf : s.framed.train? i = none := ht
    simp only [hn, State.slotAnswer, hf] at h
    exact exec_done rfl (by simp) hs h
  · have hn : at16 (u8 1 ++ u16 i) 1 = i := at16_of rfl rfl (by omega)
    have h := reqTrainQuery_slot (tag := tag) (d := u8 1 ++ u16 i) (s := s.framed) rfl hu rfl (by rw [hn]; exact hi)
    have hf : s.framed.train? i = some t := ht
    simp only [hn, State.slotAnswer, hf] at h
    exact exec_done rfl (by simp) hs h
  · have hn : at8 (u8 i) 0 = i := at8_u8_self (by omega)
    have h := reqSecQuery_found (tag := tag) (d := u8 i) (s := s.framed) (r := r)
      (State.sectCheck_none rfl hu (by rw [hn]; exact hi) (by rw [hn]; exact hc)) (by rw [hn]; exact hr)
    rw [hn] at h
    exact exec_done rfl (by simp) hs h
  · exact exec_done rfl (by simp) hs (reqIncQuery_all rfl hu rfl)
  · have hn : at16 (u16 n) 0 = n := at16_u16_self (by omega)
    exact exec_done rfl (by simp) hs (reqIncQuery_found rfl hu (by rw [hn]; omega) (by rw [hn]; exact hx))
  · have hn : at8 (u8 i) 0 = i := at8_u8_self (by omega)
    exact exec_done rfl (by simp) hs (reqAnnQuery_found rfl hu (by rw [hn]; exact hi) (by rw [hn]; exact hr))

end Sys2Proof.Machine
end

section
/-! SUPPORT. What a report leaves unchanged: everything but the report queue and the overflow flag. -/
namespace Sys2Proof.Machine

section
variable (k : ReportKind) (x : Option Subject) (a b : Option Nat) (s : State)

/-- R176: a report touches the report queue or the flags of the host port. -/
theorem State.report_eq : ∃ (l : List Report) (f : Conditions), s.report k x a b =
    { s with hpt := { s.hpt with reports := l, flags := f } } := by
  unfold State.report
  split
  · exact ⟨s.hpt.reports, s.hpt.flags, rfl⟩
  · split
    · exact ⟨_, s.hpt.flags, rfl⟩
    · exact ⟨s.hpt.reports, _, rfl⟩

@[simp] theorem State.report_pending : (s.report k x a b).pending = s.pending := by
  obtain ⟨_, _, h⟩ := s.report_eq k x a b
  rw [h]

@[simp] theorem State.report_tick : (s.report k x a b).tick = s.tick := by
  obtain ⟨_, _, h⟩ := s.report_eq k x a b
  rw [h]

@[simp] theorem State.report_lds : (s.report k x a b).lds = s.lds := by
  obtain ⟨_, _, h⟩ := s.report_eq k x a b
  rw [h]

@[simp] theorem State.report_clock : (s.report k x a b).clock = s.clock := by
  obtain ⟨_, _, h⟩ := s.report_eq k x a b
  rw [h]

@[simp] theorem State.report_links : (s.report k x a b).links = s.links := by
  obtain ⟨_, _, h⟩ := s.report_eq k x a b
  rw [h]

@[simp] theorem State.report_mirror : (s.report k x a b).mirror = s.mirror := by
  obtain ⟨_, _, h⟩ := s.report_eq k x a b
  rw [h]

@[simp] theorem State.report_window : (s.report k x a b).window = s.window := by
  obtain ⟨_, _, h⟩ := s.report_eq k x a b
  rw [h]

@[simp] theorem State.report_reg : (s.report k x a b).reg = s.reg := by
  obtain ⟨_, _, h⟩ := s.report_eq k x a b
  rw [h]

@[simp] theorem State.report_rgl : (s.report k x a b).rgl = s.rgl := by
  obtain ⟨_, _, h⟩ := s.report_eq k x a b
  rw [h]

@[simp] theorem State.report_tsv : (s.report k x a b).tsv = s.tsv := by
  obtain ⟨_, _, h⟩ := s.report_eq k x a b
  rw [h]

@[simp] theorem State.report_inc : (s.report k x a b).inc = s.inc := by
  obtain ⟨_, _, h⟩ := s.report_eq k x a b
  rw [h]

@[simp] theorem State.report_anp : (s.report k x a b).anp = s.anp := by
  obtain ⟨_, _, h⟩ := s.report_eq k x a b
  rw [h]

@[simp] theorem State.report_agenda : (s.report k x a b).agenda = s.agenda := by
  obtain ⟨_, _, h⟩ := s.report_eq k x a b
  rw [h]

@[simp] theorem State.report_orderCount : (s.report k x a b).orderCount = s.orderCount := by
  obtain ⟨_, _, h⟩ := s.report_eq k x a b
  rw [h]

@[simp] theorem State.report_freeCount : (s.report k x a b).freeCount = s.freeCount := by
  obtain ⟨_, _, h⟩ := s.report_eq k x a b
  rw [h]

@[simp] theorem State.report_hpt_rate : (s.report k x a b).hpt.rate = s.hpt.rate := by
  obtain ⟨_, _, h⟩ := s.report_eq k x a b
  rw [h]

@[simp] theorem State.report_hpt_receiver : (s.report k x a b).hpt.receiver = s.hpt.receiver := by
  obtain ⟨_, _, h⟩ := s.report_eq k x a b
  rw [h]

@[simp] theorem State.report_hpt_replies : (s.report k x a b).hpt.replies = s.hpt.replies := by
  obtain ⟨_, _, h⟩ := s.report_eq k x a b
  rw [h]

@[simp] theorem State.report_hpt_causes : (s.report k x a b).hpt.causes = s.hpt.causes := by
  obtain ⟨_, _, h⟩ := s.report_eq k x a b
  rw [h]

@[simp] theorem State.report_hpt_condMask : (s.report k x a b).hpt.condMask = s.hpt.condMask := by
  obtain ⟨_, _, h⟩ := s.report_eq k x a b
  rw [h]

@[simp] theorem State.report_hpt_classMask : (s.report k x a b).hpt.classMask = s.hpt.classMask := by
  obtain ⟨_, _, h⟩ := s.report_eq k x a b
  rw [h]

@[simp] theorem State.report_hpt_attention : (s.report k x a b).hpt.attention = s.hpt.attention := by
  obtain ⟨_, _, h⟩ := s.report_eq k x a b
  rw [h]

end

end Sys2Proof.Machine
end

section
/-! SUPPORT. The table messages: what loads a table, what a withdrawal leaves, and the ranges each table is judged by
(O22). -/
namespace Sys2Proof.Machine

/-! ### Answers posted -/

theorem settle_latch (s : State) : settle s.latch = settle s := by
  unfold settle
  rw [State.latch_current s.latch rfl]

/-- R172, R178: a state without notices latches its causes and answers its request. -/
theorem settle_answer_latch (tag : Byte) (d : List Byte) (s : State) (h : s.agenda = []) :
    settle (s.post (.answer tag (.done d))) = s.latch.done tag d := by
  rw [← settle_latch]
  exact settle_answer tag d s.latch ⟨h, rfl⟩

/-- R172: a request whose effect posts no notice but its answer. -/
theorem exec_posted {c : Instr} {kind tag : Byte} {d data : List Byte} {s t : State}
    (hf : frameOf c = some (kind, tag, d)) (hd : d.length ≤ 1020) (hs : s.ready)
    (hb : dispatch kind tag d s.framed = t.post (.answer tag (.done data))) (ht : t.settled) :
    exec c s = .next (t.done tag data) := by
  rw [exec_ready hf hd hs, hb, settle_answer tag data t ht]

/-- A fold of operations that keep something keeps it. -/
theorem foldl_keeps {α β : Type} (φ : State → β) (f : State → α → State) (h : ∀ s a, φ (f s a) = φ s) (l : List α)
    (s : State) : φ (l.foldl f s) = φ s := by
  induction l generalizing s with
  | nil => rfl
  | cons a l ih => rw [List.foldl_cons, ih, h]

/-! ### A table message, by the service state -/

section
variable {tag : Byte} {lengthOk valueOk : Bool} {f : Lds → Lds} {s : State}

theorem State.tableMessage_alters (hl : lengthOk = true) (ha : s.lds.service.active = false) (hv : valueOk = true) :
    s.tableMessage tag lengthOk valueOk f = s.alterStore tag f := by
  rw [hl, hv, State.tableMessage, ha]
  rfl

theorem State.tableMessage_badValue (hl : lengthOk = true) (ha : s.lds.service.active = false) (hv : valueOk = false) :
    s.tableMessage tag lengthOk valueOk f = s.refuse tag .badValue := by
  rw [hl, hv, State.tableMessage, ha]
  rfl

theorem active_of_unconfigured (h : s.lds.service = .unconfigured) : s.lds.service.active = false := by rw [h]; rfl

theorem active_of_configured (h : s.lds.service = .configured) : s.lds.service.active = false := by rw [h]; rfl

end

/-- R2: which change of the store a table message makes, where its length and its ranges are right. -/
inductive TableLoad (tag : Byte) : Instr → (Lds → Lds) → Prop
  | begin : TableLoad tag (.ldBegin tag []) (fun l => { Lds.empty with service := l.service })
  | stations {d : List Byte} (h : d.length = 1 + 4 * at8 d 0) (hv : stationsOk (readStations d) = true) :
      TableLoad tag (.ldStations tag d) (fun l => { l with stations := some (readStations d) })
  | runs {d : List Byte} (h : d.length = 1 + 9 * at8 d 0) (hv : runsOk (readRuns d) = true) :
      TableLoad tag (.ldRuns tag d) (fun l => { l with runs := some (readRuns d) })
  | sections {d : List Byte} (h : d.length = 1 + 7 * at8 d 0 + 2 * ((at8 d 0 + 1) / 2)) (hv : sectionsOk d = true) :
      TableLoad tag (.ldSections tag d) (fun l => { l with sections := some (readSections d) })
  | substations {d : List Byte} (h : d.length = 1 + 12 * at8 d 0) (hv : substationsOk d = true) :
      TableLoad tag (.ldSubstations tag d) (fun l => { l with substations := some (readSubstations d) })
  | elements {d : List Byte} (h : d.length = 2 + 3 * at16 d 0) (hv : elementsOk d = true) :
      TableLoad tag (.ldElements tag d) (fun l => { l with elements := some (readElements d) })
  | links {d : List Byte} (h : d.length = 40) (hv : linksOk d = true) :
      TableLoad tag (.ldLinks tag d) (fun l => { l with links := some (readLinks d) })
  | zones {d : List Byte} {z : List (List Nat)} (h : zonesOf d = some z) (hv : zonesOk z = true) :
      TableLoad tag (.ldZones tag d) (fun l => { l with zones := some z })
  | params {d : List Byte} (h : d.length = 56) (hv : (readParams d).ok = true) :
      TableLoad tag (.ldParams tag d) (fun l => { l with params := some (readParams d) })

/-- A length with a count byte is not empty. -/
theorem countedLength {n m : Nat} (h : n = 1 + m) : (n != 0 && n == 1 + m) = true := by
  subst h
  simp

/-- R2: outside service a table message in range changes the store. -/
theorem TableLoad.dispatch {tag : Byte} {c : Instr} {f : Lds → Lds} (h : TableLoad tag c f) :
    ∃ kind d, frameOf c = some (kind, tag, d) ∧
      (∀ s : State, s.lds.service.active = false → Machine.dispatch kind tag d s = s.alterStore tag f) := by
  cases h with
  | begin => exact ⟨_, _, rfl, fun s ha => State.tableMessage_alters rfl ha rfl⟩
  | stations h hv => exact ⟨_, _, rfl, fun s ha => State.tableMessage_alters (countedLength h) ha hv⟩
  | runs h hv => exact ⟨_, _, rfl, fun s ha => State.tableMessage_alters (countedLength h) ha hv⟩
  | sections h hv =>
    refine ⟨_, _, rfl, fun s ha => State.tableMessage_alters ?_ ha hv⟩
    rw [Nat.add_assoc] at h ⊢
    exact countedLength h
  | substations h hv => exact ⟨_, _, rfl, fun s ha => State.tableMessage_alters (countedLength h) ha hv⟩
  | elements h hv =>
    refine ⟨_, _, rfl, fun s ha => State.tableMessage_alters ?_ ha hv⟩
    rw [Bool.and_eq_true, decide_eq_true_iff, beq_iff_eq]
    omega
  | links h hv => exact ⟨_, _, rfl, fun s ha => State.tableMessage_alters (beq_iff_eq.mpr h) ha hv⟩
  | @zones d z h hv =>
    refine ⟨_, _, rfl, fun s ha => ?_⟩
    refine Eq.trans ?_ (State.tableMessage_alters (lengthOk := true) rfl ha hv)
    show reqLdZones tag d s = _
    rw [reqLdZones, h]
  | params h hv => exact ⟨_, _, rfl, fun s ha => State.tableMessage_alters (beq_iff_eq.mpr h) ha hv⟩

/-- R1 to R10: in UNCONFIGURED a table in range is loaded, and nothing else changes but the reply. -/
theorem TableLoad.exec_unconfigured {tag : Byte} {c : Instr} {f : Lds → Lds} {s : State} (h : TableLoad tag c f)
    (hd : ∀ kind d, frameOf c = some (kind, tag, d) → d.length ≤ 1020) (hs : s.ready)
    (hu : s.lds.service = .unconfigured) :
    exec c s = .next ((s.framed.setLds { f s.lds with committed := false }).done tag []) := by
  obtain ⟨kind, d, hf, hb⟩ := h.dispatch
  refine exec_posted hf (hd kind d hf) hs ((hb s.framed (active_of_unconfigured hu)).trans ?_) hs.1
  obtain ⟨hc, -⟩ | ⟨-, he⟩ := s.framed.alterStore_cases tag f
  · cases hu.symm.trans hc
  · exact he

/-! ### A withdrawal -/

/-- R12, R36: what a withdrawal makes of a link. -/
def LinkRec.disabled (l : LinkRec) : LinkRec := if l.state = .disabled then l else LinkRec.reset l.carrier

theorem State.rxJoin_other {i j : Nat} (h : j ≠ i) (mk : Bool → RxEntry) (s : State) :
    (s.rxJoin i mk).links[j]? = s.links[j]? := by
  unfold State.rxJoin
  dsimp only
  repeat' split
  all_goals simp [State.setLink, List.getElem?_set_ne (Ne.symm h)]

/-- What joins a receive queue touches neither the notices, nor the incidents, nor the replies. -/
theorem State.rxJoin_keeps (i : Nat) (mk : Bool → RxEntry) (s : State) :
    ((s.rxJoin i mk).agenda, (s.rxJoin i mk).inc, (s.rxJoin i mk).hpt.replies) = (s.agenda, s.inc, s.hpt.replies) := by
  unfold State.rxJoin
  dsimp only
  repeat' split
  all_goals simp

theorem State.abandonLine_other {i j : Nat} (h : j ≠ i) (s : State) : (s.abandonLine i).links[j]? = s.links[j]? := by
  unfold State.abandonLine
  repeat' split
  · rfl
  · exact State.rxJoin_other h _ s
  · rfl

theorem State.abandonLine_keeps (i : Nat) (s : State) :
    ((s.abandonLine i).agenda, (s.abandonLine i).inc, (s.abandonLine i).hpt.replies) =
      (s.agenda, s.inc, s.hpt.replies) := by
  unfold State.abandonLine
  repeat' split
  · rfl
  · exact State.rxJoin_keeps i _ s
  · rfl

theorem State.links_length_of_fixed {s t : State} (h : t.fixed = s.fixed) : t.links.length = s.links.length :=
  congrArg (·.headD 0) (slotLengths_of_fixed h)

theorem State.disableLink_links (s : State) (i j : Nat) :
    (s.disableLink i).links[j]? = if j = i then (s.links[j]?).map LinkRec.disabled else s.links[j]? := by
  unfold State.disableLink
  split
  · next hn =>
    split
    · next h => rw [h, hn]; rfl
    · rfl
  · next l hl =>
    have hi : i < (s.abandonLine i).links.length := by
      rw [State.links_length_of_fixed (s.abandonLine_fixed i)]
      exact (List.getElem?_eq_some_iff.mp hl).1
    by_cases hst : l.state = .disabled
    · rw [if_pos hst]
      split
      · next h => rw [h, hl, Option.map_some, LinkRec.disabled, if_pos hst]
      · rfl
    · rw [if_neg hst, State.report_links]
      split
      · next h => rw [h, hl, Option.map_some, LinkRec.disabled, if_neg hst, State.setLink, List.getElem?_set_self hi]
      · next h => rw [State.setLink, List.getElem?_set_ne (Ne.symm h), State.abandonLine_other h]

theorem State.disableLink_keeps (s : State) (i : Nat) :
    ((s.disableLink i).agenda, (s.disableLink i).inc, (s.disableLink i).hpt.replies) =
      (s.agenda, s.inc, s.hpt.replies) := by
  unfold State.disableLink
  repeat' split
  · rfl
  · rfl
  · simpa using s.abandonLine_keeps i

/-- A fold over the links whose every step changes its own link alone changes each of them so. -/
theorem foldl_links {f : State → Nat → State} {g : LinkRec → LinkRec}
    (h : ∀ s i j, (f s i).links[j]? = if j = i then (s.links[j]?).map g else s.links[j]?) (n : Nat) (s : State) (j : Nat) :
    ((List.range n).foldl f s).links[j]? = if j < n then (s.links[j]?).map g else s.links[j]? := by
  induction n with
  | zero => rfl
  | succ n ih =>
    rw [List.range_succ, List.foldl_append, List.foldl_cons, List.foldl_nil, h, ih]
    by_cases hj : j = n
    · rw [if_pos hj, if_neg (by omega), if_pos (by omega)]
    · rw [if_neg hj]
      by_cases hlt : j < n
      · rw [if_pos hlt, if_pos (by omega)]
      · rw [if_neg hlt, if_neg (by omega)]

/-- R12: the report of a link that becomes DISABLED. -/
def disabledReport (time i : Nat) (l : Option LinkRec) : List Report :=
  match l with
  | none => []
  | some l =>
    if l.state = .disabled then []
    else [{ kind := .linkState, time := time, subject := some (.link i), detail1 := some l.state.code,
            detail2 := some 0 }]

theorem disabledReport_length (time i : Nat) (l : Option LinkRec) : (disabledReport time i l).length ≤ 1 := by
  unfold disabledReport
  repeat' split
  all_goals simp

/-- R36, R176: with FIELD unmasked and room, a link without a telegram under way is reported as it becomes DISABLED. -/
theorem State.disableLink_reports {s : State} {i : Nat} (hm : s.hpt.classMask.field = false)
    (hr : s.hpt.reports.length < 64) (ha : ∀ l, s.links[i]? = some l → l.state ≠ .disabled → l.asm = .hunting) :
    (s.disableLink i).hpt.reports = s.hpt.reports ++ disabledReport s.clock.time i s.links[i]? := by
  unfold State.disableLink
  split
  · next hn => rw [hn]; exact (List.append_nil _).symm
  · next l hl =>
    by_cases hst : l.state = .disabled
    · simp [hl, hst, disabledReport]
    · have hab : s.abandonLine i = s := by simp only [State.abandonLine, hl, ha l hl hst]
      rw [if_neg hst, hab, State.report_joins .linkState _ _ _ (s.setLink i (LinkRec.reset l.carrier)) hm hr, hl]
      simp only [disabledReport, if_neg hst]
      rfl

/-- The fold's step `k` finds link `k` as it was, and with it the reports so far. -/
theorem State.disableLinks_reports {s : State} (hm : s.hpt.classMask.field = false) {n : Nat}
    (hr : s.hpt.reports.length + n ≤ 64) (ha : ∀ l ∈ s.links, l.state ≠ .disabled → l.asm = .hunting) :
    ((List.range n).foldl (fun s i => s.disableLink i) s).hpt.reports =
      s.hpt.reports ++ (List.range n).flatMap (fun i => disabledReport s.clock.time i s.links[i]?) := by
  induction n with
  | zero => simp
  | succ n ih =>
    replace ih := ih (by omega)
    have hfix := foldl_fixed (fun (s : State) i => s.disableLink i) (fun s i => s.disableLink_fixed i) (List.range n) s
    have hlinks := foldl_links (fun s i j => State.disableLink_links s i j) n s n
    have hlen : ∀ k, ((List.range k).flatMap (fun i => disabledReport s.clock.time i s.links[i]?)).length ≤ k := by
      intro k
      induction k with
      | zero => simp
      | succ k ihk =>
        have := disabledReport_length s.clock.time k s.links[k]?
        simp only [List.range_succ, List.flatMap_append, List.flatMap_cons, List.flatMap_nil, List.append_nil,
          List.length_append]
        omega
    generalize hu : (List.range n).foldl (fun s i => s.disableLink i) s = u at *
    rw [if_neg (Nat.lt_irrefl n)] at hlinks
    have hclock : u.clock = s.clock := clock_of_fixed hfix
    have hmask : u.hpt.classMask = s.hpt.classMask := congrArg (·.2.2.1.2.1) (settings_of_fixed hfix)
    have hstep := State.disableLink_reports (s := u) (i := n) (by rw [hmask]; exact hm)
      (by rw [ih, List.length_append]; have := hlen n; omega)
      (by rw [hlinks]; exact fun l hl => ha l (List.mem_of_getElem? hl))
    rw [List.range_succ, List.foldl_append, hu, List.foldl_cons, List.foldl_nil, hstep, ih, hlinks, hclock]
    simp [List.flatMap_append]

/-- A list read by its places is the list with its places. -/
theorem flatMap_range_eq_zipIdx {α β : Type} (l : List α) (p : α × Nat → Bool) (q : α × Nat → β) (F : Nat → Option α → List β)
    (hF : ∀ i a, F i (some a) = if p (a, i) then [q (a, i)] else []) :
    (List.range l.length).flatMap (fun i => F i l[i]?) = (l.zipIdx.filter p).map q := by
  induction l using snocInduction with
  | nil => rfl
  | snoc l a ih =>
    have hold : (List.range l.length).flatMap (fun i => F i (l ++ [a])[i]?) =
        (List.range l.length).flatMap (fun i => F i l[i]?) :=
      flatMap_congr_mem fun i hi => by rw [List.getElem?_append_left (List.mem_range.mp hi)]
    rw [List.length_append, List.length_singleton, List.range_succ, List.flatMap_append, hold, ih, List.zipIdx_append,
      List.filter_append, List.map_append]
    congr 1
    simp only [List.flatMap_cons, List.flatMap_nil, List.append_nil, List.getElem?_concat_length, hF, List.zipIdx_singleton,
      Nat.zero_add]
    by_cases hp : p (a, l.length) = true <;> simp [hp]

/-- R12: the state before the blocks but the links drop what they built. -/
@[irreducible] def State.linksDisabled (s : State) : State :=
  (List.range Config.linkCount).foldl (fun s i => s.disableLink i)
    ((s.setLds { s.lds with service := .unconfigured, committed := false }).serviceReport s.lds.service .unconfigured)

theorem State.withdraw_eq_linksDisabled (s : State) : s.withdraw = s.linksDisabled.dropBuilt := by
  unfold State.linksDisabled
  rfl

theorem State.linksDisabled_fixed (s : State) :
    s.linksDisabled.fixed = (s.setLds { s.lds with service := .unconfigured, committed := false }).fixed := by
  unfold State.linksDisabled
  rw [foldl_fixed _ (fun s i => s.disableLink_fixed i), State.serviceReport_fixed]

theorem State.serviceReport_keeps (old new : ServiceState) (s : State) :
    ((s.serviceReport old new).agenda, (s.serviceReport old new).inc, (s.serviceReport old new).hpt.replies) =
      (s.agenda, s.inc, s.hpt.replies) := by
  simp [State.serviceReport]

theorem State.linksDisabled_keeps (s : State) :
    (s.linksDisabled.agenda, s.linksDisabled.inc, s.linksDisabled.hpt.replies) = (s.agenda, s.inc, s.hpt.replies) := by
  unfold State.linksDisabled
  rw [foldl_keeps (fun s => (s.agenda, s.inc, s.hpt.replies)) _ (fun s i => s.disableLink_keeps i)]
  exact State.serviceReport_keeps ..

theorem State.linksDisabled_links {s : State} (hl : s.links.length = Config.linkCount) (j : Nat) :
    s.linksDisabled.links[j]? = (s.links[j]?).map LinkRec.disabled := by
  have hrep : ((s.setLds { s.lds with service := .unconfigured, committed := false }).serviceReport s.lds.service
      .unconfigured).links = s.links := State.report_links ..
  unfold State.linksDisabled
  rw [foldl_links (fun s i j => State.disableLink_links s i j), hrep]
  split
  · rfl
  · next h =>
    rw [List.getElem?_eq_none (by omega)]
    rfl

/-- R11, R176: with SERVICE unmasked and room, a change of the service state is reported. -/
theorem State.serviceReport_reports (old new : ServiceState) {s : State} (hm : s.hpt.classMask.service = false)
    (hr : s.hpt.reports.length < 64) : (s.serviceReport old new).hpt.reports = s.hpt.reports ++
      [{ kind := .serviceState, time := s.clock.time, subject := none, detail1 := some old.code,
         detail2 := some new.code }] := by
  rw [State.serviceReport, State.report_joins .serviceState _ _ _ s hm hr]
  rfl

theorem State.linksDisabled_reports {s : State} (hl : s.links.length = Config.linkCount)
    (hserv : s.hpt.classMask.service = false) (hfield : s.hpt.classMask.field = false) (hr : s.hpt.reports.length ≤ 55)
    (ha : ∀ l ∈ s.links, l.state ≠ .disabled → l.asm = .hunting) :
    s.linksDisabled.hpt.reports = s.hpt.reports ++
      [{ kind := .serviceState, time := s.clock.time, subject := none, detail1 := some s.lds.service.code,
         detail2 := some 0 }] ++
      (s.links.zipIdx.filter (fun x => x.1.state != .disabled)).map (fun x =>
        { kind := .linkState, time := s.clock.time, subject := some (.link x.2), detail1 := some x.1.state.code,
          detail2 := some 0 }) := by
  have hall : ∀ u : State, u.links = s.links → u.clock = s.clock → u.hpt.classMask = s.hpt.classMask →
      u.hpt.reports.length = s.hpt.reports.length + 1 →
      ((List.range Config.linkCount).foldl (fun s i => s.disableLink i) u).hpt.reports = u.hpt.reports ++
        (s.links.zipIdx.filter (fun x => x.1.state != .disabled)).map (fun x =>
          { kind := .linkState, time := s.clock.time, subject := some (.link x.2), detail1 := some x.1.state.code,
            detail2 := some 0 }) := by
    intro u hlinks hclock hmask hlen
    have hroom : u.hpt.reports.length + Config.linkCount ≤ 64 := by
      simp only [hlen, Config.linkCount]
      omega
    rw [State.disableLinks_reports (by rw [hmask]; exact hfield) hroom (by rw [hlinks]; exact ha), ← hl, hlinks, hclock]
    congr 1
    refine flatMap_range_eq_zipIdx s.links _ _ (disabledReport s.clock.time) fun i l => ?_
    by_cases h : l.state = .disabled <;> simp [disabledReport, h]
  unfold State.linksDisabled
  have hfirst := State.serviceReport_reports s.lds.service .unconfigured
    (s := s.setLds { s.lds with service := .unconfigured, committed := false }) hserv (Nat.lt_of_le_of_lt hr (by decide))
  have hlinks : ((s.setLds { s.lds with service := .unconfigured, committed := false }).serviceReport s.lds.service
      .unconfigured).links = s.links := State.report_links ..
  have hclock : ((s.setLds { s.lds with service := .unconfigured, committed := false }).serviceReport s.lds.service
      .unconfigured).clock = s.clock := State.report_clock ..
  have hmask : ((s.setLds { s.lds with service := .unconfigured, committed := false }).serviceReport s.lds.service
      .unconfigured).hpt.classMask = s.hpt.classMask := State.report_hpt_classMask ..
  generalize (s.setLds { s.lds with service := .unconfigured, committed := false }).serviceReport s.lds.service
    .unconfigured = u at *
  rw [hall u hlinks hclock hmask (by rw [hfirst, List.length_append]; rfl), hfirst]
  rfl

/-- R1, R12: in CONFIGURED a table in range withdraws the description and is then answered. -/
theorem TableLoad.exec_configured {tag : Byte} {c : Instr} {f : Lds → Lds} {s : State} (h : TableLoad tag c f)
    (hd : ∀ kind d, frameOf c = some (kind, tag, d) → d.length ≤ 1020) (hs : s.ready) (hc : s.lds.service = .configured) :
    exec c s = .next ((s.framed.setLds { f s.lds with committed := false }).withdraw.latch.done tag []) := by
  obtain ⟨kind, d, hf, hb⟩ := h.dispatch
  rw [exec_ready hf (hd kind d hf) hs, hb s.framed (active_of_configured hc)]
  obtain ⟨-, he⟩ | ⟨hn, -⟩ := s.framed.alterStore_cases tag f
  · have hq : (s.framed.setLds { f s.framed.lds with committed := false }).withdraw.agenda = [] := by
      rw [State.withdraw_eq_linksDisabled]
      exact (Prod.mk.inj (State.linksDisabled_keeps _)).1.trans hs.1.1
    exact congrArg _ ((congrArg settle he).trans (settle_answer_latch tag [] _ hq))
  · exact absurd hc hn

theorem State.dropBuilt_links (s : State) : s.dropBuilt.links = s.links := rfl

theorem State.dropBuilt_hpt (s : State) : s.dropBuilt.hpt = s.hpt := rfl

/-- R12: what a withdrawal leaves. -/
theorem State.withdraw_leaves (s : State) :
    s.withdraw.lds = { s.lds with committed := false, service := .unconfigured } ∧
    s.withdraw.mirror = [] ∧ s.withdraw.window = Window.empty ∧ s.withdraw.reg = Register.empty ∧
    s.withdraw.rgl = Regulator.cleared s.rgl.beta s.rgl.threshold 0 ∧ s.withdraw.tsv = Supervisor.empty ∧
    s.withdraw.inc = IncidentMgr.cleared s.inc.next ∧ s.withdraw.anp = Publisher.cleared s.anp.staging ∧
    s.withdraw.clock = s.clock ∧ s.withdraw.hpt.replies = s.hpt.replies := by
  have hfix := s.linksDisabled_fixed
  have hkeep := s.linksDisabled_keeps
  have hw := working_of_fixed hfix
  simp only [State.working, Prod.mk.injEq] at hw hkeep
  obtain ⟨-, hinc, hreplies⟩ := hkeep
  rw [State.withdraw_eq_linksDisabled]
  refine ⟨(lds_of_fixed hfix).trans rfl, rfl, rfl, rfl, ?_, rfl, ?_, ?_, (clock_of_fixed hfix).trans rfl, hreplies⟩
  · simp only [State.dropBuilt, hw]
    rfl
  · simp only [State.dropBuilt, hinc]
  · exact congrArg Publisher.cleared (congrArg (·.2.2.2) (settings_of_fixed hfix))

/-! ### The ranges -/

theorem all_range_iff (n : Nat) (p : Nat → Bool) : (List.range n).all p = true ↔ ∀ j, j < n → p j = true := by
  simp

theorem stationsOk_iff (d : List Byte) : stationsOk (readStations d) = true ↔
    2 ≤ at8 d 0 ∧ at8 d 0 ≤ 32 ∧ ∀ j, j < at8 d 0 → at8 d (1 + 4 * j) ≤ 23 := by
  simp only [stationsOk, readStations, readStation, List.length_map, List.length_range, List.all_map, Bool.and_eq_true,
    inRange_iff, all_range_iff, Function.comp_apply, decide_eq_true_eq, Config.maxStations, Config.maxSections, and_assoc,
    Nat.lt_succ_iff (n := 23)]

theorem runsOk_iff (d : List Byte) : runsOk (readRuns d) = true ↔
    1 ≤ at8 d 0 ∧ at8 d 0 ≤ 31 ∧ ∀ j, j < at8 d 0 → at8 d (1 + 9 * j) ≤ 23 ∧
      ∀ x ∈ [at16 d (1 + 9 * j + 1), at16 d (1 + 9 * j + 3), at16 d (1 + 9 * j + 5), at16 d (1 + 9 * j + 7)],
        20 ≤ x ∧ x ≤ 900 := by
  simp only [runsOk, readRuns, readRun, List.length_map, List.length_range, List.all_map, Bool.and_eq_true, inRange_iff,
    all_range_iff, Function.comp_apply, decide_eq_true_eq, Config.maxSections, and_assoc, Nat.lt_succ_iff (n := 23),
    List.forall_mem_cons, List.not_mem_nil, false_imp_iff, implies_true, and_true]

theorem sectionOk_iff (d : List Byte) (i : Nat) : sectionOk d i = true ↔
    at8 d i ≤ 2 ∧ 1 ≤ at8 d (i + 3) ∧ at8 d (i + 3) ≤ 10 ∧ at8 d (i + 4) ≤ 3 ∧
      (at8 d (i + 5) = 0xFF ∨ at8 d (i + 6) ≤ 3) := by
  have hopt : (atOpt8 d (i + 5)).isNone = true ↔ at8 d (i + 5) = 0xFF := by
    unfold atOpt8
    split <;> simp_all
  simp only [sectionOk, Bool.and_eq_true, Bool.or_eq_true, inRange_iff, decide_eq_true_eq, hopt, and_assoc,
    Nat.lt_succ_iff (n := 3)]

theorem pairModeOf_isSome (n : Nat) : (pairModeOf n).isSome = true ↔ n ≤ 2 := by
  match n with
  | 0 | 1 | 2 => simp [pairModeOf]
  | n + 3 => simp [pairModeOf]

/-- A property of the rows, by their places. -/
theorem forall_places {n : Nat} {g : Nat → Nat} {P : Nat → Prop} :
    (∀ j, j < n → P (g j)) ↔ ∀ j i, j < n → i = g j → P i :=
  ⟨fun h j _ hj he => he ▸ h j hj, fun h j hj => h j _ hj rfl⟩

theorem sectionsOk_iff (d : List Byte) : sectionsOk d = true ↔
    1 ≤ at8 d 0 ∧ at8 d 0 ≤ 24 ∧
    (∀ j i, j < at8 d 0 → i = 1 + 7 * j → at8 d i ≤ 2 ∧ 1 ≤ at8 d (i + 3) ∧ at8 d (i + 3) ≤ 10 ∧ at8 d (i + 4) ≤ 3 ∧
      (at8 d (i + 5) = 0xFF ∨ at8 d (i + 6) ≤ 3)) ∧
    (∀ m, m < (at8 d 0 + 1) / 2 → at8 d (1 + 7 * at8 d 0 + 2 * m + 1) ≤ 2) := by
  rw [← forall_places (g := fun j => 1 + 7 * j) (P := fun i => at8 d i ≤ 2 ∧ 1 ≤ at8 d (i + 3) ∧ at8 d (i + 3) ≤ 10 ∧
    at8 d (i + 4) ≤ 3 ∧ (at8 d (i + 5) = 0xFF ∨ at8 d (i + 6) ≤ 3))]
  simp only [sectionsOk, pairCount, Bool.and_eq_true, inRange_iff, all_range_iff, sectionOk_iff, pairModeOf_isSome,
    Config.maxSections, and_assoc]

theorem substationsOk_iff (d : List Byte) : substationsOk d = true ↔
    1 ≤ at8 d 0 ∧ at8 d 0 ≤ 12 ∧ ∀ j i, j < at8 d 0 → i = 1 + 12 * j →
      10 ≤ at16 d i ∧ at16 d i ≤ 400 ∧ 1 ≤ at8 d (i + 3) ∧ at8 d (i + 3) ≤ 8 := by
  rw [← forall_places (g := fun j => 1 + 12 * j) (P := fun i => 10 ≤ at16 d i ∧ at16 d i ≤ 400 ∧ 1 ≤ at8 d (i + 3) ∧
    at8 d (i + 3) ≤ 8)]
  simp only [substationsOk, Bool.and_eq_true, inRange_iff, all_range_iff, Config.maxSubstations, and_assoc]

theorem elementOk_iff (d : List Byte) (i : Nat) : elementOk d i = true ↔
    at8 d i ≤ 4 ∧ (at8 d i ≠ 0 → at8 d (i + 1) ≤ 7 ∧ 1 ≤ at8 d (i + 2) ∧ at8 d (i + 2) ≤ 254) := by
  unfold elementOk
  generalize at8 d i = n
  match n with
  | 0 => simp [elemKindOf]
  | 1 | 2 | 3 | 4 => simp [elemKindOf, inRange_iff, Config.linkCount, Nat.lt_succ_iff (n := 7)]
  | n + 5 => simp [elemKindOf]

theorem elementsOk_iff (d : List Byte) : elementsOk d = true ↔
    1 ≤ at16 d 0 ∧ at16 d 0 ≤ 256 ∧ ∀ j i, j < at16 d 0 → i = 2 + 3 * j →
      at8 d i ≤ 4 ∧ (at8 d i ≠ 0 → at8 d (i + 1) ≤ 7 ∧ 1 ≤ at8 d (i + 2) ∧ at8 d (i + 2) ≤ 254) := by
  rw [← forall_places (g := fun j => 2 + 3 * j) (P := fun i => at8 d i ≤ 4 ∧ (at8 d i ≠ 0 → at8 d (i + 1) ≤ 7 ∧
    1 ≤ at8 d (i + 2) ∧ at8 d (i + 2) ≤ 254))]
  simp only [elementsOk, Bool.and_eq_true, inRange_iff, all_range_iff, elementOk_iff, Config.maxElements, and_assoc]

theorem linkOk_iff (d : List Byte) (i : Nat) : linkOk d i = true ↔
    at8 d i ≤ 1 ∧ (at8 d i = 1 → at8 d (i + 1) ≤ 4 ∧ 100 ≤ at16 d (i + 2) ∧ at16 d (i + 2) ≤ 2000 ∧
      at8 d (i + 4) ∈ [4, 8, 12, 14]) := by
  unfold linkOk
  generalize at8 d i = n
  match n with
  | 0 => simp
  | 1 => simp [inRange_iff, and_assoc]
  | n + 2 => simp

theorem linksOk_iff (d : List Byte) : linksOk d = true ↔
    ∀ j i, j < 8 → i = 5 * j → at8 d i ≤ 1 ∧ (at8 d i = 1 → at8 d (i + 1) ≤ 4 ∧ 100 ≤ at16 d (i + 2) ∧
      at16 d (i + 2) ≤ 2000 ∧ at8 d (i + 4) ∈ [4, 8, 12, 14]) := by
  rw [← forall_places (g := fun j => 5 * j) (P := fun i => at8 d i ≤ 1 ∧ (at8 d i = 1 → at8 d (i + 1) ≤ 4 ∧
    100 ≤ at16 d (i + 2) ∧ at16 d (i + 2) ≤ 2000 ∧ at8 d (i + 4) ∈ [4, 8, 12, 14]))]
  simp only [linksOk, all_range_iff, linkOk_iff, Config.linkCount]

theorem zonesOk_iff (z : List (List Nat)) : zonesOk z = true ↔
    1 ≤ z.length ∧ z.length ≤ 8 ∧ ∀ l ∈ z, l.length ≤ 32 ∧ ∀ i ∈ l, i ≤ 31 := by
  simp only [zonesOk, Bool.and_eq_true, inRange_iff, List.all_eq_true, decide_eq_true_eq, Config.maxZones,
    Config.maxStations, and_assoc, Nat.lt_succ_iff (n := 31)]

/-- R10: four loads, none above the one before it, the first within its range. -/
theorem runLoad_iff (a b c e : Nat) :
    ([a, b, c, e].all (fun x => decide (x ≤ 40)) = true ∧ notRising [a, b, c, e] = true) ↔
      a ≤ 40 ∧ b ≤ a ∧ c ≤ b ∧ e ≤ c := by
  simp only [List.all_cons, List.all_nil, notRising, Bool.and_eq_true, decide_eq_true_eq, Bool.and_true]
  omega

theorem params_ok_iff (p : Params) (a b c e : Nat) (h : p.runLoad = [a, b, c, e]) : p.ok = true ↔
    (10 ≤ p.wMin ∧ p.wMin ≤ 60 ∧ 30 ≤ p.wMax ∧ p.wMax ≤ 300 ∧ p.wMin ≤ p.wMax ∧ p.wMin ≤ p.wDefault ∧
      p.wDefault ≤ p.wMax ∧ p.beta ≤ 8 ∧ 60 ≤ p.hNom ∧ p.hNom ≤ 900 ∧ 60 ≤ p.threshold ∧ p.threshold ≤ 900 ∧
      1 ≤ p.stopsAhead ∧ p.stopsAhead ≤ 4 ∧ 1 ≤ p.delayText ∧ p.delayText ≤ 1023 ∧ 5 ≤ p.startWindow ∧
      p.startWindow ≤ 60 ∧ 5 ≤ p.startLoad ∧ p.startLoad ≤ 60 ∧ a ≤ 40 ∧ b ≤ a ∧ c ≤ b ∧ e ≤ c ∧ p.auxLoad ≤ 10 ∧
      30 ≤ p.permitWait ∧ p.permitWait ≤ 600 ∧ 300 ≤ p.stale ∧ p.stale ≤ 3600 ∧ 600 ≤ p.nominal ∧ p.nominal ≤ 1500 ∧
      1 ≤ p.breakerExec ∧ p.breakerExec ≤ 20 ∧ 1 ≤ p.platformExec ∧ p.platformExec ≤ 5 ∧ 1 ≤ p.displayExec ∧
      p.displayExec ≤ 30 ∧ ∀ x ∈ p.autoTexts, x ≤ 1023) := by
  have hload := runLoad_iff a b c e
  rw [← h] at hload
  simp only [Params.ok, Bool.and_eq_true, inRange_iff, decide_eq_true_eq, List.all_eq_true (l := p.autoTexts)]
  simp only [and_assoc]
  constructor
  · rintro ⟨h1, h2, h3, h4, h5, h6, h7, h8, h9, h10, h11, h12, h13, h14, h15, h16, h17, h18, h19, h20, hl, hr, hrest⟩
    obtain ⟨ha, hb, hc, he⟩ := hload.mp ⟨hl, hr⟩
    exact ⟨h1, h2, h3, h4, h5, h6, h7, h8, h9, h10, h11, h12, h13, h14, h15, h16, h17, h18, h19, h20, ha, hb, hc, he, hrest⟩
  · rintro ⟨h1, h2, h3, h4, h5, h6, h7, h8, h9, h10, h11, h12, h13, h14, h15, h16, h17, h18, h19, h20, ha, hb, hc, he, hrest⟩
    obtain ⟨hl, hr⟩ := hload.mpr ⟨ha, hb, hc, he⟩
    exact ⟨h1, h2, h3, h4, h5, h6, h7, h8, h9, h10, h11, h12, h13, h14, h15, h16, h17, h18, h19, h20, hl, hr, hrest⟩

/-- R2: the checks on a table message with a value out of range. -/
theorem exec_tableBadValue {tag : Byte} {kind : Byte} {c : Instr} {d : List Byte} {s : State}
    (hf : frameOf c = some (kind, tag, d)) (hd : d.length ≤ 1020) (hs : s.ready)
    (hu : s.lds.service = .unconfigured ∨ s.lds.service = .configured)
    (hb : ∃ (f : Lds → Lds) (l : Bool), l = true ∧
      dispatch kind tag d s.framed = s.framed.tableMessage tag l false f) :
    exec c s = .next (s.framed.reply { refused := true, tag := tag, data := [0x04#8] }) := by
  obtain ⟨f, l, hl, hb⟩ := hb
  have ha : s.framed.lds.service.active = false := hu.elim active_of_unconfigured active_of_configured
  exact exec_refuse (code := .badValue) hf hd hs (hb.trans (State.tableMessage_badValue hl ha rfl))

/-- R12: what the table message that withdraws the description leaves. -/
theorem withdrawn_leaves {tag : Byte} {l m : Lds} {s : State} (hl : s.linksBounded)
    (hc : s.lds.service = .configured)
    (hm : ({ m with committed := false, service := .unconfigured } : Lds) =
      { l with committed := false, service := .unconfigured }) :
    ∀ t, t = (s.framed.setLds { m with committed := false }).withdraw.latch.done tag [] →
      m.service = s.lds.service →
      t.lds = { l with committed := false, service := .unconfigured } ∧
       t.mirror = [] ∧ t.window = Window.empty ∧ t.reg = Register.empty ∧
       t.rgl = Regulator.cleared s.rgl.beta s.rgl.threshold 0 ∧ t.tsv = Supervisor.empty ∧
       t.inc = IncidentMgr.cleared s.inc.next ∧ t.anp = Publisher.cleared s.anp.staging ∧ t.clock = s.clock ∧
       t.hpt.replies = s.hpt.replies ++ [{ refused := false, tag := tag, data := [] }] ∧
       (∀ (i : Nat) (x : LinkRec), s.links[i]? = some x →
         t.links[i]? = some (if x.state = .disabled then x else LinkRec.reset x.carrier)) ∧
       (s.hpt.classMask.service = false → s.hpt.classMask.field = false → s.hpt.reports.length ≤ 55 →
         (∀ x ∈ s.links, x.state ≠ .disabled → x.asm = .hunting) →
         t.hpt.reports = s.hpt.reports ++
           [{ kind := .serviceState, time := s.clock.time, subject := none, detail1 := some 1, detail2 := some 0 }] ++
           (s.links.zipIdx.filter (fun x => x.1.state != .disabled)).map (fun x =>
             { kind := .linkState, time := s.clock.time, subject := some (.link x.2), detail1 := some x.1.state.code,
               detail2 := some 0 })) := by
  rintro t rfl hms
  generalize hu : s.framed.setLds { m with committed := false } = u
  have hlinks : u.links = s.links := by rw [← hu]; rfl
  obtain ⟨hlds, hmirror, hwindow, hreg, hrgl, htsv, hinc, hanp, hclock, hreplies⟩ := u.withdraw_leaves
  have hdisabled := State.linksDisabled_links (s := u) (by rw [hlinks]; exact hl.1)
  have hreports := State.linksDisabled_reports (s := u) (by rw [hlinks]; exact hl.1)
  have hwlinks : ∀ i, u.withdraw.links[i]? = (s.links[i]?).map LinkRec.disabled := fun i => by
    rw [State.withdraw_eq_linksDisabled, State.dropBuilt_links, hdisabled, hlinks]
  have hwreports := congrArg State.hpt u.withdraw_eq_linksDisabled
  rw [State.dropBuilt_hpt] at hwreports
  rw [← hwreports] at hreports
  generalize u.withdraw = w at *
  subst hu
  refine ⟨hm ▸ hlds, hmirror, hwindow, hreg, hrgl, htsv, hinc, hanp, hclock, ?_, fun i x hx => ?_, fun h1 h2 h3 h4 => ?_⟩
  · exact congrArg (· ++ [_]) hreplies
  · exact (hwlinks i).trans (by rw [hx]; rfl)
  · refine (hreports h1 h2 h3 h4).trans ?_
    have hcode : m.service.code = 1 := by rw [hms, hc]; rfl
    have hmk : ∀ n, m.service.code = n → (s.framed.setLds { m with committed := false }).lds.service.code = n :=
      fun _ h => h
    rw [hmk 1 hcode]
    rfl

/-- Settles O22: a table in range alters the store, and withdraws what stands on it; the ranges are read off the checks. -/
theorem tablesLoadAndWithdraw : Obligations.TablesLoadAndWithdraw := by
  refine ⟨fun tag d s hs hu hd => ?_, fun tag d c l s hs hl hc hd h => ?_, fun tag d c s hs hu hd h => ?_,
    stationsOk_iff, runsOk_iff, sectionsOk_iff, substationsOk_iff, elementsOk_iff, linksOk_iff, zonesOk_iff, params_ok_iff⟩
  · have loads : ∀ {c : Instr} {f : Lds → Lds}, TableLoad tag c f →
        (∀ kind e, frameOf c = some (kind, tag, e) → e.length ≤ 1020) →
        exec c s = .next ((s.framed.setLds { f s.lds with committed := false }).done tag []) :=
      fun h hd => h.exec_unconfigured hd hs hu
    refine ⟨?_, fun h hv => loads (.stations h hv) ?_, fun h hv => loads (.runs h hv) ?_,
      fun h hv => loads (.sections h hv) ?_, fun h hv => loads (.substations h hv) ?_,
      fun h hv => loads (.elements h hv) ?_, fun h hv => loads (.links h hv) ?_, fun z h hv => loads (.zones h hv) ?_,
      fun h hv => loads (.params h hv) ?_⟩
    · have h := loads .begin (fun _ _ hf => by cases hf; exact Nat.zero_le _)
      simp only [hu] at h
      exact h
    all_goals
      intro kind e hf
      cases hf
      exact hd
  · obtain ⟨f, hload, hserv, hf⟩ : ∃ f, TableLoad tag c f ∧ (f s.lds).service = s.lds.service ∧
        ({ f s.lds with committed := false, service := .unconfigured } : Lds) =
          { l with committed := false, service := .unconfigured } := by
      rcases h with ⟨rfl, rfl⟩ | ⟨rfl, h, hv, rfl⟩ | ⟨rfl, h, hv, rfl⟩ | ⟨rfl, h, hv, rfl⟩ | ⟨rfl, h, hv, rfl⟩ |
        ⟨rfl, h, hv, rfl⟩ | ⟨rfl, h, hv, rfl⟩ | ⟨rfl, z, h, hv, rfl⟩ | ⟨rfl, h, hv, rfl⟩
      · exact ⟨_, .begin, rfl, rfl⟩
      · exact ⟨_, .stations h hv, rfl, rfl⟩
      · exact ⟨_, .runs h hv, rfl, rfl⟩
      · exact ⟨_, .sections h hv, rfl, rfl⟩
      · exact ⟨_, .substations h hv, rfl, rfl⟩
      · exact ⟨_, .elements h hv, rfl, rfl⟩
      · exact ⟨_, .links h hv, rfl, rfl⟩
      · exact ⟨_, .zones h hv, rfl, rfl⟩
      · exact ⟨_, .params h hv, rfl, rfl⟩
    have hlen : ∀ kind e, frameOf c = some (kind, tag, e) → e.length ≤ 1020 := by
      intro kind e he
      rcases h with ⟨rfl, -⟩ | ⟨rfl, -⟩ | ⟨rfl, -⟩ | ⟨rfl, -⟩ | ⟨rfl, -⟩ | ⟨rfl, -⟩ | ⟨rfl, -⟩ | ⟨rfl, -⟩ | ⟨rfl, -⟩
      · cases he; exact Nat.zero_le _
      all_goals cases he; exact hd
    refine ⟨_, hload.exec_configured hlen hs hc, withdrawn_leaves hl hc hf _ rfl hserv⟩
  · rcases h with ⟨rfl, h, hv⟩ | ⟨rfl, h, hv⟩ | ⟨rfl, h, hv⟩ | ⟨rfl, h, hv⟩ | ⟨rfl, h, hv⟩ | ⟨rfl, h, hv⟩ |
      ⟨rfl, z, h, hv⟩ | ⟨rfl, h, hv⟩
    · exact exec_tableBadValue rfl hd hs hu ⟨_, _, countedLength h, by rw [← hv]; rfl⟩
    · exact exec_tableBadValue rfl hd hs hu ⟨_, _, countedLength h, by rw [← hv]; rfl⟩
    · refine exec_tableBadValue rfl hd hs hu ⟨_, _, ?_, by rw [← hv]; rfl⟩
      rw [Nat.add_assoc] at h ⊢
      exact countedLength h
    · exact exec_tableBadValue rfl hd hs hu ⟨_, _, countedLength h, by rw [← hv]; rfl⟩
    · refine exec_tableBadValue rfl hd hs hu ⟨_, _, ?_, by rw [← hv]; rfl⟩
      rw [Bool.and_eq_true, decide_eq_true_iff, beq_iff_eq]
      omega
    · exact exec_tableBadValue rfl hd hs hu ⟨_, _, beq_iff_eq.mpr h, by rw [← hv]; rfl⟩
    · refine exec_tableBadValue rfl hd hs hu ⟨fun l => { l with zones := some z }, true, rfl, ?_⟩
      rw [← hv]
      show reqLdZones tag d s.framed = _
      rw [reqLdZones, h]
    · exact exec_tableBadValue rfl hd hs hu ⟨_, _, beq_iff_eq.mpr h, by rw [← hv]; rfl⟩

end Sys2Proof.Machine
end

section
/-! SUPPORT. The timetable window's requests (O27, O28), TRAIN_ASSIGN (O30) and REG_SET (O32). -/
namespace Sys2Proof.Machine

/-! ### Notices that bring about no others -/

/-- Every notice of a list, taken in turn, leaves the unit settled. -/
def State.settledThrough : List Notice → State → Prop
  | [], s => s.settled
  | n :: ns, s => s.settled ∧ State.settledThrough ns (handle n s)

theorem State.settledThrough.settled {ns : List Notice} {s : State} (h : s.settledThrough ns) : s.settled := by
  cases ns with
  | nil => exact h
  | cons n ns => exact h.1

/-- Such a list runs out notice by notice. -/
theorem State.settledThrough.run {ns : List Notice} {s : State} (h : s.settledThrough ns) (k : Nat) :
    (s.posts ns).run (k + ns.length) = ns.foldl (fun t n => handle n t) s := by
  have hq : s.agenda = [] := h.settled.1
  induction ns generalizing s with
  | nil =>
    have ha : (s.posts []).agenda = [] := by simp [hq]
    rw [State.run_quiet _ _ ha]
    simp [State.posts]
  | cons n ns ih =>
    obtain ⟨-, hn⟩ := h
    have ha : (s.posts (n :: ns)).agenda = n :: ns := by simp [hq]
    have he : (s.posts (n :: ns)).setAgenda [] = s := by
      simp only [State.posts, State.setAgenda]
      rw [← hq]
    have ht : (s.posts (n :: ns)).takeNotice n ns = (handle n s).posts ns := by
      rw [State.takeNotice, he, State.latch_current _ hn.settled.2]
      rfl
    rw [List.length_cons, ← Nat.add_assoc, State.run_cons _ _ _ _ ha, ht, ih hn hn.settled.1, List.foldl_cons]

theorem State.settledThrough.last {ns : List Notice} {s : State} (h : s.settledThrough ns) :
    (ns.foldl (fun t n => handle n t) s).settled := by
  induction ns generalizing s with
  | nil => exact h
  | cons n ns ih => exact ih h.2

theorem settle_posts_through {ns : List Notice} {s : State} (h : s.settledThrough ns) (hlen : ns.length ≤ 100000) :
    settle (s.posts ns) = ns.foldl (fun t n => handle n t) s := by
  have hl : (s.posts ns).latch = s.posts ns := State.latch_current _ h.settled.2
  have hk : Config.cascadeBound = (100000 - ns.length) + ns.length := (Nat.sub_add_cancel hlen).symm
  have hq : (ns.foldl (fun t n => handle n t) s).agenda = [] := h.last.1
  unfold settle
  rw [hl, hk, h.run]
  simp only [State.setAgenda]
  rw [← hq]

/-- A notice that leaves a settled unit settled runs out in one step. -/
theorem settle_post_settled {n : Notice} {s : State} (hs : s.settled) (hn : (handle n s).settled) :
    settle (s.post n) = handle n s :=
  settle_posts_through (ns := [n]) ⟨hs, hn⟩ (by simp)

/-- What a fold of operations keeps. -/
theorem foldl_preserves {α : Type} {P : State → Prop} {f : State → α → State} (h : ∀ s a, P s → P (f s a)) (l : List α)
    {s : State} (hs : P s) : P (l.foldl f s) := by
  induction l generalizing s with
  | nil => exact hs
  | cons a l ih => exact ih (h s a hs)

theorem expire_settled {s : State} (h : s.settled) : (expire s).settled :=
  foldl_preserves (fun _ _ hs => hs.report _ _ _ _) _ h

/-- R71: a request followed by the leaving of expired entries. -/
theorem exec_expires {c : Instr} {kind tag : Byte} {d : List Byte} {s t : State} (hf : frameOf c = some (kind, tag, d))
    (hd : d.length ≤ 1020) (hs : s.ready) (hb : dispatch kind tag d s.framed = t.post .expire) (ht : t.settled) :
    exec c s = .next (expire t) := by
  rw [exec_ready hf hd hs, hb]
  exact congrArg _ (settle_post_settled ht (expire_settled ht))

/-! ### The checks of TT_APPEND (R62) -/

/-- Entry `i` of a message stands in a relation to an earlier one of `seen` and the message, or to one of the window. -/
def clashAt (q : TtEntry → TtEntry → Prop) (window seen es : List TtEntry) (i : Nat) : Prop :=
  ∃ e, es[i]? = some e ∧ ((∃ x ∈ seen ++ es.take i, q e x) ∨ ∃ x ∈ window, q e x)

section
variable {clash : TtEntry → TtEntry → Bool} {q : TtEntry → TtEntry → Prop} {window seen es : List TtEntry} {e : TtEntry}
  {i k m : Nat}

theorem clashAt_zero : clashAt q window seen (e :: es) 0 ↔ (∃ x ∈ seen, q e x) ∨ ∃ x ∈ window, q e x := by
  simp [clashAt]

theorem clashAt_succ : clashAt q window seen (e :: es) (i + 1) ↔ clashAt q window (seen ++ [e]) es i := by
  simp [clashAt]

theorem firstClash_head (hq : ∀ e x, clash e x = true ↔ q e x) :
    (seen.any (clash e) || window.any (clash e)) = true ↔ clashAt q window seen (e :: es) 0 := by
  simp only [clashAt_zero, Bool.or_eq_true, List.any_eq_true, hq]

theorem firstClash_eq_some (hq : ∀ e x, clash e x = true ↔ q e x) : firstClash clash window seen es k = some m ↔
    ∃ i, m = k + i ∧ clashAt q window seen es i ∧ ∀ j, j < i → ¬ clashAt q window seen es j := by
  induction es generalizing seen k with
  | nil => simp [firstClash, clashAt]
  | cons e es ih =>
    by_cases hc : clashAt q window seen (e :: es) 0
    · rw [firstClash, if_pos ((firstClash_head hq).mpr hc)]
      constructor
      · rintro ⟨⟩
        exact ⟨0, rfl, hc, fun j hj => absurd hj (Nat.not_lt_zero j)⟩
      · rintro ⟨i, rfl, -, hfirst⟩
        cases i with
        | zero => rfl
        | succ i => exact absurd hc (hfirst 0 (Nat.succ_pos i))
    · rw [firstClash, if_neg (fun h => hc ((firstClash_head hq).mp h)), ih]
      constructor
      · rintro ⟨i, rfl, hi, hfirst⟩
        refine ⟨i + 1, by omega, clashAt_succ.mpr hi, fun j hj => ?_⟩
        cases j with
        | zero => exact hc
        | succ j => exact fun h => hfirst j (by omega) (clashAt_succ.mp h)
      · rintro ⟨i, rfl, hi, hfirst⟩
        cases i with
        | zero => exact absurd hi hc
        | succ i => exact ⟨i, by omega, clashAt_succ.mp hi, fun j hj h => hfirst (j + 1) (by omega) (clashAt_succ.mpr h)⟩

theorem firstClash_eq_none (hq : ∀ e x, clash e x = true ↔ q e x) : firstClash clash window seen es k = none ↔
    ∀ i, ¬ clashAt q window seen es i := by
  induction es generalizing seen k with
  | nil => simp [firstClash, clashAt]
  | cons e es ih =>
    by_cases hc : clashAt q window seen (e :: es) 0
    · rw [firstClash, if_pos ((firstClash_head hq).mpr hc)]
      exact ⟨nofun, fun h => absurd hc (h 0)⟩
    · rw [firstClash, if_neg (fun h => hc ((firstClash_head hq).mp h)), ih]
      refine ⟨fun h i => ?_, fun h i hi => h (i + 1) (clashAt_succ.mpr hi)⟩
      cases i with
      | zero => exact hc
      | succ i => exact fun hi => h i (clashAt_succ.mp hi)

/-- The relation to the entries before it, by their places. -/
theorem clashAt_iff : clashAt q window [] es i ↔ ∃ e, es[i]? = some e ∧
    ((∃ j x, j < i ∧ es[j]? = some x ∧ q e x) ∨ ∃ x ∈ window, q e x) := by
  have hmem : ∀ e, (∃ x ∈ [] ++ es.take i, q e x) ↔ ∃ j x, j < i ∧ es[j]? = some x ∧ q e x := by
    intro e
    simp only [List.nil_append, List.mem_iff_getElem?, List.getElem?_take]
    constructor
    · rintro ⟨x, ⟨j, hj⟩, h⟩
      split at hj
      · next hlt => exact ⟨j, x, hlt, hj, h⟩
      · cases hj
    · rintro ⟨j, x, hlt, hj, h⟩
      exact ⟨x, ⟨j, (if_pos hlt).trans hj⟩, h⟩
  simp only [clashAt, hmem]

end

section
variable {s : State} {es : List TtEntry} {i : Nat}

/-- R62: the trip and the stop of entry `i` are taken already. -/
def State.duplicateAt (s : State) (es : List TtEntry) : Nat → Prop :=
  clashAt (fun e x => e.trip = x.trip ∧ e.stop = x.stop) s.window.entries [] es

/-- R62: the stop and the P of entry `i` are taken already. -/
def State.timeClashAt (s : State) (es : List TtEntry) : Nat → Prop :=
  clashAt (fun e x => e.stop = x.stop ∧ e.p = x.p) s.window.entries [] es

theorem State.appendCheck_cases (s : State) (es : List TtEntry) :
    (∃ i, s.appendCheck es = some (.duplicate (some i)) ∧ s.duplicateAt es i ∧ ∀ j, j < i → ¬ s.duplicateAt es j) ∨
    (∃ i, s.appendCheck es = some (.timeClash (some i)) ∧ (∀ j, ¬ s.duplicateAt es j) ∧ s.timeClashAt es i ∧
      ∀ j, j < i → ¬ s.timeClashAt es j) ∨
    (s.appendCheck es = some (.tableFull (some s.freeEntries)) ∧ (∀ j, ¬ s.duplicateAt es j) ∧
      (∀ j, ¬ s.timeClashAt es j) ∧ s.freeEntries < es.length) ∨
    (s.appendCheck es = none ∧ (∀ j, ¬ s.duplicateAt es j) ∧ (∀ j, ¬ s.timeClashAt es j) ∧
      es.length ≤ s.freeEntries) := by
  unfold State.appendCheck
  cases hd : firstClash sameTripStop s.window.entries [] es 0 with
  | some p =>
    obtain ⟨i, hp, hi, hfirst⟩ := (firstClash_eq_some sameTripStop_iff).mp hd
    rw [Nat.zero_add] at hp
    subst hp
    exact .inl ⟨p, rfl, hi, hfirst⟩
  | none =>
    have hnd := (firstClash_eq_none sameTripStop_iff).mp hd
    cases ht : firstClash sameStopTime s.window.entries [] es 0 with
    | some p =>
      obtain ⟨i, hp, hi, hfirst⟩ := (firstClash_eq_some sameStopTime_iff).mp ht
      rw [Nat.zero_add] at hp
      subst hp
      exact .inr (.inl ⟨p, rfl, hnd, hi, hfirst⟩)
    | none =>
      have hnt := (firstClash_eq_none sameStopTime_iff).mp ht
      by_cases hf : s.freeEntries < es.length
      · exact .inr (.inr (.inl ⟨if_pos hf, hnd, hnt, hf⟩))
      · exact .inr (.inr (.inr ⟨if_neg hf, hnd, hnt, Nat.not_lt.mp hf⟩))

/-- Two places that are each the first of their kind are one. -/
theorem first_unique {P : Nat → Prop} {i j : Nat} (hi : P i) (hfi : ∀ k, k < i → ¬ P k) (hj : P j)
    (hfj : ∀ k, k < j → ¬ P k) : i = j := by
  rcases Nat.lt_trichotomy i j with h | h | h
  · exact absurd hi (hfj i h)
  · exact h
  · exact absurd hj (hfi j h)

theorem State.appendCheck_duplicate_iff : s.appendCheck es = some (.duplicate (some i)) ↔
    s.duplicateAt es i ∧ ∀ j, j < i → ¬ s.duplicateAt es j := by
  rcases s.appendCheck_cases es with ⟨k, he, hk, hfirst⟩ | ⟨k, he, hnd, -⟩ | ⟨he, hnd, -⟩ | ⟨he, hnd, -⟩
  · rw [he]
    constructor
    · rintro ⟨⟩
      exact ⟨hk, hfirst⟩
    · rintro ⟨hi, hfi⟩
      rw [first_unique hi hfi hk hfirst]
  all_goals
    rw [he]
    exact ⟨nofun, fun h => absurd h.1 (hnd i)⟩

theorem State.appendCheck_timeClash_iff : s.appendCheck es = some (.timeClash (some i)) ↔
    (∀ j, ¬ s.duplicateAt es j) ∧ s.timeClashAt es i ∧ ∀ j, j < i → ¬ s.timeClashAt es j := by
  rcases s.appendCheck_cases es with ⟨k, he, hk, -⟩ | ⟨k, he, hnd, hk, hfirst⟩ | ⟨he, -, hnt, -⟩ | ⟨he, -, hnt, -⟩
  · rw [he]
    exact ⟨nofun, fun h => absurd hk (h.1 k)⟩
  · rw [he]
    constructor
    · rintro ⟨⟩
      exact ⟨hnd, hk, hfirst⟩
    · rintro ⟨-, hi, hfi⟩
      rw [first_unique hi hfi hk hfirst]
  all_goals
    rw [he]
    exact ⟨nofun, fun h => absurd h.2.1 (hnt i)⟩

theorem State.appendCheck_tableFull_iff : s.appendCheck es = some (.tableFull (some i)) ↔
    (∀ j, ¬ s.duplicateAt es j) ∧ (∀ j, ¬ s.timeClashAt es j) ∧ i = s.freeEntries ∧ i < es.length := by
  rcases s.appendCheck_cases es with ⟨k, he, hk, -⟩ | ⟨k, he, -, hk, -⟩ | ⟨he, hnd, hnt, hf⟩ | ⟨he, -, -, hf⟩
  · rw [he]
    exact ⟨nofun, fun h => absurd hk (h.1 k)⟩
  · rw [he]
    exact ⟨nofun, fun h => absurd hk (h.2.1 k)⟩
  · rw [he]
    constructor
    · rintro ⟨⟩
      exact ⟨hnd, hnt, rfl, hf⟩
    · rintro ⟨-, -, rfl, -⟩
      rfl
  · rw [he]
    exact ⟨nofun, fun h => by omega⟩

theorem State.appendCheck_none_iff : s.appendCheck es = none ↔
    (∀ j, ¬ s.duplicateAt es j) ∧ (∀ j, ¬ s.timeClashAt es j) ∧ es.length ≤ s.freeEntries := by
  rcases s.appendCheck_cases es with ⟨k, he, hk, -⟩ | ⟨k, he, -, hk, -⟩ | ⟨he, -, -, hf⟩ | ⟨he, hnd, hnt, hf⟩
  · rw [he]
    exact ⟨nofun, fun h => absurd hk (h.1 k)⟩
  · rw [he]
    exact ⟨nofun, fun h => absurd hk (h.2.1 k)⟩
  · rw [he]
    exact ⟨nofun, fun h => by omega⟩
  · exact ⟨fun _ => ⟨hnd, hnt, hf⟩, fun _ => he⟩

/-- R59: the ranges of an entry. -/
theorem State.entryOk_iff (s : State) (e : TtEntry) : s.entryOk e = true ↔
    1 ≤ e.trip ∧ e.trip ≤ 9999 ∧ e.stop < 2 * s.stations.length ∧ e.p ≤ 107999 ∧ 5 ≤ e.w ∧ e.w ≤ 300 ∧
    ∀ r ∈ e.rp, 20 ≤ r ∧ r ≤ 900 ∧ s.leavingRun e.stop ≠ none := by
  obtain ⟨trip, stop, p, w, rp, bound⟩ := e
  cases rp with
  | none =>
    simp only [State.entryOk, entryInRange, Bool.and_eq_true, decide_eq_true_eq, inRange_iff, and_assoc, Option.mem_def,
      reduceCtorEq, false_imp_iff, implies_true]
    rfl
  | some r =>
    simp only [State.entryOk, entryInRange, Bool.and_eq_true, decide_eq_true_eq, inRange_iff, and_assoc, Option.mem_def,
      Option.some.injEq, forall_eq', Option.isSome_iff_ne_none]
    rfl

theorem mem_insertAll {e : TtEntry} {es window : List TtEntry} : e ∈ insertAll es window ↔ e ∈ es ∨ e ∈ window := by
  induction es generalizing window with
  | nil => simp [insertAll]
  | cons x es ih =>
    have h := ih (window := insertEntry x window)
    simp only [insertAll, List.foldl_cons] at h ⊢
    rw [h, mem_insertEntry, List.mem_cons, or_left_comm, or_assoc]

end

/-! ### TT_APPEND and TT_AMEND -/

theorem readEntries_length (d : List Byte) : (readEntries d).length = at8 d 0 := by simp [readEntries]

section
variable {tag : Byte} {d : List Byte} {s : State}

theorem reqTtAppend_badValue (hu : s.lds.service ≠ .unconfigured) (hd : d.length = 1 + 10 * at8 d 0)
    (h : (!inRange 1 16 (at8 d 0) || !(readEntries d).all s.entryOk) = true) :
    reqTtAppend tag d s = s.refuse tag .badValue := by
  simp only [reqTtAppend]
  rw [if_neg (by omega), if_neg hu, if_pos h]

theorem reqTtAppend_checked (hu : s.lds.service ≠ .unconfigured) (hd : d.length = 1 + 10 * at8 d 0) (h1 : 1 ≤ at8 d 0)
    (h16 : at8 d 0 ≤ 16) (hok : ∀ e ∈ readEntries d, s.entryOk e = true) :
    reqTtAppend tag d s =
      (s.appendCheck (readEntries d)).elim (s.append tag (readEntries d)) (fun c => s.refuse tag c) := by
  have h : (!inRange 1 16 (at8 d 0) || !(readEntries d).all s.entryOk) = false := by
    rw [(inRange_iff ..).mpr ⟨h1, h16⟩, List.all_eq_true.mpr hok]
    rfl
  simp only [reqTtAppend]
  rw [if_neg (by omega), if_neg hu, h, if_neg Bool.false_ne_true]
  cases s.appendCheck (readEntries d) <;> rfl

theorem reqTtAmend_ok (hu : s.lds.service ≠ .unconfigured) (hd : d.length = 10) (hok : s.entryOk (readEntry d 0) = true) :
    reqTtAmend tag d s = (s.ttLookup (at16 d 0) (at8 d 2)).elim (s.refuse tag .notFound) (fun old =>
      if old.bound.isSome then s.refuse tag .busy
      else if s.window.entries.any (fun x => sameStopTime x (readEntry d 0) && !sameTripStop x (readEntry d 0)) then
        s.refuse tag (.timeClash none)
      else s.amend tag old (readEntry d 0)) := by
  simp only [reqTtAmend]
  have hkey : s.ttLookup (readEntry d 0).trip (readEntry d 0).stop = s.ttLookup (at16 d 0) (at8 d 2) := rfl
  rw [if_neg (not_not_intro hd), if_neg hu, hok, hkey]
  cases s.ttLookup (at16 d 0) (at8 d 2) <;> rfl

end

/-- Settles O27: TT_APPEND and TT_AMEND by their checks in order; what they leave then runs out in the leaving of the
expired entries. -/
theorem ttAppendAndTtAmendPlaceEntries : Obligations.TtAppendAndTtAmendPlaceEntries := by
  refine ⟨fun tag d s hs hu hd => ⟨fun h hlen => ?_, fun h1 h16 hok => ⟨fun c hc => ?_, fun hc => ⟨?_, ?_, fun e => ?_⟩⟩,
    s.entryOk_iff⟩, fun es s same dup clash hsame hdup hclash => ?_, fun tag d s hs hu hd hok => ?_⟩
  · refine exec_refuse (code := .badValue) rfl hlen hs (reqTtAppend_badValue (s := s.framed) hu hd ?_)
    rw [Bool.or_eq_true, Bool.not_eq_true', Bool.not_eq_true', Bool.eq_false_iff, Ne, inRange_iff]
    rcases h with h | h | ⟨e, he, hbad⟩
    · exact .inl (by omega)
    · exact .inl (by omega)
    · refine .inr (List.all_eq_false.mpr ⟨e, he, ?_⟩)
      rw [show s.framed.entryOk e = s.entryOk e from rfl, hbad]
      exact Bool.false_ne_true
  · have h := reqTtAppend_checked (tag := tag) (s := s.framed) hu hd h1 h16 hok
    rw [show s.framed.appendCheck (readEntries d) = some c from hc] at h
    exact exec_refuse rfl (by omega) hs h
  · have h := reqTtAppend_checked (tag := tag) (s := s.framed) hu hd h1 h16 hok
    rw [show s.framed.appendCheck (readEntries d) = none from hc] at h
    have hdata : u8 (readEntries d).length ++ u16 (s.freeEntries - (readEntries d).length) =
        u8 (at8 d 0) ++ u16 (1024 - s.window.entries.length - at8 d 0) := by
      rw [readEntries_length]
      rfl
    rw [← hdata]
    refine exec_expires (t := (s.framed.setEntries (insertAll (readEntries d) s.window.entries)).reply _) rfl (by omega) hs
      h ?_
    exact hs.1
  · obtain ⟨-, -, hfree⟩ := State.appendCheck_none hc
    rw [readEntries_length, State.freeEntries, Config.maxEntries] at hfree
    omega
  · exact mem_insertAll
  · have hdup' : ∀ i, dup i ↔ s.duplicateAt es i := fun i => by rw [hdup, hsame]; exact clashAt_iff.symm
    have hclash' : ∀ i, clash i ↔ s.timeClashAt es i := fun i => by rw [hclash, hsame]; exact clashAt_iff.symm
    simp only [hdup', hclash']
    exact ⟨fun i => State.appendCheck_duplicate_iff, fun i => State.appendCheck_timeClash_iff,
      fun n => State.appendCheck_tableFull_iff, State.appendCheck_none_iff, fun i => ⟨rfl, rfl, rfl⟩⟩
  · have h := reqTtAmend_ok (tag := tag) (s := s.framed) hu hd hok
    refine ⟨fun hn => ?_, fun old ho => ⟨fun hb => ?_, fun hb => ⟨fun hx => ?_, fun hx => ?_⟩⟩⟩
    · rw [show s.framed.ttLookup (at16 d 0) (at8 d 2) = none from hn] at h
      exact exec_refuse (code := .notFound) rfl (by omega) hs h
    all_goals
      rw [show s.framed.ttLookup (at16 d 0) (at8 d 2) = some old from ho] at h
      rw [Option.elim_some] at h
    · rw [if_pos (Option.isSome_iff_ne_none.mpr hb)] at h
      exact exec_refuse (code := .busy) rfl (by omega) hs h
    all_goals
      rw [hb, Option.isSome_none, if_neg Bool.false_ne_true] at h
    · obtain ⟨x, hx, hstop, hp, htrip⟩ := hx
      have hany : (s.framed.window.entries.any
          (fun x => sameStopTime x (readEntry d 0) && !sameTripStop x (readEntry d 0))) = true := by
        refine List.any_eq_true.mpr ⟨x, hx, ?_⟩
        simp [sameStopTime, sameTripStop, readEntry, hstop, hp, htrip]
      rw [if_pos hany] at h
      exact exec_refuse (code := .timeClash none) rfl (by omega) hs h
    · have hany : ¬ (s.framed.window.entries.any
          (fun x => sameStopTime x (readEntry d 0) && !sameTripStop x (readEntry d 0))) = true := by
        rw [List.any_eq_true]
        rintro ⟨x, hmem, hclash⟩
        simp only [Bool.and_eq_true, Bool.not_eq_true', Bool.eq_false_iff, ne_eq, sameStopTime_iff, sameTripStop_iff] at hclash
        obtain ⟨⟨hstop, hp⟩, hne⟩ := hclash
        exact hne ⟨hx x hmem hstop hp, hstop⟩
      rw [if_neg hany] at h
      have hkey : old.trip = at16 d 0 ∧ old.stop = at8 d 2 := by
        have := List.find?_some ho
        simpa using this
      have hent : s.framed.amendEntry old (readEntry d 0) = insertEntry (readEntry d 0)
          (s.window.entries.filter (fun x => !(x.trip == at16 d 0 && x.stop == at8 d 2))) := by
        simp only [State.amendEntry, sameTripStop, hkey.1, hkey.2]
        rfl
      rw [← hent]
      refine exec_expires (t := (s.framed.setEntries (s.framed.amendEntry old (readEntry d 0))).reply _) rfl (by omega) hs
        h ?_
      exact hs.1

/-! ### TT_CANCEL -/

section
variable {tag : Byte} {d : List Byte} {s : State}

/-- R64: the entries a cancelled trip leaves. -/
def State.uncancelled (s : State) (trip : Nat) : List TtEntry :=
  s.window.entries.filter (fun e => e.trip != trip || e.bound.isSome)

theorem mem_uncancelled {trip : Nat} {e : TtEntry} :
    e ∈ s.uncancelled trip ↔ e ∈ s.window.entries ∧ (e.trip ≠ trip ∨ e.bound ≠ none) := by
  simp [State.uncancelled, Option.isSome_iff_ne_none]

theorem reqTtCancel_badValue (hd : d.length = 2) (hu : s.lds.service ≠ .unconfigured)
    (h : inRange 1 9999 (at16 d 0) = false) : reqTtCancel tag d s = s.refuse tag .badValue := by
  simp only [reqTtCancel]
  rw [if_neg (not_not_intro hd), if_neg hu, h]
  rfl

theorem reqTtCancel_notFound (hd : d.length = 2) (hu : s.lds.service ≠ .unconfigured)
    (h : inRange 1 9999 (at16 d 0) = true) (hn : ∀ e ∈ s.window.entries, e.trip ≠ at16 d 0) :
    reqTtCancel tag d s = s.refuse tag .notFound := by
  have he : (s.window.entries.filter (fun e => e.trip == at16 d 0)).isEmpty = true := by simpa using hn
  simp only [reqTtCancel]
  rw [if_neg (not_not_intro hd), if_neg hu, h, Bool.not_true, if_neg Bool.false_ne_true, if_pos he]

theorem reqTtCancel_found (hd : d.length = 2) (hu : s.lds.service ≠ .unconfigured)
    (h : inRange 1 9999 (at16 d 0) = true) (hn : ∃ e ∈ s.window.entries, e.trip = at16 d 0) :
    reqTtCancel tag d s = (s.setEntries (s.uncancelled (at16 d 0))).done tag
      (u16 (s.window.entries.filter (fun e => e.trip == at16 d 0 && e.bound.isNone)).length ++
        u16 (s.window.entries.filter (fun e => e.trip == at16 d 0 && e.bound.isSome)).length) := by
  have he : ¬ (s.window.entries.filter (fun e => e.trip == at16 d 0)).isEmpty = true := by simpa using hn
  simp only [reqTtCancel]
  rw [if_neg (not_not_intro hd), if_neg hu, h, Bool.not_true, if_neg Bool.false_ne_true, if_neg he, List.filter_filter,
    List.filter_filter]
  simp only [Bool.and_comm]
  rfl

/-- R69: the entry of a departing train leaves. -/
theorem ttDepart_drops {train : Nat} {tr : Option Nat} {dep : Nat} {e : TtEntry} (h : e.bound = some train) (t : State) :
    e ∉ (t.ttDepart train e.stop tr dep).window.entries := by
  simp [State.ttDepart, h]

/-- R64, R67: where no matched entry of the trip stands at the stop, a train is answered that there is none. -/
theorem bindAnswer_uncancelled {trip stop : Nat} (train : Nat) {t : State} (ht : t.window.entries = s.uncancelled trip)
    (h : ∀ e ∈ s.window.entries, e.trip = trip → e.stop = stop → e.bound = none) :
    t.bindAnswer train trip stop = .noEntry := by
  have hn : t.ttLookup trip stop = none := by
    rw [State.ttLookup, ht]
    refine List.find?_eq_none.mpr fun e he hk => ?_
    obtain ⟨hmem, hkeep⟩ := mem_uncancelled.mp he
    rw [Bool.and_eq_true, beq_iff_eq, beq_iff_eq] at hk
    exact hkeep.elim (fun hne => hne hk.1) (fun hb => hb (h e hmem hk.1 hk.2))
  rw [State.bindAnswer, hn]

end

/-- Settles O28: by the checks in order; what stays is what is of another trip or matched. -/
theorem ttCancelRemovesThePendingEntries : Obligations.TtCancelRemovesThePendingEntries := by
  intro tag trip s hs hu h16
  have hn : at16 (u16 trip) 0 = trip := at16_u16_self h16
  refine ⟨fun h => ?_, fun h1 h2 hno => ?_, fun h1 h2 hex => ?_⟩
  · refine exec_refuse (code := .badValue) rfl (by simp) hs (reqTtCancel_badValue (d := u16 trip) (s := s.framed) rfl hu ?_)
    rw [hn, Bool.eq_false_iff, Ne, inRange_iff]
    omega
  · refine exec_refuse (code := .notFound) rfl (by simp) hs (reqTtCancel_notFound (d := u16 trip) (s := s.framed) rfl hu ?_ ?_)
    · rw [hn]
      exact (inRange_iff ..).mpr ⟨h1, h2⟩
    · rw [hn]
      exact hno
  · have hb := reqTtCancel_found (tag := tag) (d := u16 trip) (s := s.framed) rfl hu
      (by rw [hn]; exact (inRange_iff ..).mpr ⟨h1, h2⟩) (by rw [hn]; exact hex)
    rw [hn] at hb
    refine ⟨_, exec_at_once rfl (by simp) hs hb hs.1, rfl, rfl, rfl, fun e he hbound => ?_, fun e train d tr _ hbound =>
      ttDepart_drops hbound _, fun train stop h => bindAnswer_uncancelled (s := s) train rfl h⟩
    exact mem_uncancelled.mpr ⟨he, .inr hbound⟩

/-! ### TRAIN_ASSIGN and REG_SET -/

section
variable {tag : Byte} {d : List Byte} {s : State}

theorem reqTrainAssign_found {i : Nat} {t : Train} (hd : d.length = 4) (hu : s.lds.service ≠ .unconfigured)
    (hid : inRange 1 999 (at16 d 0) = true) (htrip : inRange 1 9999 (at16 d 2) = true)
    (hi : s.slotOf (at16 d 0) = some i) (ht : s.train? i = some t) :
    reqTrainAssign tag d s = s.assignTrip tag i t (at16 d 2) := by
  rw [reqTrainAssign, if_neg (not_not_intro hd), if_neg hu, hid, htrip]
  simp only [Bool.not_true, Bool.or_self, Bool.false_eq_true, if_false, hi, ht]

end

/-- R87: a train with a current trip takes another as a following one, up to two. -/
theorem State.assignTrip_following {tag : Byte} {i cur trip : Nat} {t : Train} {s : State} (hcur : t.trip = some cur)
    (hno : ¬(t.trip = some trip ∨ t.following.contains trip = true)) :
    s.assignTrip tag i t trip = if t.following.length < 2 then
      (s.setTrain i { t with following := t.following ++ [trip] }).done tag (u8 1) else s.refuse tag (.tableFull none) := by
  unfold State.assignTrip
  rw [if_neg hno]
  split
  · next h => cases hcur.symm.trans h
  · rfl

/-- Settles O30: by the train's trips. -/
theorem trainAssignJoinsTheTrips : Obligations.TrainAssignJoinsTheTrips := by
  intro tag id trip i t s hs hu h1 h999 ht1 ht9999 hi ht
  have hid : at16 (u16 id ++ u16 trip) 0 = id := at16_u16 (by omega) _
  have htrip : at16 (u16 id ++ u16 trip) 2 = trip := at16_of rfl rfl (by omega)
  have hb := reqTrainAssign_found (tag := tag) (d := u16 id ++ u16 trip) (s := s.framed) (i := i) (t := t) rfl hu
    (by rw [hid]; exact (inRange_iff ..).mpr ⟨h1, h999⟩) (by rw [htrip]; exact (inRange_iff ..).mpr ⟨ht1, ht9999⟩)
    (by rw [hid]; exact hi) ht
  rw [htrip] at hb
  have hcontains : t.following.contains trip = true ↔ trip ∈ t.following := by simp
  refine ⟨fun h => ?_, fun hnone hmem => ?_, fun cur hcur hne hmem => ⟨fun hlt => ?_, fun hge => ?_⟩⟩
  · rw [State.assignTrip, if_pos (h.imp_right hcontains.mpr)] at hb
    exact exec_refuse (code := .duplicate none) rfl (by simp) hs hb
  · have hno : ¬(t.trip = some trip ∨ t.following.contains trip = true) := by simp [hnone, hmem]
    rw [State.assignTrip, if_neg hno, hnone] at hb
    exact exec_at_once rfl (by simp) hs hb hs.1
  all_goals
    have hno : ¬(t.trip = some trip ∨ t.following.contains trip = true) := by simp [hcur, hne, hmem]
    rw [State.assignTrip_following hcur hno] at hb
  · rw [if_pos hlt] at hb
    exact exec_at_once rfl (by simp) hs hb hs.1
  · rw [if_neg (Nat.not_lt.mpr hge)] at hb
    exact exec_refuse (code := .tableFull none) rfl (by simp) hs hb

/-- Settles O32. -/
theorem regSetReplacesTheWorkingValues : Obligations.RegSetReplacesTheWorkingValues := by
  intro tag beta threshold s hs hbeta hthr
  have h0 : at8 (u8 beta ++ u16 threshold) 0 = beta := at8_u8 hbeta _
  have h1 : at16 (u8 beta ++ u16 threshold) 1 = threshold := at16_of rfl rfl hthr
  have hrange : inRange 60 900 threshold = false ↔ threshold < 60 ∨ 900 < threshold := by
    rw [Bool.eq_false_iff, Ne, inRange_iff]
    omega
  have hlen : (u8 beta ++ u16 threshold).length = 3 := rfl
  refine ⟨fun h => exec_refuse (code := .badValue) rfl (by simp) hs ?_, fun hb h60 h900 =>
    exec_at_once rfl (by simp) hs ?_ hs.1⟩
  · show reqRegSet tag (u8 beta ++ u16 threshold) s.framed = _
    rw [reqRegSet, if_neg (not_not_intro hlen), h0, h1, if_pos (h.imp_right hrange.mpr)]
  · have hno : ¬(8 < beta ∨ inRange 60 900 threshold = false) := by
      rw [hrange]
      omega
    show reqRegSet tag (u8 beta ++ u16 threshold) s.framed = _
    rw [reqRegSet, if_neg (not_not_intro hlen), h0, h1, if_neg hno]
    rfl

end Sys2Proof.Machine
end

section
/-! SUPPORT. Section states (O38), shares (O39) and permits (O40). -/
namespace Sys2Proof.Machine

/-! ### What breaker values derive (R112, R113) -/

section
variable {vs even odd : List BreakerValue} {tie : BreakerValue} {mode : PairMode}

theorem not_all_opened (h : ∃ v ∈ vs, v ≠ .opened) : vs.all (fun v => v == .opened) = false := by
  obtain ⟨v, hv, hne⟩ := h
  exact List.all_eq_false.mpr ⟨v, hv, by simpa using hne⟩

theorem all_opened (h : ∀ v ∈ vs, v = .opened) : vs.all (fun v => v == .opened) = true :=
  List.all_eq_true.mpr fun v hv => beq_iff_eq.mpr (h v hv)

theorem not_contains {v : BreakerValue} (h : v ∉ vs) : vs.contains v = false := by
  simpa using h

theorem not_mem_of_opened {v : BreakerValue} (h : ∀ x ∈ vs, x = .opened) (hv : v ≠ .opened) : v ∉ vs :=
  fun hm => hv (h v hm)

theorem deriveAlone_tripped (h : .tripped ∈ vs) : deriveAlone vs = .state .tripped :=
  if_pos (List.contains_iff_mem.mpr h)

theorem deriveAlone_dead (h : ∀ v ∈ vs, v = .opened) : deriveAlone vs = .state .dead := by
  simp [deriveAlone, not_mem_of_opened h (v := .tripped) (fun h => by cases h), all_opened h]

theorem deriveAlone_live (ht : .tripped ∉ vs) (hc : .closed ∈ vs) : deriveAlone vs = .state .live := by
  simp [deriveAlone, ht, not_all_opened ⟨_, hc, nofun⟩, hc]

theorem deriveAlone_isolating (ht : .tripped ∉ vs) (hc : .closed ∉ vs) (hp : .precharged ∈ vs) :
    deriveAlone vs = .isolating := by
  simp [deriveAlone, ht, hc, not_all_opened ⟨_, hp, nofun⟩]

theorem derivePair_tripped (h : .tripped ∈ even ∨ .tripped ∈ odd ∨ tie = .tripped) :
    derivePair mode even odd tie = .state .tripped :=
  if_pos (by simpa [or_assoc] using h)

/-- With no breaker tripped, the first row does not apply. -/
theorem no_trip (hv : .tripped ∉ even ++ odd) (ht : tie ≠ .tripped) :
    ((even ++ odd).contains .tripped || tie == .tripped) = false := by
  rw [not_contains hv, Bool.false_or]
  exact beq_false_of_ne ht

theorem derivePair_dead (h : ∀ v ∈ even ++ odd, v = .opened) (ht : tie ≠ .tripped) :
    derivePair mode even odd tie = .state .dead := by
  simp only [derivePair, no_trip (not_mem_of_opened h nofun) ht, all_opened h, if_true, Bool.false_eq_true, if_false]

theorem closed_ne_tripped : BreakerValue.closed ≠ .tripped := nofun

theorem derivePair_of_closed (hv : .tripped ∉ even ++ odd) (ht : tie ≠ .tripped) (ho : ∃ v ∈ even ++ odd, v ≠ .opened) :
    derivePair mode even odd tie =
      if tie == .closed && (if mode = .tied then even ++ odd else even).contains .closed &&
        !(even ++ odd).contains .precharged && (mode != .crossFed || odd.all (fun v => v == .opened)) then .state .live
      else .isolating := by
  simp only [derivePair, no_trip hv ht, not_all_opened ho, Bool.false_eq_true, if_false]

/-- With every breaker open or closed, none is tripped and none precharged. -/
theorem open_or_closed (h : ∀ v ∈ vs, v = .opened ∨ v = .closed) : .tripped ∉ vs ∧ .precharged ∉ vs :=
  ⟨fun hm => by cases h _ hm <;> contradiction, fun hm => by cases h _ hm <;> contradiction⟩

theorem derivePair_tied_live (h : ∀ v ∈ even ++ odd, v = .opened ∨ v = .closed)
    (hc : .closed ∈ even ∨ .closed ∈ odd) : derivePair .tied even odd .closed = .state .live := by
  obtain ⟨ht, hp⟩ := open_or_closed h
  have hm : BreakerValue.closed ∈ even ++ odd := List.mem_append.mpr hc
  rw [derivePair_of_closed ht closed_ne_tripped ⟨_, hm, nofun⟩, not_contains hp]
  simp [hc]

theorem derivePair_crossFed_live (h : ∀ v ∈ even ++ odd, v = .opened ∨ v = .closed) (hc : .closed ∈ even)
    (ho : ∀ v ∈ odd, v = .opened) : derivePair .crossFed even odd .closed = .state .live := by
  obtain ⟨ht, hp⟩ := open_or_closed h
  rw [derivePair_of_closed ht closed_ne_tripped ⟨_, List.mem_append_left _ hc, nofun⟩, not_contains hp, all_opened ho]
  simp [hc]

theorem derivePair_precharged (hv : .tripped ∉ even ++ odd) (ht : tie ≠ .tripped)
    (hp : .precharged ∈ even ++ odd) : derivePair mode even odd tie = .isolating := by
  rw [derivePair_of_closed hv ht ⟨_, hp, nofun⟩, List.contains_iff_mem.mpr hp]
  simp

theorem derivePair_crossFed_odd (hv : .tripped ∉ even ++ odd) (ht : tie ≠ .tripped) (hc : .closed ∈ odd) :
    derivePair .crossFed even odd tie = .isolating := by
  rw [derivePair_of_closed hv ht ⟨_, List.mem_append_right _ hc, nofun⟩, not_all_opened ⟨_, hc, nofun⟩]
  simp

theorem derivePair_tie_open (hv : .tripped ∉ even ++ odd) (ht : tie ≠ .tripped) (ho : ∃ v ∈ even ++ odd, v ≠ .opened)
    (hc : tie ≠ .closed) : derivePair mode even odd tie = .isolating := by
  rw [derivePair_of_closed hv ht ho, beq_false_of_ne hc]
  simp

end

/-! ### What a section's breakers derive -/

section
variable {s : State} {i : Nat}

theorem State.derived_of_alone (hm : s.modeOf i = .independent) :
    s.derived i = (s.values (s.feedersOf i)).map deriveAlone := by
  unfold State.derived
  rw [hm]

theorem State.derived_of_pair (hm : s.modeOf i ≠ .independent) :
    s.derived i = (s.values (s.feedersOf (evenOf i))).bind fun even =>
      (s.values (s.feedersOf (evenOf i + 1))).bind fun odd =>
        (s.tieValue (s.tieOf i)).map fun tie => derivePair (s.modeOf i) even odd tie := by
  unfold State.derived
  cases h : s.modeOf i with
  | independent => exact absurd h hm
  | tied => rfl
  | crossFed => rfl

theorem State.group_of_alone (hm : s.modeOf i = .independent) : s.group i = [i] := by
  unfold State.group
  rw [hm]

theorem State.group_of_pair (hm : s.modeOf i ≠ .independent) : s.group i = [evenOf i, evenOf i + 1] := by
  unfold State.group
  cases h : s.modeOf i with
  | independent => exact absurd h hm
  | tied => rfl
  | crossFed => rfl

theorem State.tieOf_of_alone (hm : s.modeOf i = .independent) : s.tieOf i = none := by
  unfold State.tieOf
  rw [hm]

theorem State.tieOf_of_pair (hm : s.modeOf i ≠ .independent) : s.tieOf i = (s.tsv.pairs[i / 2]?).bind (·.tie) := by
  unfold State.tieOf
  cases h : s.modeOf i with
  | independent => exact absurd h hm
  | tied => rfl
  | crossFed => rfl

theorem State.mem_groupBreakers {b : Nat} :
    b ∈ s.groupBreakers i ↔ (∃ j ∈ s.group i, b ∈ s.feedersOf j) ∨ s.tieOf i = some b := by
  simp [State.groupBreakers, State.groupFeeders, Option.mem_toList]

/-- An unknown breaker leaves the values unknown. -/
theorem State.values_none {els : List Nat} {b : Nat} (hb : b ∈ els) (hn : s.breaker? b = none) :
    s.values els = none := by
  unfold State.values
  induction els with
  | nil => cases hb
  | cons e els ih =>
    rw [List.mapM_cons]
    rcases List.mem_cons.mp hb with rfl | hb
    · rw [hn]
      rfl
    · rw [ih hb]
      cases s.breaker? e <;> rfl

theorem State.derived_of_unknown {b : Nat} (hb : b ∈ s.groupBreakers i) (hn : s.breaker? b = none) :
    s.derived i = none := by
  by_cases hm : s.modeOf i = .independent
  · rw [State.mem_groupBreakers, s.group_of_alone hm, s.tieOf_of_alone hm] at hb
    rw [s.derived_of_alone hm, s.values_none (b := b) (by simpa using hb) hn]
    rfl
  · rw [State.mem_groupBreakers, s.group_of_pair hm] at hb
    rw [s.derived_of_pair hm]
    rcases hb with ⟨j, hj, hb⟩ | ht
    · rcases (by simpa using hj : j = evenOf i ∨ j = evenOf i + 1) with rfl | rfl
      · rw [s.values_none hb hn]
        rfl
      · rw [s.values_none hb hn]
        cases s.values (s.feedersOf (evenOf i)) <;> rfl
    · have hv : s.tieValue (s.tieOf i) = none := by rw [ht]; exact hn
      rw [hv]
      cases s.values (s.feedersOf (evenOf i)) with
      | none => rfl
      | some even => cases s.values (s.feedersOf (evenOf i + 1)) <;> rfl

theorem State.derived_of_values {even odd : List BreakerValue} {tie : BreakerValue} (hm : s.modeOf i ≠ .independent)
    (he : s.values (s.feedersOf (evenOf i)) = some even) (ho : s.values (s.feedersOf (evenOf i + 1)) = some odd)
    (ht : s.tieValue (s.tieOf i) = some tie) : s.derived i = some (derivePair (s.modeOf i) even odd tie) := by
  rw [s.derived_of_pair hm, he, ho, ht]
  rfl

end

/-- Settles O38: a table row each for the values, and the known values of the section's breakers. -/
theorem sectionStatesFollowTheBreakers : Obligations.SectionStatesFollowTheBreakers := by
  unfold Obligations.SectionStatesFollowTheBreakers
  refine ⟨fun vs => ⟨deriveAlone_tripped, fun _ => deriveAlone_dead, deriveAlone_live, deriveAlone_isolating⟩,
    fun even odd tie => ⟨fun h => ⟨derivePair_tripped h, derivePair_tripped h⟩,
      fun h ht => ⟨derivePair_dead h ht, derivePair_dead h ht⟩, ?_, ?_⟩, fun i s => ⟨?_, ?_, ?_⟩⟩
  · rintro h rfl
    exact ⟨derivePair_tied_live h, derivePair_crossFed_live h⟩
  · intro hv ht
    have hv : .tripped ∉ even ++ odd := fun hm => hv _ hm rfl
    exact ⟨fun hp => ⟨derivePair_precharged hv ht (List.mem_append.mpr hp),
        derivePair_precharged hv ht (List.mem_append.mpr hp)⟩,
      derivePair_crossFed_odd hv ht, fun ho hc => ⟨derivePair_tie_open hv ht ho hc, derivePair_tie_open hv ht ho hc⟩⟩
  · intro hm vs hv
    rw [s.derived_of_alone hm, hv]
    rfl
  · intro hm even odd he ho
    refine ⟨fun ht => s.derived_of_values hm he ho ?_, fun t v ht hv => s.derived_of_values hm he ho ?_⟩
    · rw [ht]
      rfl
    · rw [ht]
      exact hv
  · exact fun b hb hn => s.derived_of_unknown hb hn

/-! ### Shares (R126) -/

theorem shareAt_sum (x n : Nat) : ∀ k, ((List.range k).map (shareAt x n)).sum = k * (x / n) + min k (x % n)
  | 0 => by simp
  | k + 1 => by
    rw [List.range_succ, List.map_append, List.sum_append, shareAt_sum x n k, List.map_singleton, List.sum_singleton,
      shareAt, Nat.succ_mul]
    by_cases h : k < x % n
    · rw [if_pos h]
      omega
    · rw [if_neg h]
      omega

/-- Settles O39: the places below the remainder take one more, so `n` shares make up the load. -/
theorem sharesSumToTheLoad : Obligations.SharesSumToTheLoad := by
  unfold Obligations.SharesSumToTheLoad
  intro x n hn
  refine ⟨?_, fun i j _ _ hij => ?_⟩
  · have hm := Nat.mod_lt x hn
    have hd := Nat.div_add_mod x n
    rw [shareAt_sum, Nat.min_eq_right (by omega)]
    exact hd
  · unfold shareAt
    split <;> split <;> omega

/-! ### The walk over the wait list (R129) -/

section
variable {s : State} {t : Nat} {r : PermitRequest}

theorem State.fits_iff {i : Nat} : s.fits i = true ↔ (s.sect? i).any (fun x => x.state == .live && !x.low) = true ∧
    ∀ f ∈ s.feedSet i, ∃ b, s.tsv.subs[f]? = some b ∧
      b.effective + s.shareOf i s.params.startLoad f ≤ b.capacity := by
  simp only [State.fits, State.powered, Bool.and_eq_true, List.all_eq_true, Option.any_eq_true, decide_eq_true_eq]

theorem State.sharesSub_eq_false {i j : Nat} : s.sharesSub i j = false ↔ ∀ f ∈ s.feedSet i, f ∉ s.feedSet j := by
  simp [State.sharesSub]

theorem State.grantable_iff (hr : s.tsv.waitList.find? (fun q => q.train == t) = some r) :
    s.grantable t = true ↔ s.fits r.sect = true ∧
      ∀ o ∈ olderThan t s.tsv.waitList, ∀ f ∈ s.feedSet r.sect, f ∉ s.feedSet o.sect := by
  unfold State.grantable
  rw [hr]
  simp only [Bool.and_eq_true, List.all_eq_true, Bool.not_eq_true', State.sharesSub_eq_false]

theorem walk_none {trains : List Nat} (h : ∀ x ∈ trains, s.grantable x = false) : walk trains s = s := by
  have hd : trains.dropWhile (fun t => !s.grantable t) = [] :=
    dropWhile_eq_nil fun x hx => by simp [h x hx]
  unfold walk
  rw [hd]

theorem walk_first {pre rest : List Nat} (hpre : ∀ x ∈ pre, s.grantable x = false) (ht : s.grantable t = true)
    (hr : s.tsv.waitList.find? (fun q => q.train == t) = some r) :
    walk (pre ++ t :: rest) s = (s.grant r).posts [.granted t s.clock.time, .walk rest] := by
  have hd : (pre ++ t :: rest).dropWhile (fun t => !s.grantable t) = t :: rest := by
    rw [List.dropWhile_append_of_pos fun x hx => by simp [hpre x hx]]
    simp [ht]
  unfold walk
  rw [hd]
  simp only [hr]

end

/-- Settles O40: the walk stops at the first train that can be granted. -/
theorem permitsAreGrantedOnlyWhenTheyFit : Obligations.PermitsAreGrantedOnlyWhenTheyFit := by
  unfold Obligations.PermitsAreGrantedOnlyWhenTheyFit
  intro trains s
  refine ⟨walk_none, ?_, ?_⟩
  · rintro pre t rest r rfl hpre ht hr
    obtain ⟨hfits, holder⟩ := (State.grantable_iff hr).mp ht
    obtain ⟨hlive, hroom⟩ := State.fits_iff.mp hfits
    have htrain : r.train = t := by simpa using List.find?_some hr
    subst htrain
    rw [walk_first hpre ht hr]
    exact ⟨hfits, hlive, hroom, holder, rfl, rfl, rfl, rfl, rfl⟩
  · rintro t r hr ⟨x, hx, hlive, hlow⟩ hroom holder
    have hp : (s.sect? r.sect).any (fun x => x.state == .live && !x.low) = true := by
      rw [hx, Option.any_some, hlive, hlow]
      rfl
    exact (State.grantable_iff hr).mpr ⟨State.fits_iff.mpr ⟨hp, hroom⟩, holder⟩

end Sys2Proof.Machine
end

section
/-! SUPPORT. Isolation and unlocking (O41), SEC_ENERGIZE (O42) and PAIR_MODE (O43). -/
namespace Sys2Proof.Machine

section
variable {c : Instr} {kind tag : Byte} {d : List Byte} {s t : State}

/-- R172: a request's row, run to the end of what it brings about. -/
theorem exec_settles (hf : frameOf c = some (kind, tag, d)) (hd : d.length ≤ 1020) (hs : s.ready)
    (hb : dispatch kind tag d s.framed = t) : exec c s = .next (settle t) := by
  rw [exec_ready hf hd hs, hb]

/-- An event whose effect leaves the unit settled. -/
theorem exec_event_at_once (hf : frameOf c = none) (hw : c.wellFormed = true) (hb : eventEffect c s = t)
    (ht : t.settled) : exec c s = .next t := by
  rw [exec_event hf hw, hb, settle_settled t ht]

theorem exec_event_settles (hf : frameOf c = none) (hw : c.wellFormed = true) (hb : eventEffect c s = t) :
    exec c s = .next (settle t) := by
  rw [exec_event hf hw, hb]

end

/-! ### Section records -/

section
variable {s : State} {i j : Nat} {f : SectRec → SectRec}

theorem State.modSect_sect? (i j : Nat) (f : SectRec → SectRec) (s : State) :
    (s.modSect i f).sect? j = if i = j then (s.sect? j).map f else s.sect? j := by
  simp only [State.sect?, State.modSect_tsv, List.getElem?_modify]
  by_cases h : i = j
  · simp [h]
  · simp [h]

theorem State.modSect_sect?_self : (s.modSect i f).sect? i = (s.sect? i).map f := by
  rw [State.modSect_sect?, if_pos rfl]

theorem State.modSect_sect?_other (h : i ≠ j) : (s.modSect i f).sect? j = s.sect? j := by
  rw [State.modSect_sect?, if_neg h]

theorem State.modSect_eq_setSect {r : SectRec} (h : s.sect? i = some r) : s.modSect i f = s.setSect i (f r) := by
  unfold State.modSect State.setSect
  rw [modify_eq_set (l := s.tsv.sects) h]

theorem State.sectState_of {r : SectRec} (h : s.sect? i = some r) : s.sectState i = r.state := by
  rw [State.sectState, h]
  rfl

theorem State.group_nodup (s : State) (i : Nat) : (s.group i).Nodup := by
  by_cases hm : s.modeOf i = .independent
  · rw [s.group_of_alone hm]
    simp
  · rw [s.group_of_pair hm]
    simp

/-- One change of every record of a list of sections. -/
theorem State.foldl_modSect_sect? {g : List Nat} (hn : g.Nodup) :
    (g.foldl (fun s i => s.modSect i f) s).sect? j = if j ∈ g then (s.sect? j).map f else s.sect? j := by
  induction g generalizing s with
  | nil => rfl
  | cons i g ih =>
    obtain ⟨hi, hg⟩ := List.nodup_cons.mp hn
    rw [List.foldl_cons, ih hg, State.modSect_sect?]
    by_cases hj : i = j
    · subst hj
      simp [hi]
    · simp [hj, Ne.symm hj]

theorem State.setStates_sect? {g : List Nat} (new : SectState) (hn : g.Nodup) (h : j ∈ g) :
    (s.setStates g new).sect? j = (s.sect? j).map (SectRec.moved new) :=
  (State.foldl_modSect_sect? hn).trans (if_pos h)

end

/-! ### Isolation (R120) -/

section
variable {s : State} {i j : Nat} {kind : IsoKind} {ordered : List Nat} {mustRead : Bool} {after : List Notice}

theorem State.isolate_sect? {r : SectRec} (hj : j ∈ s.group i) (hr : s.sect? j = some r) :
    (s.isolate i kind ordered mustRead after).sect? j =
      some (if s.baseOf i = j then { r.moved .isolating with seq := some (.isolate kind ordered mustRead) }
        else r.moved .isolating) := by
  have h : (s.setStates (s.group i) .isolating).sect? j = some (r.moved .isolating) := by
    rw [State.setStates_sect? _ (s.group_nodup i) hj, hr]
    rfl
  change ((s.setStates (s.group i) .isolating).modSect (s.baseOf i)
    (fun r => { r with seq := some (.isolate kind ordered mustRead) })).sect? j = _
  rw [State.modSect_sect?, h]
  split <;> rfl

theorem SectRec.moved_isolating (r : SectRec) :
    r.moved .isolating = { r with state := .isolating, low := false, timer := .stopped } := by
  simp [SectRec.moved]

theorem State.setStates_agenda (g : List Nat) (new : SectState) : (s.setStates g new).agenda = s.agenda :=
  foldl_keeps State.agenda (fun s i => s.modSect i (SectRec.moved new)) (fun _ _ => rfl) g s

theorem State.isolate_agenda : (s.isolate i kind ordered mustRead after).agenda =
    s.agenda ++ ordered.map .openBreaker ++ s.changeNotices (s.group i) .isolating ++ after ++
      [.isolationCheck (s.baseOf i)] := by
  simp only [State.isolate, State.posts_agenda, State.setSeq, State.modSect_agenda, State.setStates_agenda,
    List.append_assoc]

section
variable {base : Nat} {awaited : List Nat}

theorem isolationCheck_waiting (hq : s.seqOf base = some (.isolate kind awaited mustRead))
    (h : s.isolationDone base awaited mustRead = false) : isolationCheck base s = s := by
  simp [isolationCheck, hq, h]

theorem isolationCheck_done (hq : s.seqOf base = some (.isolate kind awaited mustRead))
    (h : s.isolationDone base awaited mustRead = true) :
    isolationCheck base s = (s.setSeq base none).changeTo (s.group base) .dead := by
  simp [isolationCheck, hq, h]

theorem State.countsOpen_ordered {b : Nat} {e : MirrorEntry} (he : s.entry? b = some e) (ho : e.state = .ordered) :
    s.countsOpen b = false := by
  simp [State.countsOpen, State.settledBreaker, he, ho]

end
end

/-! ### The requests that name one section -/

section
variable {d : List Byte} {s : State} {tag : Byte}

theorem State.sectCheck_badValue (hd : d.length = 1) (hs : s.lds.service ≠ .unconfigured) (hi : 23 < at8 d 0) :
    s.sectCheck d = some .badValue := by
  rw [State.sectCheck, if_neg (not_not_intro hd), if_neg hs, if_pos (show Config.maxSections ≤ at8 d 0 from hi)]

theorem State.sectCheck_notFound (hd : d.length = 1) (hs : s.lds.service ≠ .unconfigured) (hi : at8 d 0 ≤ 23)
    (hc : s.sectCount ≤ at8 d 0) : s.sectCheck d = some .notFound := by
  have hmax : ¬ Config.maxSections ≤ at8 d 0 := Nat.not_le.mpr (Nat.lt_succ_of_le hi)
  rw [State.sectCheck, if_neg (not_not_intro hd), if_neg hs, if_neg hmax, if_pos hc]

section
variable {code : RefusalCode} (hc : s.sectCheck d = some code)
include hc

theorem reqSecEnergize_unchecked : reqSecEnergize tag d s = s.refuse tag code := by simp only [reqSecEnergize, hc]

theorem reqSecIsolate_unchecked : reqSecIsolate tag d s = s.refuse tag code := by simp only [reqSecIsolate, hc]

theorem reqSecUnlock_unchecked : reqSecUnlock tag d s = s.refuse tag code := by simp only [reqSecUnlock, hc]

theorem reqSecQuery_unchecked : reqSecQuery tag d s = s.refuse tag code := by simp only [reqSecQuery, hc]

end

/-- R174: a request that names one section is refused as the checks on that section say. -/
theorem exec_sectCheck {c : Instr} {i : Nat} {code : RefusalCode} (hs : s.ready)
    (hm : c ∈ [Instr.secEnergize tag (u8 i), .secIsolate tag (u8 i), .secUnlock tag (u8 i), .secQuery tag (u8 i)])
    (hc : s.sectCheck (u8 i) = some code) : exec c s = .next (s.framed.refuse tag code) := by
  have hc : s.framed.sectCheck (u8 i) = some code := hc
  simp only [List.mem_cons, List.not_mem_nil, or_false] at hm
  rcases hm with rfl | rfl | rfl | rfl
  · exact exec_refuse rfl (by simp) hs (reqSecEnergize_unchecked hc)
  · exact exec_refuse rfl (by simp) hs (reqSecIsolate_unchecked hc)
  · exact exec_refuse rfl (by simp) hs (reqSecUnlock_unchecked hc)
  · exact exec_refuse rfl (by simp) hs (reqSecQuery_unchecked hc)

/-- R115: the section a request of one byte names exists. -/
theorem State.sectCheck_u8 {i : Nat} (hs : s.lds.service ≠ .unconfigured) (hi : i ≤ 23) (hc : i < s.sectCount) :
    s.sectCheck (u8 i) = none :=
  State.sectCheck_none rfl hs (by rw [at8_u8_self] <;> omega) (by rwa [at8_u8_self (by omega)])

theorem reqSecIsolate_checked {i : Nat} (hi : i ≤ 23) (hc : s.sectCheck (u8 i) = none) :
    reqSecIsolate tag (u8 i) s = s.isolateByState tag i := by
  rw [reqSecIsolate, hc, at8_u8_self (by omega)]

theorem reqSecUnlock_locked {i : Nat} {r : SectRec} (hi : i ≤ 23) (hc : s.sectCheck (u8 i) = none)
    (hr : s.sect? i = some r) (hl : r.lockout = true) :
    reqSecUnlock tag (u8 i) s =
      (s.setSect i { r with lockout := false }).posts [.resolve .chargeFail i, .answer tag (.sectFlags i)] := by
  have hany : (s.sect? i).any (·.lockout) = true := by rw [hr]; exact hl
  rw [reqSecUnlock, hc]
  simp only [at8_u8_self (show i < 256 by omega), hany, if_true, State.modSect_eq_setSect hr]

theorem reqSecUnlock_unlocked {i : Nat} {r : SectRec} (hi : i ≤ 23) (hc : s.sectCheck (u8 i) = none)
    (hr : s.sect? i = some r) (hl : r.lockout = false) :
    reqSecUnlock tag (u8 i) s = s.post (.answer tag (.sectFlags i)) := by
  have hany : (s.sect? i).any (·.lockout) = false := by rw [hr]; exact hl
  rw [reqSecUnlock, hc]
  simp only [at8_u8_self (show i < 256 by omega), hany, Bool.false_eq_true, if_false]

/-- R123: a section's state and flags, answered as they stand. -/
theorem settle_sectFlags {i : Nat} {r : SectRec} (hs : s.settled) (hr : s.sect? i = some r) :
    settle (s.post (.answer tag (.sectFlags i))) = s.done tag (u8 r.state.code ++ u8 r.flags) := by
  have hb : s.sectFlagBytes i = u8 r.state.code ++ u8 r.flags := by rw [State.sectFlagBytes, hr]
  have hh : handle (.answer tag (.sectFlags i)) s = s.done tag (u8 r.state.code ++ u8 r.flags) := by
    rw [← hb]
    rfl
  rw [settle_post_settled hs (by rw [hh]; exact hs.done _ _), hh]

end

/-! ### SEC_ISOLATE by the section's state -/

section
variable {tag : Byte} {i : Nat} {s : State}

theorem State.isolateByState_unknown (h : s.sectState i = .unknown) :
    s.isolateByState tag i = s.refuse tag .wrongState := by
  simp only [State.isolateByState, h]

theorem State.isolateByState_dead (h : s.sectState i = .dead) : s.isolateByState tag i = s.done tag [] := by
  simp only [State.isolateByState, h]

theorem State.isolateByState_precharge (h : s.sectState i = .precharge) :
    s.isolateByState tag i = (s.abort (s.baseOf i) .hostIsolate).post (.answer tag (.done [])) := by
  simp only [State.isolateByState, h]

theorem State.isolateByState_live (h : s.sectState i = .live) : s.isolateByState tag i =
    (s.isolate i .host ((s.groupBreakers i).filter (fun b => !s.countsOpen b)) false []).post (.answer tag (.done [])) := by
  simp only [State.isolateByState, h, State.isolateHost, reduceCtorEq, if_false]

theorem State.isolateByState_tripped (h : s.sectState i = .tripped) : s.isolateByState tag i =
    (s.isolate i .host ((s.groupBreakers i).filter (fun b => !s.readsOpen b)) true []).post (.answer tag (.done [])) := by
  simp only [State.isolateByState, h, State.isolateHost, if_true]

theorem State.isolateByState_again {kind : IsoKind} {awaited : List Nat} {mustRead : Bool}
    (h : s.sectState i = .isolating) (hq : s.seqOf (s.baseOf i) = some (.isolate kind awaited mustRead)) :
    s.isolateByState tag i = s.posts ((awaited.filter (fun b =>
      (if mustRead then !s.readsOpen b else !s.countsOpen b) && !(s.entry? b).any (fun e => e.out.isSome))).map
        .openBreaker ++ [.answer tag (.done [])]) := by
  cases mustRead <;> simp [State.isolateByState, h, hq, State.posts, State.post]

theorem State.isolateByState_other (h : s.sectState i = .isolating)
    (hq : ∀ kind awaited mustRead, s.seqOf (s.baseOf i) ≠ some (.isolate kind awaited mustRead)) :
    s.isolateByState tag i = s.done tag [] := by
  simp only [State.isolateByState, h]

end

/-- Settles O41: the checks, SEC_ISOLATE by state, what an isolation leaves, SEC_UNLOCK by the lockout. -/
theorem sectionsAreIsolatedAndUnlocked : Obligations.SectionsAreIsolatedAndUnlocked := by
  unfold Obligations.SectionsAreIsolatedAndUnlocked
  refine ⟨?_, ?_, ⟨?_, ?_⟩, ?_⟩
  · intro tag i s hs hu hi c hc
    have hn : at8 (u8 i) 0 = i := at8_u8_self hi
    exact ⟨fun h => exec_sectCheck hs hc (State.sectCheck_badValue rfl hu (by rwa [hn])),
      fun h hn' => exec_sectCheck hs hc (State.sectCheck_notFound rfl hu (by rwa [hn]) (by rwa [hn]))⟩
  · intro tag i s hs hu hi hn
    have hc : s.framed.sectCheck (u8 i) = none := State.sectCheck_u8 (s := s) hu hi hn
    have hb {t : State} (h : s.framed.isolateByState tag i = t) : dispatch 0x41#8 tag (u8 i) s.framed = t :=
      (reqSecIsolate_checked hi hc).trans h
    refine ⟨fun h => exec_refuse rfl (by simp) hs (hb (s.framed.isolateByState_unknown h)),
      fun h => exec_done rfl (by simp) hs (hb (s.framed.isolateByState_dead h)),
      fun h => exec_settles rfl (by simp) hs (hb (s.framed.isolateByState_precharge h)),
      fun h => exec_settles rfl (by simp) hs (hb (s.framed.isolateByState_live h)),
      fun h => exec_settles rfl (by simp) hs (hb (s.framed.isolateByState_tripped h)), fun h => ⟨?_, ?_⟩⟩
    · intro kind awaited mustRead hq
      exact exec_settles rfl (by simp) hs (hb (s.framed.isolateByState_again h hq))
    · exact fun hq => exec_done rfl (by simp) hs (hb (s.framed.isolateByState_other h hq))
  · intro i kind ordered mustRead after s
    refine ⟨fun j r hj hr => ⟨_, State.isolate_sect? hj hr, ?_⟩, State.isolate_agenda⟩
    rw [SectRec.moved_isolating]
    by_cases hb : s.baseOf i = j
    · rw [if_pos hb]
      exact ⟨rfl, rfl, rfl, rfl, rfl, rfl, fun _ => rfl⟩
    · rw [if_neg hb]
      exact ⟨rfl, rfl, rfl, rfl, rfl, rfl, fun h => absurd h.symm hb⟩
  · intro base kind awaited mustRead s hq
    refine ⟨isolationCheck_waiting hq, isolationCheck_done hq, ?_, fun b e => State.countsOpen_ordered⟩
    rintro rfl h
    exact List.all_eq_true.mpr h
  · intro tag i r s hs hu hi hn hr
    have hc : s.framed.sectCheck (u8 i) = none := State.sectCheck_u8 (s := s) hu hi hn
    have hr : s.framed.sect? i = some r := hr
    refine ⟨fun hl => ?_, fun hl => exec_settles rfl (by simp) hs (reqSecUnlock_locked hi hc hr hl)⟩
    exact (exec_settles (c := .secUnlock tag (u8 i)) (kind := 0x42#8) rfl (by simp) hs (reqSecUnlock_unlocked hi hc hr hl)).trans
      (congrArg _ (settle_sectFlags hs.1.framed hr))

/-! ### SEC_ENERGIZE (R115, R116) -/

section
variable {s : State} {i : Nat}

theorem State.energizeCheck_wrongState (h : ∃ j ∈ s.group i, s.sectState j ≠ .dead ∧ s.sectState j ≠ .tripped) :
    s.energizeCheck i = some .wrongState :=
  if_pos (by simpa using h)

/-- R115: the sections of the group are DEAD or TRIPPED. -/
def State.groupOff (s : State) (i : Nat) : Prop := ∀ j ∈ s.group i, s.sectState j = .dead ∨ s.sectState j = .tripped

/-- R115: no section of the group is locked or demanded. -/
def State.groupFree (s : State) (i : Nat) : Prop :=
  ∀ j r, j ∈ s.group i → s.sect? j = some r → r.lockout = false ∧ r.demand = false

theorem State.groupOff_iff : (s.group i).any (fun j => s.sectState j != .dead && s.sectState j != .tripped) = false ↔
    s.groupOff i := by
  simp only [State.groupOff, List.any_eq_false, Bool.and_eq_true, bne_iff_ne]
  exact forall_congr' fun j => forall_congr' fun _ => by rw [Classical.not_and_iff_not_or_not, Classical.not_not, Classical.not_not]

theorem State.groupFree_iff : (s.group i).any (fun j => (s.sect? j).any (fun r => r.lockout || r.demand)) = false ↔
    s.groupFree i := by
  simp only [State.groupFree, List.any_eq_false, Option.any_eq_true, Bool.or_eq_true]
  constructor
  · intro h j r hj hr
    have hno := h j hj
    exact ⟨Bool.eq_false_iff.mpr fun hl => hno ⟨r, hr, .inl hl⟩, Bool.eq_false_iff.mpr fun hd => hno ⟨r, hr, .inr hd⟩⟩
  · rintro h j hj ⟨r, hr, hl⟩
    obtain ⟨hl', hd'⟩ := h j r hj hr
    rcases hl with hl | hd
    · exact Bool.false_ne_true (hl'.symm.trans hl)
    · exact Bool.false_ne_true (hd'.symm.trans hd)

theorem State.energizeCheck_locked (ho : s.groupOff i)
    (h : ∃ j r, j ∈ s.group i ∧ s.sect? j = some r ∧ (r.lockout = true ∨ r.demand = true)) :
    s.energizeCheck i = some .locked := by
  obtain ⟨j, r, hj, hr, hl⟩ := h
  have hany : (s.group i).any (fun j => (s.sect? j).any (fun r => r.lockout || r.demand)) = true :=
    List.any_eq_true.mpr ⟨j, hj, by rw [hr]; simpa using hl⟩
  rw [State.energizeCheck, State.groupOff_iff.mpr ho, hany]
  rfl

theorem State.energizeCheck_pairSlaved (ho : s.groupOff i) (hf : s.groupFree i) (hb : s.baseOf i ≠ i) :
    s.energizeCheck i = some .pairSlaved := by
  rw [State.energizeCheck, State.groupOff_iff.mpr ho, State.groupFree_iff.mpr hf, if_pos hb]
  rfl

/-- R115: the last of the checks: the breakers to close, and the odd section's feeders of a CROSS_FED pair. -/
theorem State.energizeCheck_last (ho : s.groupOff i) (hf : s.groupFree i) (hb : s.baseOf i = i) :
    s.energizeCheck i = if (s.toClose i).any (fun b => !((s.entry? b).any (fun e => e.state == .held))) ||
      (s.modeOf i == .crossFed && (s.feedersOf (evenOf i + 1)).any (fun b => !s.readsOpen b)) then some .notRemote
      else none := by
  rw [State.energizeCheck, State.groupOff_iff.mpr ho, State.groupFree_iff.mpr hf, if_neg (not_not_intro hb)]
  rfl

theorem State.held_iff {b : Nat} :
    (s.entry? b).any (fun e => e.state == .held) = true ↔ ∃ e, s.entry? b = some e ∧ e.state = .held := by
  simp [Option.any_eq_true]

theorem State.not_held_iff {b : Nat} :
    (s.entry? b).any (fun e => e.state == .held) = false ↔ ∀ e, s.entry? b = some e → e.state ≠ .held := by
  rw [Bool.eq_false_iff, Ne, State.held_iff]
  simp

theorem State.energizeCheck_notRemote (ho : s.groupOff i) (hf : s.groupFree i) (hb : s.baseOf i = i)
    (h : (∃ b ∈ s.toClose i, ∀ e, s.entry? b = some e → e.state ≠ .held) ∨
      (s.modeOf i = .crossFed ∧ ∃ b ∈ s.feedersOf (evenOf i + 1), s.readsOpen b = false)) :
    s.energizeCheck i = some .notRemote := by
  rw [State.energizeCheck_last ho hf hb, if_pos]
  simpa only [Bool.or_eq_true, Bool.and_eq_true, List.any_eq_true, Bool.not_eq_true', State.not_held_iff,
    beq_iff_eq] using h

theorem State.energizeCheck_none (ho : s.groupOff i) (hf : s.groupFree i) (hb : s.baseOf i = i)
    (hc : ∀ b ∈ s.toClose i, ∃ e, s.entry? b = some e ∧ e.state = .held)
    (hx : s.modeOf i = .crossFed → ∀ b ∈ s.feedersOf (evenOf i + 1), s.readsOpen b = true) :
    s.energizeCheck i = none := by
  rw [State.energizeCheck_last ho hf hb, if_neg]
  simp only [Bool.or_eq_true, Bool.and_eq_true, List.any_eq_true, Bool.not_eq_true', State.not_held_iff, beq_iff_eq]
  rintro (⟨b, hb, hn⟩ | ⟨hm, b, hb, hn⟩)
  · obtain ⟨e, he, hh⟩ := hc b hb
    exact hn e he hh
  · exact Bool.false_ne_true (hn.symm.trans (hx hm b hb))

section
variable {tag : Byte}

theorem reqSecEnergize_refused {code : RefusalCode} (hi : i ≤ 23) (hc : s.sectCheck (u8 i) = none)
    (he : s.energizeCheck i = some code) : reqSecEnergize tag (u8 i) s = s.refuse tag code := by
  simp only [reqSecEnergize, hc, at8_u8_self (show i < 256 by omega), he]

theorem reqSecEnergize_starts (hi : i ≤ 23) (hc : s.sectCheck (u8 i) = none) (he : s.energizeCheck i = none) :
    reqSecEnergize tag (u8 i) s =
      ((s.changeTo (s.group i) .precharge).firstStep (s.baseOf i) i).post (.answer tag (.done [])) := by
  simp only [reqSecEnergize, hc, at8_u8_self (show i < 256 by omega), he]

end

theorem State.firstStep_tie {base named t : Nat} (ht : s.tieOf named = some t) : s.firstStep base named =
    (s.setSeq base (some (.energize named .tie [t] none none))).issueOrder t .closeFeed := by
  simp only [State.firstStep, ht]

theorem State.prechargeFirst_feeder {base named f : Nat} {ordered rest : List Nat} (hf : s.feedersOf named = f :: rest) :
    s.prechargeFirst base named ordered =
      (s.setSeq base (some (.energize named .prechargeClose (ordered ++ [f]) none none))).issueOrder f .closePrecharge := by
  simp only [State.prechargeFirst, hf]

theorem State.firstStep_precharge {base named f : Nat} {rest : List Nat} (ht : s.tieOf named = none)
    (hf : s.feedersOf named = f :: rest) : s.firstStep base named =
    (s.setSeq base (some (.energize named .prechargeClose [f] none none))).issueOrder f .closePrecharge := by
  simp only [State.firstStep, ht, State.prechargeFirst_feeder hf, List.nil_append]

end

/-- Settles O42: the checks in their order, then the first step by the tie. -/
theorem secEnergizeStartsTheSequence : Obligations.SecEnergizeStartsTheSequence := by
  unfold Obligations.SecEnergizeStartsTheSequence
  refine ⟨?_, fun base named s => ⟨State.tieOf_of_alone, State.tieOf_of_pair, fun t => State.firstStep_tie,
    fun f rest => State.firstStep_precharge⟩⟩
  intro tag i s hs hu hi hn
  have hc : s.framed.sectCheck (u8 i) = none := State.sectCheck_u8 (s := s) hu hi hn
  have hrefuse {code : RefusalCode} (h : s.framed.energizeCheck i = some code) :
      exec (.secEnergize tag (u8 i)) s = .next (s.framed.refuse tag code) :=
    exec_refuse rfl (by simp) hs (reqSecEnergize_refused hi hc h)
  refine ⟨fun h => hrefuse (s.framed.energizeCheck_wrongState h), fun ho => ⟨fun h => ?_, fun hf hb => ?_, fun hf hb => ⟨?_, ?_⟩⟩⟩
  · exact hrefuse (State.energizeCheck_locked (s := s.framed) ho h)
  · exact hrefuse (State.energizeCheck_pairSlaved (s := s.framed) ho hf hb)
  · exact fun h => hrefuse (State.energizeCheck_notRemote (s := s.framed) ho hf hb h)
  · intro hclose hodd
    have hb' : s.framed.baseOf i = i := hb
    have he := State.energizeCheck_none (s := s.framed) ho hf hb hclose hodd
    refine exec_settles rfl (by simp) hs ((reqSecEnergize_starts hi hc he).trans ?_)
    rw [hb']
    rfl

/-! ### PAIR_MODE (R125) -/

section
variable {s : State} {tag : Byte} {m : Nat} {mode : PairMode}

theorem pairModeOf_code (mode : PairMode) : pairModeOf mode.code = some mode := by
  cases mode <;> rfl

theorem State.pairExists_eq_false :
    s.pairExists m mode = false ↔
      s.tsv.pairs[m]? = none ∨ ∃ p, s.tsv.pairs[m]? = some p ∧ mode ≠ .independent ∧ p.tie = none := by
  unfold State.pairExists
  cases s.tsv.pairs[m]? with
  | none => simp
  | some p => simp

theorem reqPairMode_named (hu : s.lds.service ≠ .unconfigured) (hm : m ≤ 11) :
    reqPairMode tag (u8 m ++ u8 mode.code) s =
      if s.pairExists m mode = false then s.refuse tag .notFound
      else if (s.pairSects m).any (fun i => s.sectState i != .dead) then s.refuse tag .wrongState
      else if s.modeOf (2 * m) = mode then s.done tag []
      else s.changeMode tag m mode := by
  have h0 : at8 (u8 m ++ u8 mode.code) 0 = m := at8_u8 (by omega) _
  have h1 : at8 (u8 m ++ u8 mode.code) 1 = mode.code :=
    (at8_append_right (u8 m) (u8 mode.code) 0).trans (at8_u8_self (by cases mode <;> decide))
  have hd : (u8 m ++ u8 mode.code).length = 2 := rfl
  simp only [reqPairMode, h0, h1, pairModeOf_code]
  rw [if_neg (not_not_intro hd), if_neg hu, if_neg (Nat.not_lt.mpr hm)]
  simp only [Bool.not_eq_true']

end

/-- Settles O43. -/
theorem pairModeChangesADeadPair : Obligations.PairModeChangesADeadPair := by
  unfold Obligations.PairModeChangesADeadPair
  intro tag m mode s hs hu hm
  have hb := reqPairMode_named (s := s.framed) (tag := tag) (mode := mode) hu hm
  refine ⟨fun h => exec_refuse (code := .notFound) (kind := 0x43#8) rfl (by simp) hs (hb.trans (if_pos h)), fun h => ?_, State.pairExists_eq_false⟩
  have hb := hb.trans (if_neg (ne_false_of_eq_true h))
  refine ⟨fun hx => ?_, fun hd => ?_⟩
  · have hany : (s.pairSects m).any (fun i => s.sectState i != .dead) = true := by
      simpa using hx
    exact exec_refuse (code := .wrongState) (kind := 0x43#8) rfl (by simp) hs (hb.trans (if_pos hany))
  · have hnone : ¬ (s.pairSects m).any (fun i => s.sectState i != .dead) = true := by
      simpa using hd
    have hb := hb.trans (if_neg hnone)
    exact ⟨fun he => exec_done (kind := 0x43#8) rfl (by simp) hs (hb.trans (if_pos he)),
      fun he => exec_settles (kind := 0x43#8) rfl (by simp) hs (hb.trans (if_neg he))⟩

end Sys2Proof.Machine
end

section
/-! SUPPORT. The timers of the traction supervisor: O44 and O45. -/
namespace Sys2Proof.Machine

/-! ### Charging (R116, R117) -/

section
variable {s : State} {named base : Nat}

theorem State.chargeReached_iff {r : SectionRow} {v : Option Nat} (hr : s.sectRows[named]? = some r) :
    s.chargeReached named v = true ↔ r.chargeCheck = false ∨ ∃ x, v = some x ∧ s.params.nominal * 4 / 5 ≤ x := by
  unfold State.chargeReached
  rw [hr]
  simp only [Bool.or_eq_true, Bool.not_eq_true', Option.any_eq_true, decide_eq_true_eq]
  rfl

theorem State.usedFeeders_alone (hm : s.modeOf named = .independent) : s.usedFeeders named = s.feedersOf named := by
  simp only [State.usedFeeders, hm]

theorem State.usedFeeders_tied (hm : s.modeOf named = .tied) :
    s.usedFeeders named = s.feedersOf (2 * (named / 2)) ++ s.feedersOf (2 * (named / 2) + 1) := by
  simp only [State.usedFeeders, hm, State.groupFeeders, s.group_of_pair (by rw [hm]; nofun), evenOf,
    List.flatMap_cons, List.flatMap_nil, List.append_nil]

theorem State.usedFeeders_crossFed (hm : s.modeOf named = .crossFed) :
    s.usedFeeders named = s.feedersOf (2 * (named / 2)) := by
  simp only [State.usedFeeders, hm, evenOf]

section
variable {f : Nat} {todo awaited ordered : List Nat} {m v : Option Nat}

theorem nextClose_next (hq : s.seqOf base = some (.energize named (.feedClose (f :: todo) awaited) ordered m v)) :
    nextClose base s = ((s.setSeq base (some (.energize named (.feedClose todo (awaited ++ [f]))
      (if f ∈ ordered then ordered else ordered ++ [f]) m v))).issueOrder f .closeFeed).post (.nextClose base) := by
  simp only [nextClose, hq, List.contains_eq_mem, decide_eq_true_eq]

theorem nextClose_last (hq : s.seqOf base = some (.energize named (.feedClose [] awaited) ordered m v)) :
    nextClose base s = s := by
  simp only [nextClose, hq]

theorem State.prechargeExpiry_charged {i d : Nat}
    (hq : s.seqOf (s.baseOf i) = some (.energize named (.precharge d) ordered m v)) (hv : s.chargeReached named v = true) :
    s.prechargeExpiry i = ((s.reach d).setSeq (s.baseOf i)
      (some (.energize named (.feedClose (s.usedFeeders named) []) ordered m v))).post (.nextClose (s.baseOf i)) := by
  simp only [State.prechargeExpiry, hq]
  exact if_pos hv

theorem State.prechargeExpiry_failed {i d : Nat}
    (hq : s.seqOf (s.baseOf i) = some (.energize named (.precharge d) ordered m v))
    (hv : s.chargeReached named v = false) :
    s.prechargeExpiry i = (s.reach d).chargeFailure (s.baseOf i) named ordered := by
  simp only [State.prechargeExpiry, hq]
  exact if_neg (Bool.eq_false_iff.mp hv)

theorem State.prechargeExpiry_other {i : Nat}
    (hq : ∀ named d ordered m v, s.seqOf (s.baseOf i) ≠ some (.energize named (.precharge d) ordered m v)) :
    s.prechargeExpiry i = s := by
  unfold State.prechargeExpiry
  dsimp only
  split
  · next named d ordered m v h => exact absurd h (hq named d ordered m v)
  · rfl

variable {el : Nat}

theorem State.closeReached_prechargeClose {r : SectionRow} (hr : s.sectRows[named]? = some r) :
    s.closeReached base el named .prechargeClose ordered m v =
      s.setSeq base (some (.energize named (.precharge (s.tick + r.precharge * 1000)) ordered (some s.tick) none)) := by
  simp only [State.closeReached, State.inSeconds, hr, Option.map_some, Option.getD_some]

theorem State.closeReached_allClosed : s.closeReached base el named (.feedClose [] [el]) ordered m v =
    (s.setSeq base none).changeTo (s.group base) .live := by
  simp [State.closeReached]

theorem State.closeReached_awaiting {x : Nat} (hx : x ∈ todo ∨ (x ∈ awaited ∧ x ≠ el)) :
    s.closeReached base el named (.feedClose todo awaited) ordered m v =
      s.setSeq base (some (.energize named (.feedClose todo (awaited.filter (fun y => y != el))) ordered m v)) := by
  have hleft : ¬ (todo.isEmpty && (awaited.filter (fun y => y != el)).isEmpty) = true := by
    simp only [Bool.and_eq_true, List.isEmpty_iff]
    rintro ⟨htodo, hawaited⟩
    rcases hx with hx | ⟨hx, hne⟩
    · simp [htodo] at hx
    · exact List.filter_eq_nil_iff.mp hawaited x hx (by simpa using hne)
  exact if_neg hleft

end
end

/-! ### Undervoltage (R124) -/

section
variable {s : State} {i : Nat} {r : SectRec}

theorem State.voltageExpiry_absent (h : s.sect? i = none) : s.voltageExpiry i = s := by
  simp only [State.voltageExpiry, h]

theorem State.voltageExpiry_debounce {d : Nat} (h : s.sect? i = some r) (ht : r.timer = .debounce d) :
    s.voltageExpiry i = (s.reach d).setLow i := by
  simp only [State.voltageExpiry, h, ht]

theorem State.voltageExpiry_recovery {d : Nat} (h : s.sect? i = some r) (ht : r.timer = .recovery d) :
    s.voltageExpiry i = (s.reach d).clearLow i := by
  simp only [State.voltageExpiry, h, ht]

theorem State.voltageExpiry_stopped (h : s.sect? i = some r) (ht : r.timer = .stopped) : s.voltageExpiry i = s := by
  simp only [State.voltageExpiry, h, ht]

end

theorem sectionExists_of_lt {i : Nat} (hi : i < 24) : sectionExists i = true := decide_eq_true hi

/-- Settles O44: the precharge timer, the close orders and the voltage timer by the sequence and the timer that stand. -/
theorem sectionTimersJudgeTheVoltage : Obligations.SectionTimersJudgeTheVoltage := by
  unfold Obligations.SectionTimersJudgeTheVoltage
  refine ⟨⟨?_, ?_⟩, ⟨?_, ?_, ?_, ?_⟩, ?_, ?_⟩
  · exact fun i s hi hs hq =>
      exec_event_at_once rfl (sectionExists_of_lt hi) (State.prechargeExpiry_other hq) hs
  · exact fun i named d ordered m v s hi hq =>
      ⟨fun hv => exec_event_settles rfl (sectionExists_of_lt hi) (State.prechargeExpiry_charged hq hv),
        fun hv => exec_event_settles rfl (sectionExists_of_lt hi) (State.prechargeExpiry_failed hq hv)⟩
  · exact fun named r v s hr => State.chargeReached_iff hr
  · exact fun named s => ⟨State.usedFeeders_alone, State.usedFeeders_tied, State.usedFeeders_crossFed⟩
  · exact fun base named f todo awaited ordered m v s => ⟨nextClose_next, nextClose_last⟩
  · exact fun base el named ordered m v s => ⟨fun f rest hf => State.prechargeFirst_feeder hf,
      fun r hr => State.closeReached_prechargeClose hr, State.closeReached_allClosed,
      fun x todo awaited hx => State.closeReached_awaiting hx⟩
  · exact fun i s hi hr hs => exec_event_at_once rfl (sectionExists_of_lt hi) (State.voltageExpiry_absent hr) hs
  · exact fun i r s hi hr =>
      ⟨fun d ht => exec_event_settles rfl (sectionExists_of_lt hi) (State.voltageExpiry_debounce hr ht),
        fun d ht => exec_event_settles rfl (sectionExists_of_lt hi) (State.voltageExpiry_recovery hr ht),
        fun ht hs => exec_event_at_once rfl (sectionExists_of_lt hi) (State.voltageExpiry_stopped hr ht) hs⟩

/-! ### The meters and the wait list (R127, R130) -/

section
variable {s : State} {f train : Nat}

theorem State.meterStale_fresh {r : SubRec} {load moment : Nat} (hr : s.tsv.subs[f]? = some r) (hf : r.fresh = true)
    (hm : r.meas = some (load, moment)) : s.meterStale f =
      (((((s.reach (moment + 10000)).report .meterStale (some (.substation f)) none none).setSubs
        (s.tsv.subs.set f { r with fresh := false, staleReported := true })).judgeOverload f 0).post .reexamine) := by
  simp only [State.meterStale, hr, hf, hm, State.report_tsv]
  rfl

theorem State.meterStale_stale {r : SubRec} (hr : s.tsv.subs[f]? = some r) (h : r.fresh = false ∨ r.meas = none) :
    s.meterStale f = s := by
  rcases h with h | h
  · simp only [State.meterStale, hr, h]
  · simp only [State.meterStale, hr, h]
    cases r.fresh <;> rfl

theorem State.permitWaitLong_absent (h : s.tsv.waitList.find? (fun q => q.train == train) = none) :
    s.permitWaitLong train = s := by
  simp only [State.permitWaitLong, h]

theorem State.permitWaitLong_reported {r : PermitRequest} (h : s.tsv.waitList.find? (fun q => q.train == train) = some r)
    (hr : r.reported = true) : s.permitWaitLong train = s := by
  simp only [State.permitWaitLong, h, hr, if_true]

theorem State.permitWaitLong_due {r : PermitRequest} (h : s.tsv.waitList.find? (fun q => q.train == train) = some r)
    (hr : r.reported = false) {due : Nat} (hd : due = r.joined + s.params.permitWait * 1000 + 1) :
    s.permitWaitLong train = ((s.reach due).setWaitList
      (s.tsv.waitList.map (fun x => if x.train = train then { x with reported := true } else x))).report
        .permitWaitLong (some (.train train)) (some r.sect) (some ((max s.tick due - r.joined) / 1000)) := by
  simp only [State.permitWaitLong, h, hr, Bool.false_eq_true, if_false, ← hd]
  rfl

end

theorem trainIdExists_of_range {train : Nat} (h1 : 1 ≤ train) (h9 : train ≤ 999) : trainIdExists train = true :=
  (inRange_iff ..).mpr ⟨h1, h9⟩

/-- Settles O45. -/
theorem powerTimersReport : Obligations.PowerTimersReport := by
  unfold Obligations.PowerTimersReport
  refine ⟨?_, ?_, ?_⟩
  · intro f load moment r s hf hr
    have hw : (Instr.meterStale f).wellFormed = true := decide_eq_true hf
    exact ⟨fun hfr hm => exec_event_settles rfl hw (State.meterStale_fresh hr hfr hm),
      fun h hs => exec_event_at_once rfl hw (State.meterStale_stale hr h) hs⟩
  · exact fun train s hs h1 h9 hn =>
      exec_event_at_once rfl (trainIdExists_of_range h1 h9) (State.permitWaitLong_absent hn) hs
  · intro train r s hs h1 h9 hr
    refine ⟨fun hrep => exec_event_at_once rfl (trainIdExists_of_range h1 h9) (State.permitWaitLong_reported hr hrep) hs,
      fun hrep now hnow => exec_event_at_once rfl (trainIdExists_of_range h1 h9) ?_ ?_⟩
    · subst hnow
      exact State.permitWaitLong_due hr hrep rfl
    · have hs' : (({ s with tick := now }).setWaitList (s.tsv.waitList.map
          (fun x : PermitRequest => if x.train = train then { x with reported := true } else x))).settled := hs
      exact hs'.report _ _ _ _

end Sys2Proof.Machine
end

section
/-! SUPPORT. TRAIN_ADD and TRAIN_REMOVE (O29), and the hold reasons (O31). -/
namespace Sys2Proof.Machine

theorem State.post_eq_posts (n : Notice) (s : State) : s.post n = s.posts [n] := rfl

theorem State.posts_post (ns : List Notice) (n : Notice) (s : State) : (s.posts ns).post n = s.posts (ns ++ [n]) := by
  simp only [State.posts, State.post, List.append_assoc]

theorem State.posts_posts (ns ms : List Notice) (s : State) : (s.posts ns).posts ms = s.posts (ns ++ ms) := by
  simp only [State.posts, List.append_assoc]

theorem State.posts_nil (s : State) : s.posts [] = s := by
  simp only [State.posts, List.append_nil]

/-! ### TRAIN_ADD (R86) -/

section
variable {s : State}

theorem State.freeSlot_none (h : ∀ x ∈ s.reg.slots, x ≠ none) : s.freeSlot = none :=
  List.findIdx?_eq_none_iff.mpr fun x hx => Option.isNone_eq_false_iff.mpr (Option.isSome_iff_ne_none.mpr (h x hx))

theorem State.freeSlot_some {slot : Nat} (h : s.reg.slots[slot]? = some none)
    (hbelow : ∀ j, j < slot → ∃ t, s.reg.slots[j]? = some (some t)) : s.freeSlot = some slot := by
  obtain ⟨hlt, he⟩ := List.getElem?_eq_some_iff.mp h
  refine List.findIdx?_eq_some_iff_getElem.mpr ⟨hlt, by rw [he]; rfl, fun j hj => ?_⟩
  obtain ⟨t, ht⟩ := hbelow j hj
  obtain ⟨hj', he'⟩ := List.getElem?_eq_some_iff.mp ht
  simp [he']

theorem directionByte_of (up : Bool) :
    directionByte (if up then 0 else 1) = some (if up then Direction.up else Direction.down) := by
  cases up <;> rfl

section
variable {tag : Byte} {id trip : Nat} {up : Bool} (hu : s.lds.service ≠ .unconfigured)
  (h1 : 1 ≤ id) (h999 : id ≤ 999) (ht : trip ≤ 9999)
include hu h1 h999 ht

/-- R86: TRAIN_ADD of a train that R186 admits. -/
theorem reqTrainAdd_named : reqTrainAdd tag (u16 id ++ u8 (if up then 0 else 1) ++ u16 trip) s =
    if (s.slotOf id).isSome then s.refuse tag (.duplicate none)
    else s.freeSlot.elim (s.refuse tag (.tableFull none)) (fun slot => s.addTrain tag slot
      (Train.fresh id (if up then .up else .down) (if trip = 0 then none else some trip))) := by
  have hid : at16 (u16 id ++ u8 (if up then 0 else 1) ++ u16 trip) 0 = id := at16_of rfl rfl (by omega)
  have hdir : at8 (u16 id ++ u8 (if up then 0 else 1) ++ u16 trip) 2 = if up then 0 else 1 := by
    cases up <;> rfl
  have htrip : at16 (u16 id ++ u8 (if up then 0 else 1) ++ u16 trip) 3 = trip := at16_of rfl rfl (by omega)
  have hlen : (u16 id ++ u8 (if up then 0 else 1) ++ u16 trip).length = 5 := rfl
  have hok : (!inRange 1 999 id || decide (9999 < trip)) = false := by
    rw [(inRange_iff ..).mpr ⟨h1, h999⟩, decide_eq_false (Nat.not_lt.mpr ht)]
    rfl
  simp only [reqTrainAdd]
  rw [if_neg (not_not_intro hlen), if_neg hu, hid, hdir, htrip, directionByte_of]
  simp only [hok, Bool.false_eq_true, if_false]
  cases s.freeSlot <;> rfl

end

theorem State.addTrain_eq (tag : Byte) (slot id : Nat) (dir : Direction) (trip : Option Nat) :
    s.addTrain tag slot (Train.fresh id dir trip) = (s.setTrain slot (Train.fresh id dir trip)).posts
      [.load slot { train := id, phase := .run, level := 0, sect := none, running := false },
        .answer tag (.done (u8 slot))] := by
  rw [State.addTrain, State.setTrainLoad, State.post_eq_posts (.load _ _), State.posts_post]
  rfl

/-! ### The requests that name one train -/

theorem State.withTrain_found {tag : Byte} {id i : Nat} {act : Nat → State} (hu : s.lds.service ≠ .unconfigured)
    (h1 : 1 ≤ id) (h999 : id ≤ 999) (hi : s.slotOf id = some i) : s.withTrain tag (u16 id) act = act i := by
  have hid : at16 (u16 id) 0 = id := at16_u16_self (by omega)
  have hlen : (u16 id).length = 2 := rfl
  rw [State.withTrain, if_neg (not_not_intro hlen), if_neg hu, hid, (inRange_iff ..).mpr ⟨h1, h999⟩, hi]
  rfl

theorem reqTrainRemove_found {tag : Byte} {id i : Nat} {t : Train} (hu : s.lds.service ≠ .unconfigured)
    (h1 : 1 ≤ id) (h999 : id ≤ 999) (hi : s.slotOf id = some i) (ht : s.train? i = some t) :
    reqTrainRemove tag (u16 id) s = (s.removeTrain i t).post (.answer tag (.done [])) := by
  rw [reqTrainRemove, s.withTrain_found hu h1 h999 hi, ht]

/-- The train of a slot found by its identity has that identity. -/
theorem State.train_of_slotOf {id i : Nat} {t : Train} (hi : s.slotOf id = some i) (ht : s.train? i = some t) :
    t.id = id := by
  obtain ⟨hlt, hp, -⟩ := List.findIdx?_eq_some_iff_getElem.mp hi
  have he : s.reg.slots[i] = some t := by
    have hj : (s.reg.slots[i]?).join = some t := ht
    rwa [List.getElem?_eq_getElem hlt, Option.join_some] at hj
  rw [he] at hp
  simpa using hp

end

/-- Settles O29. -/
theorem trainsAreAddedAndRemoved : Obligations.TrainsAreAddedAndRemoved := by
  unfold Obligations.TrainsAreAddedAndRemoved
  refine ⟨?_, ?_⟩
  · intro tag id trip up s hs hu h1 h999 ht
    have hb := reqTrainAdd_named (s := s.framed) (tag := tag) (up := up) hu h1 h999 ht
    refine ⟨fun hne => ?_, fun hnone hfull => ?_, fun slot hnone hfree hbelow => ?_⟩
    · have hsome : (s.framed.slotOf id).isSome = true := Option.isSome_iff_ne_none.mpr hne
      exact exec_refuse (code := .duplicate none) (kind := 0x30#8) rfl (by simp) hs (hb.trans (if_pos hsome))
    · have hnone : s.framed.slotOf id = none := hnone
      rw [hnone, State.freeSlot_none (s := s.framed) hfull] at hb
      exact exec_refuse (code := .tableFull none) (kind := 0x30#8) rfl (by simp) hs hb
    · have hnone : s.framed.slotOf id = none := hnone
      rw [hnone, State.freeSlot_some (s := s.framed) hfree hbelow] at hb
      exact exec_settles (kind := 0x30#8) rfl (by simp) hs (hb.trans (State.addTrain_eq ..))
  · intro tag id i t s hs hu h1 h999 hi ht
    have hid : t.id = id := State.train_of_slotOf hi ht
    have hb := reqTrainRemove_found (s := s.framed) (tag := tag) hu h1 h999 hi ht
    refine exec_settles (kind := 0x32#8) rfl (by simp) hs (hb.trans ?_)
    rw [State.removeTrain, State.posts_post, hid]
    simp only [List.append_assoc, List.cons_append, List.nil_append]

/-! ### Hold reasons (R91 to R93) -/

section
variable {s : State} {slot : Nat} {st : Stand}

theorem State.holdTrain_without (h : s.stand? slot = none) : s.holdTrain slot = s.setHostHold slot true := by
  simp only [State.holdTrain, h]

theorem State.unholdTrain_without (h : s.stand? slot = none) : s.unholdTrain slot = s.setHostHold slot false := by
  simp only [State.unholdTrain, h]

theorem State.holdTrain_stand (h : s.stand? slot = some st) :
    s.holdTrain slot = (s.setHostHold slot true).holdChange slot (s.isHeld slot st) st := by
  simp only [State.holdTrain, h]

theorem State.unholdTrain_held (h : s.stand? slot = some st) (hr : s.hostHeld slot = true ∨ st.field = true) :
    s.unholdTrain slot = (s.setHostHold slot false).holdChange slot (s.isHeld slot st)
      { st with field := false, relFails := 0 } := by
  simp only [State.unholdTrain, h]
  exact if_pos ((Bool.or_eq_true ..).mpr hr)

theorem State.unholdTrain_free (h : s.stand? slot = some st) (hh : s.hostHeld slot = false) (hf : st.field = false) :
    s.unholdTrain slot = s := by
  simp only [State.unholdTrain, h, hh, hf, Bool.or_self, Bool.false_eq_true, if_false]

/-- R91: the HOST flag alone, answered for a train without a stand. -/
theorem settle_holds {tag : Byte} {id : Nat} {b : Bool} (hs : s.settled) (hi : s.slotOf id = some slot)
    (hn : s.stand? slot = none) (hlt : slot < s.rgl.hostHold.length) :
    settle ((s.setHostHold slot b).post (.answer tag (.holds id))) =
      (s.setHostHold slot b).done tag (u8 (holdBits b false false false)) := by
  have hheld : (s.setHostHold slot b).hostHeld slot = b := by
    simp [State.hostHeld, State.setHostHold, hlt]
  have hbits : (s.setHostHold slot b).holdsOf slot = holdBits b false false false := by
    have hn' : (s.setHostHold slot b).stand? slot = none := hn
    rw [State.holdsOf, hn', hheld]
  have hdata : (s.setHostHold slot b).answerData (.holds id) = u8 (holdBits b false false false) := by
    have hi' : (s.setHostHold slot b).slotOf id = some slot := hi
    rw [State.answerData, hi', Option.map_some, hbits, Option.getD_some]
  have hs' : (s.setHostHold slot b).settled := hs
  have hh : handle (.answer tag (.holds id)) (s.setHostHold slot b) =
      (s.setHostHold slot b).done tag (u8 (holdBits b false false false)) :=
    congrArg (fun x => (s.setHostHold slot b).done tag x) hdata
  rw [settle_post_settled hs' (by rw [hh]; exact hs'.done _ _), hh]

section
variable (h : (s.putStand slot st).isHeld slot st = true)
include h

/-- R93: the set of reasons has become non-empty. -/
theorem State.holdChange_held : s.holdChange slot false st = (s.putStand slot st).becameHeld slot st := by
  simp only [State.holdChange, h]

end

section
variable (h : (s.putStand slot st).isHeld slot st = false)
include h

theorem State.holdChange_free : s.holdChange slot true st = (s.putStand slot st).becameFree slot st := by
  simp only [State.holdChange, h]

end

theorem State.becameHeld_waiting (hp : st.phase = some .waitingPermit) : s.becameHeld slot st =
    (s.putStand slot { st with phase := some .held, permit := .none }).post (.permitWithdraw (s.idOf slot)) := by
  simp only [State.becameHeld, hp]

theorem State.becameHeld_releaseWaiting {tok : Nat} (hp : st.phase = some .released) (ho : st.order = .releaseWaiting tok) :
    s.becameHeld slot st = (s.putStand slot { st with phase := some .held, permit := .none, order := .dwell tok }).posts
      [.permitEnded (s.idOf slot), .permitReturned (s.idOf slot)] := by
  simp only [State.becameHeld, hp, ho, returnPermit]

theorem State.becameHeld_released {tok : Nat} (hp : st.phase = some .released)
    (ho : st.order = .none ∨ st.order = .release tok) :
    s.becameHeld slot st = if st.revokeFailed then s else s.issueRevoke slot st := by
  rcases ho with ho | ho <;> simp only [State.becameHeld, hp, ho]

theorem State.becameHeld_revoking {tok : Nat} (hp : st.phase = some .released) (ho : st.order = .revoke tok) :
    s.becameHeld slot st = s := by
  simp only [State.becameHeld, hp, ho]

theorem State.becameHeld_other (hw : st.phase ≠ some .waitingPermit) (hr : st.phase ≠ some .released) :
    s.becameHeld slot st = s := by
  unfold State.becameHeld
  split
  · next h => exact absurd h hw
  · next h => exact absurd h hr
  · rfl

theorem State.becameFree_held (hp : st.phase = some .held) : s.becameFree slot st = s.requestPermit slot st := by
  simp only [State.becameFree, hp]

theorem State.becameFree_other (hp : st.phase ≠ some .held) : s.becameFree slot st = s := by
  unfold State.becameFree
  split
  · next h => exact absurd h hp
  · rfl

end

/-! ### The outcomes of platform orders (R98 to R103) -/

theorem dwellReport_eq (train stop : Nat) (r : Result) :
    dwellReport train stop r = if r = .complete ∨ r = .already ∨ r = .superseded then []
      else [.report .dwellOrderFailed (some (.train train)) (some r.code) (some stop)] := by
  cases r <;> rfl

theorem Result.reached_iff (r : Result) : r.reached = true ↔ r = .complete ∨ r = .already := by
  cases r <;> simp [Result.reached]

section
variable {s : State} {o : OutcomeMsg} {i : Nat} {st : Stand}

theorem State.platformOutcome_unawaited (ha : s.awaiting o.token = none) : s.platformOutcome o = s.earlierOutcome o := by
  simp only [State.platformOutcome, ha]

theorem State.earlierOutcome_unawaited (ha : s.awaitingEarlier o.token = none) : s.earlierOutcome o = s := by
  simp only [State.earlierOutcome, ha]

theorem State.earlierOutcome_awaited (ha : s.awaitingEarlier o.token = some i) (hst : s.stand? i = some st) :
    s.earlierOutcome o = (s.posts (dwellReport (s.idOf i) st.stop o.result)).putStand i
      { st with earlier := st.earlier.filter (fun t => t != o.token) } := by
  simp only [State.earlierOutcome, ha, hst]

section
variable (ha : s.awaiting o.token = some i) (hst : s.stand? i = some st)
include ha hst

theorem State.platformOutcome_dwell {tok : Nat} (ho : st.order = .dwell tok) : s.platformOutcome o =
    (s.posts (dwellReport (s.idOf i) st.stop o.result)).putStand i { st with order := .none } := by
  simp only [State.platformOutcome, ha, hst, ho, State.dwellOutcome]

theorem State.platformOutcome_releaseWaiting {tok level : Nat} (ho : st.order = .releaseWaiting tok)
    (hp : st.permit = .granted level) (hr : st.phase = some .released) : s.platformOutcome o =
    (s.posts (dwellReport (s.idOf i) st.stop o.result)).issueRelease i level st := by
  simp only [State.platformOutcome, ha, hst, ho, State.dwellOutcome, hp, hr, if_true]

theorem State.platformOutcome_release {tok : Nat} (ho : st.order = .release tok) :
    s.platformOutcome o = s.releaseOutcome i st o.result := by
  simp only [State.platformOutcome, ha, hst, ho]

theorem State.platformOutcome_revoke {tok : Nat} (ho : st.order = .revoke tok) :
    s.platformOutcome o = s.revokeOutcome i st o.result := by
  simp only [State.platformOutcome, ha, hst, ho]

end

theorem State.releaseOutcome_reached {r : Result} (h : r = .complete ∨ r = .already) :
    s.releaseOutcome i st r = s.putStand i { st with order := .none, relFails := 0 } := by
  rcases h with rfl | rfl <;> rfl

theorem State.releaseOutcome_failed {r : Result} (hc : r ≠ .complete) (ha : r ≠ .already) (hs : r ≠ .superseded) :
    s.releaseOutcome i st r = s.releaseFailure i st r := by
  cases r with
  | complete => exact absurd rfl hc
  | already => exact absurd rfl ha
  | superseded => exact absurd rfl hs
  | _ => rfl

theorem State.revokeOutcome_reached {r : Result} (h : r = .complete ∨ r = .already) :
    s.revokeOutcome i st r = s.revokeReached i st := if_pos (r.reached_iff.mpr h)

theorem State.revokeOutcome_failed {r : Result} (hc : r ≠ .complete) (ha : r ≠ .already) : s.revokeOutcome i st r =
    (s.putStand i { st with revokeFailed := true, order := .none }).post (.raise .orderFailure st.el) :=
  if_neg fun h => (r.reached_iff.mp h).elim hc ha

theorem State.startDwelling_dwelling {train tok : Nat} {pl : Plan} (ho : st.order = .dwell tok) :
    s.startDwelling i train st pl = ((s.putStand i { st with
      phase := some .dwelling, plan := some pl, order := .dwell s.nextToken,
      earlier := st.earlier ++ [tok] }).issueOrder st.el (.dwell train pl.tDep pl.dwell)).post (.due i) := by
  simp only [State.startDwelling, ho, PlatformOrder.dwells]

end

/-- Settles O31: TRAIN_HOLD and TRAIN_UNHOLD, what a change of the reasons does by phase, what an outcome does by order. -/
theorem holdsAreSetAndActByPhase : Obligations.HoldsAreSetAndActByPhase := by
  unfold Obligations.HoldsAreSetAndActByPhase
  refine ⟨?_, ?_, ?_⟩
  · intro tag id i s hs hshape hu h1 h999 hi
    have hold {t : State} (h : (s.framed.holdTrain i) = t) :
        dispatch 0x33#8 tag (u16 id) s.framed = t.post (.answer tag (.holds id)) := by
      subst h
      show reqTrainHold tag (u16 id) s.framed = _
      rw [reqTrainHold, State.withTrain_found (s := s.framed) hu h1 h999 hi, at16_u16_self (by omega)]
    have unhold {t : State} (h : (s.framed.unholdTrain i) = t) :
        dispatch 0x34#8 tag (u16 id) s.framed = t.post (.answer tag (.holds id)) := by
      subst h
      show reqTrainUnhold tag (u16 id) s.framed = _
      rw [reqTrainUnhold, State.withTrain_found (s := s.framed) hu h1 h999 hi, at16_u16_self (by omega)]
    refine ⟨fun hn => ?_, fun st hst => ⟨?_, fun hr => ?_, fun ⟨hh, hf⟩ => ?_⟩⟩
    · have hlt : i < s.framed.rgl.hostHold.length := by
        obtain ⟨hslots, -, -, hhold, -⟩ := hshape
        obtain ⟨hlt, -, -⟩ := List.findIdx?_eq_some_iff_getElem.mp hi
        change i < s.rgl.hostHold.length
        rw [hhold, ← hslots]
        exact hlt
      exact ⟨(exec_settles rfl (by simp) hs (hold (State.holdTrain_without (s := s.framed) hn))).trans
          (congrArg _ (settle_holds (s := s.framed) hs.1 hi hn hlt)),
        (exec_settles rfl (by simp) hs (unhold (State.unholdTrain_without (s := s.framed) hn))).trans
          (congrArg _ (settle_holds (s := s.framed) hs.1 hi hn hlt))⟩
    · exact exec_settles rfl (by simp) hs (hold (State.holdTrain_stand (s := s.framed) hst))
    · exact exec_settles rfl (by simp) hs (unhold (State.unholdTrain_held (s := s.framed) hst hr))
    · exact exec_settles rfl (by simp) hs (unhold (State.unholdTrain_free (s := s.framed) hst hh hf))
  · intro slot st s
    refine ⟨fun b hb => ?_, fun h => ?_, fun h => ?_⟩
    · simp only [State.holdChange, hb]
    · rw [State.holdChange_held h]
      refine ⟨State.becameHeld_waiting, fun tok => State.becameHeld_releaseWaiting, fun tok hp ho => ⟨fun hf => ?_, fun hf => ?_⟩,
        fun tok => State.becameHeld_revoking, fun hp => State.becameHeld_other ?_ ?_⟩
      · exact (State.becameHeld_released hp ho).trans (if_neg (ne_true_of_eq_false hf))
      · exact (State.becameHeld_released hp ho).trans (if_pos hf)
      · intro hw
        simp [hw] at hp
      · intro hw
        simp [hw] at hp
    · rw [State.holdChange_free h]
      exact ⟨State.becameFree_held, State.becameFree_other⟩
  · intro o s
    refine ⟨fun ha he => ?_, ?_, fun slot train st pl tok => State.startDwelling_dwelling, ?_⟩
    · rw [State.platformOutcome_unawaited ha, State.earlierOutcome_unawaited he]
    · rintro i st ha he hst report rfl
      rw [State.platformOutcome_unawaited ha, State.earlierOutcome_awaited he hst, dwellReport_eq]
    · rintro i st ha hst back after rfl rfl report rfl
      rw [← dwellReport_eq]
      refine ⟨fun tok => State.platformOutcome_dwell ha hst, fun tok level => State.platformOutcome_releaseWaiting ha hst,
        fun tok ho => ?_, fun tok ho => ?_⟩
      · rw [State.platformOutcome_release ha hst ho]
        exact ⟨State.releaseOutcome_reached, fun h => by rw [h]; rfl, State.releaseOutcome_failed⟩
      · rw [State.platformOutcome_revoke ha hst ho]
        exact ⟨State.revokeOutcome_reached, State.revokeOutcome_failed⟩

end Sys2Proof.Machine
end

section
/-! SUPPORT. Line time (O25). -/
namespace Sys2Proof.Machine

/-- R14: the clock at the day limit carries the reported mark, and setting it is reported. -/
theorem State.limitReport_eq (s : State) : s.limitReport =
    if s.clock.time = 107999 ∧ s.clock.limitReported = false then
      State.report .serviceDayLimit none none none { s with clock := { s.clock with limitReported := true } }
    else s := rfl

/-- R14, R15: the reported mark `r` that a new time `v` has before it is judged, with the mark `m` it has after. -/
theorem State.limitReport_marked (s : State) (v e : Nat) (r m : Bool)
    (hm : m = (r || v == 107999)) :
    State.limitReport { s with clock := { time := v, running := true, limitReported := r, secondEnd := e } } =
      if v = 107999 ∧ r = false then
        State.report .serviceDayLimit none none none
          { s with clock := { time := v, running := true, limitReported := m, secondEnd := e } }
      else { s with clock := { time := v, running := true, limitReported := m, secondEnd := e } } := by
  rw [State.limitReport_eq]
  by_cases h : v = 107999 ∧ r = false
  · obtain ⟨rfl, rfl⟩ := h
    subst hm
    rfl
  · have hr : m = r := by
      cases r with
      | true => exact hm
      | false => rw [hm, Bool.false_or, beq_eq_false_iff_ne]; exact fun he => h ⟨he, rfl⟩
    rw [if_neg h, if_neg h, hr]

theorem apart_le_iff (a b : Nat) : ¬ 30 < apart a b ↔ b ≤ a + 30 ∧ a ≤ b + 30 := by
  unfold apart
  omega

theorem active_iff (x : ServiceState) : x.active = true ↔ x = .inService ∨ x = .suspended := by
  cases x <;> simp [ServiceState.active]

theorem not_active_iff (x : ServiceState) : ¬ x.active = true ↔ x = .unconfigured ∨ x = .configured := by
  cases x <;> simp [ServiceState.active]

theorem State.standSlots_of_rgl {s t : State} (h : t.rgl = s.rgl) : t.standSlots = s.standSlots := by
  unfold State.standSlots State.stand?
  rw [h]

theorem State.timeSeen_of_rgl {s t : State} (h : t.rgl = s.rgl) :
    t.timeSeen = t.posts (s.standSlots.map Notice.due ++ [.expire]) := by
  unfold State.timeSeen
  rw [State.standSlots_of_rgl h]

section
variable {tag : Byte} {v : Nat} {s : State}

theorem reqSetLineTime_late (hv : v < 16777216) (h : 107999 < v) :
    reqSetLineTime tag (u24 v) s = s.refuse tag .badValue := by
  have hn : at24 (u24 v) 0 = v := at24_of rfl rfl rfl hv
  have hlen : (u24 v).length = 3 := rfl
  have hlast : Config.lastLineTime < v := h
  rw [reqSetLineTime, if_neg (not_not_intro hlen), hn, if_pos hlast]

theorem reqSetLineTime_judged (h : v ≤ 107999) :
    reqSetLineTime tag (u24 v) s =
      if s.lds.service.active ∧ 30 < apart v s.clock.time then s.refuse tag .clockStep
      else ((s.setClock v).limitReport.timeSeen).post (.answer tag (.done [])) := by
  have hn : at24 (u24 v) 0 = v := at24_of rfl rfl rfl (by omega)
  have hlen : (u24 v).length = 3 := rfl
  have hlast : ¬ Config.lastLineTime < v := Nat.not_lt.mpr h
  rw [reqSetLineTime, if_neg (not_not_intro hlen), hn, if_neg hlast]

/-- R15: a value that SET_LINE_TIME takes. -/
def State.takesTime (s : State) (v : Nat) : Prop :=
  s.lds.service = .unconfigured ∨ s.lds.service = .configured ∨ (s.clock.time ≤ v + 30 ∧ v ≤ s.clock.time + 30)

theorem reqSetLineTime_taken (h : v ≤ 107999) (ht : s.takesTime v) :
    reqSetLineTime tag (u24 v) s = ((s.setClock v).limitReport.timeSeen).post (.answer tag (.done [])) := by
  rw [reqSetLineTime_judged h, if_neg]
  rintro ⟨ha, hstep⟩
  have hno := (active_iff _).mp ha
  rcases ht with ht | ht | ht
  · simp [ht] at hno
  · simp [ht] at hno
  · exact (apart_le_iff ..).mpr ht hstep

/-- R15: the line clock as SET_LINE_TIME leaves it. -/
def State.clockSet (s : State) (v : Nat) : State :=
  { s with clock := { time := v, running := true, limitReported := v == 107999, secondEnd := s.tick + 1000 } }

theorem State.setClock_limitReport (s : State) (v : Nat) : (s.setClock v).limitReport =
    if v = 107999 ∧ s.clock.limitReported = false then
      (s.clockSet v).report .serviceDayLimit none none none else s.clockSet v := by
  have hm : (v == 107999) = ((s.clock.limitReported && v == 107999) || v == 107999) := by
    cases s.clock.limitReported <;> simp
  refine (State.limitReport_marked s v (s.tick + 1000) (s.clock.limitReported && v == 107999) _ hm).trans ?_
  by_cases h : v = 107999
  · subst h
    simp [State.clockSet]
  · rw [if_neg (fun hc => h hc.1), if_neg (fun hc => h hc.1)]
    rfl

theorem exec_setLineTime_taken (hs : s.ready) (h : v ≤ 107999) (ht : s.takesTime v) :
    exec (.setLineTime tag (u24 v)) s = .next (settle (State.post (.answer tag (.done []))
      (State.posts (s.standSlots.map Notice.due ++ [.expire])
        (if v = 107999 ∧ s.clock.limitReported = false then
          (s.framed.clockSet v).report .serviceDayLimit none none none else s.framed.clockSet v)))) := by
  have hb : dispatch 0x18#8 tag (u24 v) s.framed = _ := reqSetLineTime_taken (s := s.framed) h ht
  rw [State.setClock_limitReport] at hb
  refine exec_settles rfl (by simp) hs (hb.trans (congrArg _ (State.timeSeen_of_rgl ?_)))
  split <;> simp [State.clockSet, State.framed]

end

/-! ### A second of counting (R14) -/

section
variable {s : State}

/-- R14: the line clock after a second that it counts. -/
def State.clockCounted (s : State) : State :=
  { s with tick := max s.tick s.clock.secondEnd,
           clock := { time := s.clock.time + 1, running := true,
                      limitReported := s.clock.limitReported || s.clock.time + 1 == 107999,
                      secondEnd := s.clock.secondEnd + 1000 } }

theorem State.lineTimeCount_idle (h : s.clock.running = false) : s.lineTimeCount = s :=
  if_neg (Bool.eq_false_iff.mp h)

theorem State.lineTimeCount_last (hr : s.clock.running = true) (h : 107999 ≤ s.clock.time) : s.lineTimeCount =
    { s with tick := max s.tick s.clock.secondEnd, clock := { s.clock with secondEnd := s.clock.secondEnd + 1000 } } := by
  have hlast : ¬ s.clock.time < Config.lastLineTime := Nat.not_lt.mpr h
  rw [State.lineTimeCount, if_pos hr]
  exact if_neg hlast

/-- R14: the time after the second, with the day limit judged. -/
theorem State.limitReport_counted (s : State) (hr : s.clock.running = true) :
    State.limitReport (State.setTime (s.clock.time + 1)
      { s with tick := max s.tick s.clock.secondEnd,
               clock := { s.clock with secondEnd := s.clock.secondEnd + 1000 } }) =
      if s.clock.time + 1 = 107999 ∧ s.clock.limitReported = false then
        s.clockCounted.report .serviceDayLimit none none none else s.clockCounted := by
  have h := State.limitReport_marked { s with tick := max s.tick s.clock.secondEnd } (s.clock.time + 1)
    (s.clock.secondEnd + 1000) s.clock.limitReported _ rfl
  refine Eq.trans ?_ h
  simp only [State.setTime, hr]

/-- R159, R160: the releases of a minute boundary. -/
def State.minuteReleases (s : State) : List Notice :=
  (((List.range s.anp.triggers.length).filter (fun z => s.anp.triggers[z]? == some .minute)).flatMap
    (fun z => (List.range s.anp.stations.length).filter (fun i =>
      (s.anp.stations[i]?).any (fun r => r.zone == z)))).map Notice.releaseStation

theorem State.minuteBoundary_eq (s : State) : s.minuteBoundary = s.posts s.minuteReleases := by
  have hp : (fun z : Nat => (s.anp.triggers[z]?).any (fun t => t == Trigger.minute)) =
      (fun z => s.anp.triggers[z]? == some Trigger.minute) := by
    funext z
    cases s.anp.triggers[z]? <;> rfl
  unfold State.minuteBoundary State.releases State.triggered numbersBelow
  rw [hp]
  rfl

theorem State.countUp_eq (s : State) : s.countUp =
    (if (s.clock.time + 1) % 60 = 0 then ((s.setTime (s.clock.time + 1)).limitReport.posts s.minuteReleases)
      else (s.setTime (s.clock.time + 1)).limitReport).posts (s.standSlots.map Notice.due ++ [.expire]) := by
  have hsame : (s.setTime (s.clock.time + 1)).limitReport.rgl = s.rgl ∧
      (s.setTime (s.clock.time + 1)).limitReport.anp = s.anp := by
    rw [State.limitReport_eq]
    split <;> simp [State.setTime]
  obtain ⟨hrgl, hanp⟩ := hsame
  have hreleases : (s.setTime (s.clock.time + 1)).limitReport.minuteReleases = s.minuteReleases := by
    unfold State.minuteReleases
    rw [hanp]
  unfold State.countUp
  dsimp only
  rw [State.limitReport_time, State.minuteBoundary_eq, hreleases]
  refine State.timeSeen_of_rgl ?_
  split <;> exact hrgl

theorem exec_lineTimeCount (hr : s.clock.running = true) (h : s.clock.time < 107999) {w : State}
    (hw : w = if s.clock.time + 1 = 107999 ∧ s.clock.limitReported = false then
      s.clockCounted.report .serviceDayLimit none none none else s.clockCounted) :
    exec .lineTimeCount s = .next (settle (State.posts (s.standSlots.map Notice.due ++ [.expire])
      (if (s.clock.time + 1) % 60 = 0 then w.posts s.minuteReleases else w))) := by
  refine exec_event_settles rfl rfl ?_
  have hlast : s.clock.time < Config.lastLineTime := h
  change s.lineTimeCount = _
  rw [State.lineTimeCount, if_pos hr]
  refine (if_pos hlast).trans ((State.countUp_eq _).trans ?_)
  rw [hw, ← State.limitReport_counted s hr]
  rfl

end

/-! ### What a new line time brings about -/

theorem State.mem_standSlots {s : State} {i : Nat} : i ∈ s.standSlots ↔ i < 40 ∧ ∃ st, s.stand? i = some st := by
  unfold State.standSlots numbersBelow
  rw [List.mem_filter, List.mem_range, Option.isSome_iff_exists]
  exact Iff.rfl

theorem State.standSlots_sorted (s : State) : s.standSlots.Pairwise (· < ·) :=
  List.pairwise_lt_range.filter _

section
variable {slot : Nat} {st : Stand} {p : Plan} {s : State} (hst : s.stand? slot = some st)
include hst

theorem due_dwelling (hp : st.plan = some p) (hd : st.phase = some .dwelling) : due slot s =
    if p.reached s.clock.time then
      if s.isHeld slot st then s.putStand slot { st with phase := some .held } else s.requestPermit slot st
    else s := by
  simp only [due, hst, hd, hp]

theorem due_not_dwelling (hd : st.phase ≠ some .dwelling) : due slot s = s := by
  simp only [due, hst]
  split
  · next h _ => exact absurd h hd
  · rfl

end

/-- Settles O25: the clock by the value set or the second counted, then the stands by ascending slot and the entries. -/
theorem lineTimeIsSetAndCounted : Obligations.LineTimeIsSetAndCounted := by
  unfold Obligations.LineTimeIsSetAndCounted
  refine ⟨?_, ?_, ?_, ?_, ?_, ?_, ?_⟩
  · intro tag v s hs hv
    refine ⟨fun h => exec_refuse (code := .badValue) rfl (by simp) hs (reqSetLineTime_late hv h),
      fun h ha hstep => exec_refuse (code := .clockStep) rfl (by simp) hs ?_, fun h ht => ⟨_, exec_setLineTime_taken hs h ht, ?_⟩⟩
    · refine (reqSetLineTime_judged (s := s.framed) h).trans (if_pos ⟨(active_iff _).mpr ha, ?_⟩)
      change 30 < apart v s.clock.time
      unfold apart
      omega
    · constructor
      · rw [lds_of_fixed (settle_fixed _), State.post_lds, State.posts_lds]
        split <;> simp [State.clockSet]
        all_goals rfl
      · rw [clock_of_fixed (settle_fixed _), State.post_clock, State.posts_clock]
        split <;> simp [State.clockSet]
        all_goals rfl
  · intro s hs
    refine ⟨fun h => exec_event_at_once rfl rfl (State.lineTimeCount_idle h) hs,
      fun hr h => ⟨_, exec_lineTimeCount hr h rfl, ?_⟩,
      fun hr h => exec_event_at_once rfl rfl (State.lineTimeCount_last hr h) hs⟩
    constructor
    · rw [lds_of_fixed (settle_fixed _), State.posts_lds]
      repeat' split
      all_goals simp [State.clockCounted]
    · rw [clock_of_fixed (settle_fixed _), State.posts_clock]
      repeat' split
      all_goals simp [State.clockCounted]
  · rintro tag v s hs h ht u w rfl rfl
    exact exec_setLineTime_taken hs h ht
  · rintro s - hr h u w x rfl rfl rfl
    exact exec_lineTimeCount hr h rfl
  · exact fun s => ⟨s.standSlots_sorted, fun i => State.mem_standSlots, fun slot => rfl, rfl⟩
  · intro slot st p s hst hp
    refine ⟨fun hd hr => ?_, fun hd hlt hne => ?_, due_not_dwelling hst⟩
    · rw [due_dwelling hst hp hd, if_pos ((Plan.reached_iff ..).mpr hr)]
      exact ⟨fun h => if_pos h, fun h => if_neg (ne_true_of_eq_false h)⟩
    · rw [due_dwelling hst hp hd, if_neg]
      rw [Plan.reached_iff]
      omega
  · rintro s stale rfl
    rfl

end Sys2Proof.Machine
end

section
/-! SUPPORT. The service actions (O24). -/
namespace Sys2Proof.Machine

/-! ### Notices that bring about nothing -/

theorem State.settledThrough_idle {s : State} {n : Notice} (hs : s.settled) (hn : (handle n s).settled)
    {ns : List Notice} (hidle : ∀ m ∈ ns, handle m s = s) : s.settledThrough (ns ++ [n]) := by
  induction ns with
  | nil => exact ⟨hs, hn⟩
  | cons m ns ih =>
    refine ⟨hs, ?_⟩
    rw [hidle m List.mem_cons_self]
    exact ih fun x hx => hidle x (List.mem_cons_of_mem _ hx)

/-- Notices whose blocks do nothing on them run out without a trace, before one that is taken. -/
theorem settle_idle_posts {s : State} {n : Notice} (hs : s.settled) (hn : (handle n s).settled) {ns : List Notice}
    (hlen : ns.length < 99999) (hidle : ∀ m ∈ ns, handle m s = s) : settle (s.posts (ns ++ [n])) = handle n s := by
  have hfold : ns.foldl (fun t m => handle m t) s = s := by
    induction ns with
    | nil => rfl
    | cons m ns ih =>
      rw [List.foldl_cons, hidle m List.mem_cons_self]
      exact ih (Nat.lt_of_succ_lt hlen) fun x hx => hidle x (List.mem_cons_of_mem _ hx)
  rw [settle_posts_through (State.settledThrough_idle hs hn hidle) (by simp only [List.length_append, List.length_singleton]; omega),
    List.foldl_append, hfold]
  rfl

/-! ### The actions that the table gives no row (R13) -/

section
variable {tag : Byte} {s : State} {n : Nat} {a : ServiceAction}

theorem reqService_none (hn : actionOf n = some a) (hlt : n < 256) (ha : s.serviceAfter a = none) :
    reqService tag (u8 n) s = s.refuse tag .wrongState := by
  have hlen : (u8 n).length = 1 := rfl
  rw [reqService, if_neg (not_not_intro hlen), at8_u8_self hlt, hn]
  simp only [ha]

theorem reqService_some {new : ServiceState} (hn : actionOf n = some a) (hlt : n < 256)
    (ha : s.serviceAfter a = some new) : reqService tag (u8 n) s = s.serviceChange tag a new := by
  have hlen : (u8 n).length = 1 := rfl
  rw [reqService, if_neg (not_not_intro hlen), at8_u8_self hlt, hn]
  simp only [ha]

theorem State.serviceAfter_start_none (h : s.lds.service ≠ .configured ∨ s.clock.running = false) :
    s.serviceAfter .start = none := by
  unfold State.serviceAfter
  cases hs : s.lds.service with
  | configured => simp [h.resolve_left (not_not_intro hs)]
  | _ => rfl

theorem State.serviceAfter_suspend_none (h : s.lds.service ≠ .inService) : s.serviceAfter .suspend = none := by
  unfold State.serviceAfter
  cases hs : s.lds.service with
  | inService => exact absurd hs h
  | _ => rfl

theorem State.serviceAfter_resume_none (h : s.lds.service ≠ .suspended) : s.serviceAfter .resume = none := by
  unfold State.serviceAfter
  cases hs : s.lds.service with
  | suspended => exact absurd hs h
  | _ => rfl

theorem State.serviceAfter_finish_none (h : s.lds.service ≠ .inService ∧ s.lds.service ≠ .suspended) :
    s.serviceAfter .finish = none := by
  unfold State.serviceAfter
  cases hs : s.lds.service with
  | inService => exact absurd hs h.1
  | suspended => exact absurd hs h.2
  | _ => rfl

theorem State.serviceAfter_start (h : s.lds.service = .configured) (hr : s.clock.running = true) :
    s.serviceAfter .start = some .inService := by
  simp [State.serviceAfter, h, hr]

theorem State.serviceAfter_suspend (h : s.lds.service = .inService) : s.serviceAfter .suspend = some .suspended := by
  simp [State.serviceAfter, h]

theorem State.serviceAfter_resume (h : s.lds.service = .suspended) : s.serviceAfter .resume = some .inService := by
  simp [State.serviceAfter, h]

theorem State.serviceAfter_finish (h : s.lds.service = .inService ∨ s.lds.service = .suspended) :
    s.serviceAfter .finish = some .configured := by
  rcases h with h | h <;> simp [State.serviceAfter, h]

end

section
variable {tag : Byte} {s : State} {c : Instr} {n : Nat} {a : ServiceAction} {new : ServiceState}
  (hf : frameOf c = some (0x19#8, tag, u8 n)) (hn : actionOf n = some a) (hlt : n < 256) (hs : s.ready)
include hf hn hlt hs

theorem exec_service_refused (ha : s.serviceAfter a = none) : exec c s = .next (s.framed.refuse tag .wrongState) :=
  exec_refuse hf (by simp) hs (reqService_none (s := s.framed) hn hlt ha)

theorem exec_service_changed (ha : s.serviceAfter a = some new) :
    exec c s = .next (settle (s.framed.serviceChange tag a new)) :=
  exec_settles hf (by simp) hs (reqService_some (s := s.framed) hn hlt ha)

/-- R13: an action moves the service state and leaves the rest of the description and the clock. -/
theorem exec_service_moves (ha : s.serviceAfter a = some new) : ∃ t, exec c s = .next t ∧
    t.lds = { s.lds with service := new } ∧ t.clock = s.clock := by
  have hfix : (settle (s.framed.serviceChange tag a new)).fixed = (s.framed.setService new).fixed :=
    (settle_fixed _).trans (State.serviceChange_fixed ..)
  exact ⟨_, exec_service_changed hf hn hlt hs ha, lds_of_fixed hfix,
    (clock_of_fixed hfix).trans rfl⟩

end

/-! ### A line without stands -/

section
variable {s : State}

theorem State.standSlots_none (h : ∀ st ∈ s.rgl.stands, st = none) : s.standSlots = [] := by
  refine List.filter_eq_nil_iff.mpr fun i _ => ?_
  have hnone : s.stand? i = none := by
    unfold State.stand?
    cases hi : s.rgl.stands[i]? with
    | none => rfl
    | some st => rw [h st (List.mem_of_getElem? hi)]; rfl
  simp [hnone]

theorem State.eachStand_none {act : Nat → State → State} (h : ∀ st ∈ s.rgl.stands, st = none) :
    s.eachStand act = s := by
  unfold State.eachStand
  rw [s.standSlots_none h]
  rfl

theorem State.settled.setService (h : s.settled) (x : ServiceState) : (s.setService x).settled := h

/-- R13: an action on a line without stands, but START. -/
theorem settle_serviceChange {tag : Byte} {a : ServiceAction} {new : ServiceState} (hs : s.settled)
    (hn : ∀ st ∈ s.rgl.stands, st = none) (ha : a ≠ .start) : settle (s.serviceChange tag a new) =
      ((s.setService new).report .serviceState none (some s.lds.service.code) (some new.code)).done tag [] := by
  have hstands : ∀ st ∈ ((s.setService new).serviceReport s.lds.service new).rgl.stands, st = none := by
    rw [State.serviceReport, State.report_rgl]
    exact hn
  have heff : ((s.setService new).serviceReport s.lds.service new).serviceEffect a =
      (s.setService new).serviceReport s.lds.service new := by
    cases a with
    | start => exact absurd rfl ha
    | suspend | resume | finish => exact State.eachStand_none hstands
  rw [State.serviceChange, heff]
  exact settle_answer tag [] _ ((hs.setService new).report _ _ _ _)

/-- R30: a poll of a link that is neither UP nor LOOPBACK does nothing. -/
theorem State.poll_quiet {i el : Nat} (h : ∀ l, s.links[i]? = some l → l.state ≠ .up ∧ l.state ≠ .loopback) :
    s.poll i el = s := by
  unfold State.poll
  cases hl : s.links[i]? with
  | none => rfl
  | some l =>
    obtain ⟨hup, hloop⟩ := h l hl
    simp [hup, hloop]

theorem pollAll_quiet (h : ∀ l ∈ s.links, l.state = .disabled ∨ l.state = .down) : pollAll s = s := by
  have hpoll : ∀ (t : State) (e : MirrorEntry), t = s → t.poll e.link e.el = s := by
    rintro t e rfl
    refine State.poll_quiet fun l hl => ?_
    rcases h l (List.mem_of_getElem? hl) with hd | hd <;> simp [hd]
  exact foldl_preserves (P := fun t => t = s) hpoll _ rfl

theorem judge_without_display {i : Nat} (h : ∀ r ∈ s.anp.stations, r.display = none) : judge i s = s := by
  unfold judge State.station?
  cases hi : s.anp.stations[i]? with
  | none => rfl
  | some r => simp only [h r (List.mem_of_getElem? hi)]

/-- R166: SERVICE START on a line without stands, displays or connected links. -/
theorem settle_serviceStart {tag : Byte} (hs : s.settled) (hn : ∀ st ∈ s.rgl.stands, st = none)
    (hlen : s.anp.stations.length ≤ 32) (hd : ∀ r ∈ s.anp.stations, r.display = none)
    (hl : ∀ l ∈ s.links, l.state = .disabled ∨ l.state = .down) {u : State}
    (hu : u = (s.setService .inService).report .serviceState none (some s.lds.service.code) (some 2)) :
    settle (s.serviceChange tag .start .inService) = State.done tag [] { u with anp := { u.anp with
      stations := u.anp.stations.map (fun r => { r with status := .noDisplay }) } } := by
  have hanp : u.anp = s.anp := by rw [hu, State.report_anp]; rfl
  have hlinks : u.links = s.links := by rw [hu, State.report_links]; rfl
  have hrgl : u.rgl = s.rgl := by rw [hu, State.report_rgl]; rfl
  have hset : u.settled := by rw [hu]; exact (hs.setService _).report _ _ _ _
  generalize hv : ({ u with anp := { u.anp with
    stations := u.anp.stations.map (fun r => { r with status := .noDisplay }) } } : State) = v
  have hvset : v.settled := by rw [← hv]; exact hset
  have hvlinks : ∀ l ∈ v.links, l.state = .disabled ∨ l.state = .down := by
    rw [← hv]
    change ∀ l ∈ u.links, _
    rw [hlinks]
    exact hl
  have hvd : ∀ r ∈ v.anp.stations, r.display = none := by
    rw [← hv]
    change ∀ r ∈ u.anp.stations.map _, _
    rw [hanp]
    intro r hr
    obtain ⟨x, hx, rfl⟩ := List.mem_map.mp hr
    exact hd x hx
  have hstart : u.startDisplays = v.posts ((List.range u.anp.stations.length).map .judge) := by
    rw [← hv]
    unfold State.startDisplays
    refine congrArg (State.posts _) ?_
    have hmap : u.anp.stations.map (fun r => { r with status := freshStatus r.display }) =
        u.anp.stations.map (fun r => { r with status := .noDisplay }) := by
      refine List.map_congr_left fun r hr => ?_
      rw [hanp] at hr
      rw [hd r hr]
      rfl
    rw [hmap]
  have hstands : ∀ st ∈ (u.startDisplays.post .pollAll).rgl.stands, st = none := by
    change ∀ st ∈ u.rgl.stands, _
    rw [hrgl]
    exact hn
  have hchange : s.serviceChange tag .start .inService =
      v.posts ((List.range u.anp.stations.length).map .judge ++ [.pollAll] ++ [.answer tag (.done [])]) := by
    have heq : s.serviceChange tag .start .inService =
        (((u.startDisplays).post .pollAll).eachStand startStand).post (.answer tag (.done [])) := by
      rw [hu]
      rfl
    rw [heq, State.eachStand_none hstands, hstart, State.posts_post, State.posts_post]
  have hh : handle (.answer tag (.done [])) v = v.done tag [] := rfl
  rw [hchange, ← hh]
  refine settle_idle_posts hvset (by rw [hh]; exact hvset.done _ _) ?_ ?_
  · simp only [List.length_append, List.length_map, List.length_range, List.length_singleton, hanp]
    omega
  · intro m hm
    rcases List.mem_append.mp hm with hm | hm
    · obtain ⟨i, -, rfl⟩ := List.mem_map.mp hm
      exact judge_without_display hvd
    · rw [List.mem_singleton.mp hm]
      exact pollAll_quiet hvlinks

end

/-! ### The polls of SERVICE START (R30) -/

section
variable {s : State} {i j el el' : Nat}

/-- The elements with a mirror entry. -/
def State.els (s : State) : List Nat := s.mirror.map (·.el)

theorem State.entry?_of_mem_els (h : el ∈ s.els) : ∃ e, s.entry? el = some e ∧ e.el = el := by
  obtain ⟨e, he, rfl⟩ := List.mem_map.mp h
  cases hf : s.entry? e.el with
  | none => exact absurd (List.find?_eq_none.mp hf e he) (by simp)
  | some x => exact ⟨x, rfl, by simpa using List.find?_some hf⟩

theorem State.setEntry_els (e : MirrorEntry) (s : State) : (s.setEntry e).els = s.els := by
  unfold State.els State.setEntry
  rw [List.map_map]
  refine List.map_congr_left fun x _ => ?_
  simp only [Function.comp_apply]
  split
  · next h => exact h.symm
  · rfl

/-- R29, R30: an element of a link awaits its poll, or the transmitter has taken it. -/
def LinkRec.polled (el : Nat) (l : LinkRec) : Prop :=
  el ∈ l.polls ∨ ∃ a q left, l.sender = some { what := .poll el a q, left := left }

def LinkRec.open (l : LinkRec) : Prop := l.state = .up ∨ l.state = .loopback

/-- R30: an element of the mirror on a link that is UP or in LOOPBACK. -/
def State.pollable (s : State) (i el : Nat) : Prop := el ∈ s.els ∧ ∃ l, s.links[i]? = some l ∧ l.open

/-- R30: such an element, awaiting its poll or with the poll under way. -/
def State.polls (s : State) (i el : Nat) : Prop := el ∈ s.els ∧ ∃ l, s.links[i]? = some l ∧ l.open ∧ l.polled el

theorem State.setLink_at {l m : LinkRec} (h : s.links[i]? = some l) : (s.setLink i m).links[i]? = some m := by
  obtain ⟨hlt, -⟩ := List.getElem?_eq_some_iff.mp h
  rw [State.setLink_links, List.getElem?_set_self hlt]

theorem State.setLink_other {m : LinkRec} (h : i ≠ j) : (s.setLink i m).links[j]? = s.links[j]? := by
  rw [State.setLink_links, List.getElem?_set_ne h]

/-- R29: what a choice leaves of the link: its state, and its polls, unless the first of them is taken or has no entry. -/
theorem State.choose_link {l : LinkRec} (h : s.links[i]? = some l) : ∃ m, (s.choose i l).links[i]? = some m ∧
    m.state = l.state ∧ (m.polls = l.polls ∨ ∃ x rest, l.polls = x :: rest ∧ m.polls = rest ∧
      (s.entry? x = none ∨ ∃ a q left, m.sender = some { what := .poll x a q, left := left })) := by
  unfold State.choose
  split
  · exact ⟨_, State.setLink_at h, rfl, .inl rfl⟩
  split
  · exact ⟨_, State.setLink_at h, rfl, .inl rfl⟩
  split
  · next x rest hp =>
    split
    · next e he => exact ⟨_, State.setLink_at (s := s.setEntry _) h, rfl, .inr ⟨x, rest, hp, rfl, .inr ⟨_, _, _, rfl⟩⟩⟩
    · next he => exact ⟨_, State.setLink_at h, rfl, .inr ⟨x, rest, hp, rfl, .inl he⟩⟩
  split
  · exact ⟨l, h, rfl, .inl rfl⟩
  split
  · exact ⟨_, State.setLink_at h, rfl, .inl rfl⟩
  · exact ⟨l, h, rfl, .inl rfl⟩

theorem State.choose_keeps (l : LinkRec) (s : State) :
    (s.choose i l).els = s.els ∧ ∀ j, i ≠ j → (s.choose i l).links[j]? = s.links[j]? := by
  unfold State.choose
  repeat' split
  all_goals first
    | exact ⟨rfl, fun j hj => rfl⟩
    | exact ⟨rfl, fun j hj => State.setLink_other hj⟩
    | exact ⟨State.setEntry_els _ s, fun j hj => State.setLink_other (s := s.setEntry _) hj⟩

theorem State.kick_keeps (s : State) :
    (s.kick i).els = s.els ∧ ∀ j, i ≠ j → (s.kick i).links[j]? = s.links[j]? := by
  unfold State.kick
  repeat' split
  · exact ⟨rfl, fun _ _ => rfl⟩
  · exact State.choose_keeps _ s
  · exact ⟨rfl, fun _ _ => rfl⟩

/-- R29: a poll that waits is still there, or has become the transmitter's. -/
theorem State.polls.kick (h : s.polls i el) (j : Nat) : (s.kick j).polls i el := by
  obtain ⟨hel, l, hl, hopen, hpolled⟩ := h
  obtain ⟨hels, hother⟩ := State.kick_keeps (i := j) s
  refine ⟨by rwa [hels], ?_⟩
  by_cases hj : j = i
  · subst hj
    unfold State.kick
    rw [hl]
    dsimp only
    split
    · next hidle =>
      obtain ⟨hsender, -⟩ := (Bool.and_eq_true ..).mp hidle
      have hin : el ∈ l.polls := by
        rcases hpolled with hin | ⟨a, q, left, hs⟩
        · exact hin
        · rw [hs] at hsender
          cases hsender
      obtain ⟨m, hm, hstate, hpolls⟩ := State.choose_link hl
      refine ⟨m, hm, hopen.imp (hstate.trans ·) (hstate.trans ·), ?_⟩
      rcases hpolls with hsame | ⟨x, rest, hx, hrest, htaken⟩
      · exact .inl (hsame ▸ hin)
      · rw [hx] at hin
        rcases List.mem_cons.mp hin with rfl | hin
        · obtain ⟨e, he, -⟩ := State.entry?_of_mem_els hel
          rcases htaken with hn | htaken
          · rw [he] at hn
            cases hn
          · exact .inr htaken
        · exact .inl (hrest ▸ hin)
    · exact ⟨l, hl, hopen, hpolled⟩
  · exact ⟨l, (hother i hj).trans hl, hopen, hpolled⟩

theorem State.poll_cases (j el' : Nat) (s : State) : s.poll j el' = s ∨ ∃ l, s.links[j]? = some l ∧
    s.poll j el' = (s.setLink j { l with polls := l.polls ++ [el'] }).kick j := by
  unfold State.poll
  split
  · exact .inl rfl
  · next l hl =>
    split
    · exact .inr ⟨l, hl, rfl⟩
    · exact .inl rfl

theorem State.polls.poll (h : s.polls i el) (j el' : Nat) : (s.poll j el').polls i el := by
  rcases s.poll_cases j el' with he | ⟨m, hm, he⟩
  · rwa [he]
  · rw [he]
    refine State.polls.kick ?_ j
    obtain ⟨hel, l, hl, hopen, hpolled⟩ := h
    by_cases hj : j = i
    · subst hj
      cases hm.symm.trans hl
      exact ⟨hel, _, State.setLink_at hl, hopen, hpolled.imp_left (List.mem_append_left _)⟩
    · exact ⟨hel, l, (State.setLink_other hj).trans hl, hopen, hpolled⟩

theorem State.pollable.kick (h : s.pollable i el) (j : Nat) : (s.kick j).pollable i el := by
  obtain ⟨hel, l, hl, hopen⟩ := h
  obtain ⟨hels, hother⟩ := State.kick_keeps (i := j) s
  refine ⟨by rwa [hels], ?_⟩
  by_cases hj : j = i
  · subst hj
    unfold State.kick
    rw [hl]
    dsimp only
    split
    · obtain ⟨m, hm, hstate, -⟩ := State.choose_link hl
      exact ⟨m, hm, hopen.imp (hstate.trans ·) (hstate.trans ·)⟩
    · exact ⟨l, hl, hopen⟩
  · exact ⟨l, (hother i hj).trans hl, hopen⟩

theorem State.pollable.poll (h : s.pollable i el) (j el' : Nat) : (s.poll j el').pollable i el := by
  rcases s.poll_cases j el' with he | ⟨m, hm, he⟩
  · rwa [he]
  · rw [he]
    refine State.pollable.kick ?_ j
    obtain ⟨hel, l, hl, hopen⟩ := h
    by_cases hj : j = i
    · subst hj
      cases hm.symm.trans hl
      exact ⟨hel, _, State.setLink_at hl, hopen⟩
    · exact ⟨hel, l, (State.setLink_other hj).trans hl, hopen⟩

/-- R30: a poll asked for waits or is under way. -/
theorem State.pollable.polls (h : s.pollable i el) : (s.poll i el).polls i el := by
  obtain ⟨hel, l, hl, hopen⟩ := h
  have hup : (l.state == .up || l.state == .loopback) = true := by
    rw [Bool.or_eq_true, beq_iff_eq, beq_iff_eq]
    exact hopen
  unfold State.poll
  rw [hl]
  dsimp only
  by_cases hin : el ∈ l.polls
  · rw [if_neg (by simp [hin])]
    exact ⟨hel, l, hl, hopen, .inl hin⟩
  · rw [if_pos (by simp [hup, hin])]
    have hjoined : (s.setLink i { l with polls := l.polls ++ [el] }).polls i el :=
      ⟨hel, _, State.setLink_at hl, hopen, .inl (List.mem_append_right _ (List.mem_singleton_self el))⟩
    exact hjoined.kick i

/-- R56: every element of the mirror on an open link is polled. -/
theorem pollAll_polls {e : MirrorEntry} {l : LinkRec} (he : e ∈ s.mirror) (hl : s.links[e.link]? = some l) (ho : l.open) :
    (pollAll s).polls e.link e.el := by
  have hstart : s.pollable e.link e.el := ⟨List.mem_map_of_mem he, l, hl, ho⟩
  obtain ⟨before, after, hm⟩ := List.append_of_mem he
  unfold pollAll
  rw [hm, List.foldl_append, List.foldl_cons]
  exact foldl_preserves (P := fun t => t.polls e.link e.el) (fun t x ht => ht.poll x.link x.el) after
    (State.pollable.polls
      (foldl_preserves (P := fun t => t.pollable e.link e.el) (fun t x ht => ht.poll x.link x.el) before hstart))

end

/-- Settles O24: the table's rows, the actions on a line without stands, SERVICE START in full. -/
theorem serviceActionsMoveTheState : Obligations.ServiceActionsMoveTheState := by
  unfold Obligations.ServiceActionsMoveTheState
  refine ⟨?_, ?_, ?_, ?_, ?_⟩
  · intro tag s hs
    exact ⟨fun h => exec_service_refused (n := 1) rfl rfl (by omega) hs (State.serviceAfter_start_none h),
      fun h => exec_service_refused (n := 2) rfl rfl (by omega) hs (State.serviceAfter_suspend_none h),
      fun h => exec_service_refused (n := 3) rfl rfl (by omega) hs (State.serviceAfter_resume_none h),
      fun h => exec_service_refused (n := 4) rfl rfl (by omega) hs (State.serviceAfter_finish_none h)⟩
  · intro tag s hs
    exact ⟨fun h hr => exec_service_moves (n := 1) rfl rfl (by omega) hs (State.serviceAfter_start h hr),
      fun h => exec_service_moves (n := 2) rfl rfl (by omega) hs (State.serviceAfter_suspend h),
      fun h => exec_service_moves (n := 3) rfl rfl (by omega) hs (State.serviceAfter_resume h),
      fun h => exec_service_moves (n := 4) rfl rfl (by omega) hs (State.serviceAfter_finish h)⟩
  · intro tag s hs hn
    have hfinish (h : s.lds.service = .inService ∨ s.lds.service = .suspended) : exec (.serviceEnd tag) s =
        .next (((s.framed.setService .configured).report .serviceState none (some s.lds.service.code) (some 1)).done
          tag []) :=
      (exec_service_changed (n := 4) rfl rfl (by omega) hs (State.serviceAfter_finish h)).trans
        (congrArg _ (settle_serviceChange (a := .finish) hs.1.framed hn (by decide)))
    refine ⟨fun hc hr hlen hd hl u hu => ?_, fun h => ⟨?_, ?_⟩, fun h => ⟨?_, ?_⟩⟩
    · refine (exec_service_changed (n := 1) rfl rfl (by omega) hs (State.serviceAfter_start hc hr)).trans
        (congrArg _ (settle_serviceStart hs.1.framed hn hlen hd hl (hu.trans ?_)))
      change _ = (s.framed.setService .inService).report .serviceState none (some s.lds.service.code) (some 2)
      rw [hc]
      rfl
    · refine (exec_service_changed (n := 2) rfl rfl (by omega) hs (State.serviceAfter_suspend h)).trans
        (congrArg _ ((settle_serviceChange (a := .suspend) hs.1.framed hn (by decide)).trans ?_))
      change State.done tag [] ((s.framed.setService .suspended).report .serviceState none (some s.lds.service.code) _) = _
      rw [h]
      rfl
    · rw [hfinish (.inl h), h]
      rfl
    · refine (exec_service_changed (n := 3) rfl rfl (by omega) hs (State.serviceAfter_resume h)).trans
        (congrArg _ ((settle_serviceChange (a := .resume) hs.1.framed hn (by decide)).trans ?_))
      change State.done tag [] ((s.framed.setService .inService).report .serviceState none (some s.lds.service.code) _) = _
      rw [h]
      rfl
    · rw [hfinish (.inr h), h]
      rfl
  · rintro tag s u hs hc hr rfl
    refine (exec_service_changed (n := 1) rfl rfl (by omega) hs (State.serviceAfter_start hc hr)).trans ?_
    have hstatus (d : Option Nat) : freshStatus d = if d = none then .noDisplay else .neverSent := by
      cases d <;> rfl
    simp only [State.serviceChange, State.serviceEffect, State.startDisplays, State.posts_post, hstatus,
      State.serviceReport, State.report_anp]
    have hc' : s.framed.lds.service = .configured := hc
    rw [hc']
    rfl
  · intro s e l he hl ho
    obtain ⟨-, x, hx, -, hp⟩ := pollAll_polls he hl ho
    exact ⟨x, hx, hp⟩

end Sys2Proof.Machine
end

section
/-! SUPPORT. Grants and run levels (O36), and the train records (O37). -/
namespace Sys2Proof.Machine

/-! ### Run levels (R99) -/

theorem runLevel_eq (lo hi p r t : Nat) : runLevel (some (lo, hi)) (some p) (some r) t =
    if lo + 3 * (hi - lo) / 3 + t ≤ p + r then 3
    else if lo + 2 * (hi - lo) / 3 + t ≤ p + r then 2
    else if lo + 1 * (hi - lo) / 3 + t ≤ p + r then 1
    else 0 := rfl

theorem runLevel_le (lo hi p r t : Nat) : runLevel (some (lo, hi)) (some p) (some r) t ≤ 3 := by
  rw [runLevel_eq]
  repeat' split
  all_goals omega

/-- R99: no level above the one chosen is in time. -/
theorem runLevel_highest {lo hi p r t j : Nat} (hj : j ≤ 3) (h : lo + j * (hi - lo) / 3 + t ≤ p + r) :
    j ≤ runLevel (some (lo, hi)) (some p) (some r) t := by
  rw [runLevel_eq]
  by_cases h3 : lo + 3 * (hi - lo) / 3 + t ≤ p + r
  · rwa [if_pos h3]
  have hne3 : j ≠ 3 := fun he => h3 (he ▸ h)
  rw [if_neg h3]
  by_cases h2 : lo + 2 * (hi - lo) / 3 + t ≤ p + r
  · rw [if_pos h2]
    omega
  have hne2 : j ≠ 2 := fun he => h2 (he ▸ h)
  rw [if_neg h2]
  by_cases h1 : lo + 1 * (hi - lo) / 3 + t ≤ p + r
  · rw [if_pos h1]
    omega
  have hne1 : j ≠ 1 := fun he => h1 (he ▸ h)
  rw [if_neg h1]
  omega

theorem runLevel_inTime {lo hi p r t : Nat} (h : runLevel (some (lo, hi)) (some p) (some r) t ≠ 0) :
    lo + runLevel (some (lo, hi)) (some p) (some r) t * (hi - lo) / 3 + t ≤ p + r := by
  rw [runLevel_eq] at h ⊢
  split
  · next h3 => exact h3
  split
  · next h2 => exact h2
  split
  · next h1 => exact h1
  · next h3 h2 h1 =>
    rw [if_neg h3, if_neg h2, if_neg h1] at h
    exact absurd rfl h

theorem runLevel_absent {b : Option (Nat × Nat)} {p r : Option Nat} (t : Nat) (h : b = none ∨ p = none ∨ r = none) :
    runLevel b p r t = 0 := by
  cases b with
  | none => rfl
  | some b =>
    cases p with
    | none => rfl
    | some p =>
      cases r with
      | none => rfl
      | some r => simp at h

section
variable {s : State} {train t i : Nat} {st : Stand} (hi : s.slotOf train = some i) (hst : s.stand? i = some st)
include hi hst

theorem granted_returned (hp : st.phase ≠ some .waitingPermit) : granted train t s = s.posts (returnPermit train) := by
  simp only [granted, hi, hst, if_neg hp]

theorem granted_taken (hp : st.phase = some .waitingPermit) : granted train t s = s.takeGrant i train t st := by
  simp only [granted, hi, hst, if_pos hp]

end

/-- Settles O36. -/
theorem grantsSetTheRunLevel : Obligations.GrantsSetTheRunLevel := by
  unfold Obligations.GrantsSetTheRunLevel
  refine ⟨⟨fun lo hi p r t => ⟨runLevel_le .., fun j => runLevel_highest, runLevel_inTime⟩,
    fun b p r t => runLevel_absent t⟩, ?_⟩
  intro train t i st s hi hst
  refine ⟨granted_returned hi hst, ?_⟩
  rintro level rfl hp
  rw [granted_taken hi hst hp]
  refine ⟨fun ho => ?_, fun tok ho => ?_⟩
  · simp only [State.takeGrant, ho]
    rfl
  · simp only [State.takeGrant, ho]

/-! ### Records of trains (R78 to R82) -/

theorem Train.windowCut_eq (t : Train) :
    t.windowCut = { t with permit := t.permit && t.startDeadline.isNone, startDeadline := none } := by
  unfold Train.windowCut
  cases h : t.startDeadline with
  | none =>
    simp only [Option.isSome_none, Option.isNone_none, Bool.and_true]
    rw [if_neg Bool.false_ne_true, ← h]
  | some d => simp

theorem State.endStartWindow_eq (t : Train) (s : State) :
    s.endStartWindow t = if t.startDeadline = none then s else s.post (.permitEnded t.id) := by
  unfold State.endStartWindow
  cases t.startDeadline <;> rfl

theorem directionOf_eq (stop : Nat) : directionOf stop = if stop % 2 = 0 then .up else .down := by
  simp [directionOf, isUp]

section
variable {t : Train} {stop a d deadline : Nat} {m : Option Matched} {late : Option Int}

theorem Train.arrived_eq : t.arrived stop a m =
    { t with permit := t.permit && t.startDeadline.isNone, startDeadline := none, pos := .atStop, stop := some stop,
             dir := directionOf stop, arr := some { time := a, tentative := false }, depLate := none, level := 0,
             saved := none, entry := m, terminating := m.any (fun m => m.rp.isNone), arrLate := arrivalLateness a m,
             phase := .aux } := by
  rw [Train.arrived, Train.windowCut_eq]

theorem Train.departed_running (h : t.terminating = false) : t.departed d late deadline =
    { t with dep := some { time := d, tentative := false }, depLate := late, entry := none, saved := none,
             startDeadline := if t.permit then some deadline else none, pos := .running,
             phase := if t.permit then .starting else .run } :=
  if_neg (Bool.eq_false_iff.mp h)

theorem Train.departed_turning (h : t.terminating = true) : t.departed d late deadline =
    { t with dep := some { time := d, tentative := false }, depLate := late, entry := none, saved := none,
             startDeadline := if t.permit then some deadline else none, pos := .turning, terminating := false,
             trip := t.following.head?, following := t.following.tail,
             phase := if t.permit then .starting else .aux } :=
  if_pos h

end

/-! ### Confirmed events (R78, R79, R81) -/

section
variable {s : State} {train stop i : Nat} {t : Train}

theorem confirmedEvent_unknown {arrival : Bool} (h : s.slotOf train = none) :
    confirmedEvent arrival train stop s = s.report .unknownTrain (some (.train train)) (some stop) none := by
  cases arrival <;> simp only [confirmedEvent, State.judgeArrival, State.judgeDeparture, h] <;> rfl

theorem State.settleArrival_conflict (h : s.occupant stop ≠ none) :
    s.settleArrival i t stop = (((s.endStartWindow t).ttRelease t.id).setTrainLoad i
      { t with pos := .unlocated, stop := some stop, saved := none, entry := none, terminating := false, phase := .run,
               level := 0, startDeadline := none, permit := t.permit && t.startDeadline.isNone }).post
        (.raise .platformConflict stop) := by
  rw [State.settleArrival, if_pos (Option.isSome_iff_ne_none.mpr h), State.conflict, Train.windowCut_eq]

section
variable (h : s.occupant stop = none)
include h

theorem State.settleArrival_jump {k : Nat} (hp : t.pos = .running) (hk : t.stop = some k) (hn : s.nextStop k ≠ some stop) :
    s.settleArrival i t stop =
      (s.post (.report .positionJump (some (.train t.id)) (some k) (some stop))).acceptArrival i t stop s.clock.time := by
  rw [State.settleArrival, h]
  simp only [hp, hk, if_neg hn, Option.isSome_none, Bool.false_eq_true, if_false]
  rfl

theorem State.settleArrival_expected (hp : t.pos = .unlocated ∨ t.pos = .turning ∨
    (t.pos = .running ∧ ∀ k, t.stop = some k → s.nextStop k = some stop)) :
    s.settleArrival i t stop = s.acceptArrival i t stop s.clock.time := by
  rw [State.settleArrival, h]
  rcases hp with hp | hp | ⟨hp, hn⟩
  · simp [hp]
  · simp [hp]
  · cases hk : t.stop with
    | none => simp [hp]
    | some k => simp [hp, hn k hk]

end

theorem State.acceptArrival_eq {a : Nat} : s.acceptArrival i t stop a =
    (((t.trip.map (fun trip => (s.endStartWindow t).ttBind t.id trip stop)).getD (s.endStartWindow t)).setTrainLoad i
      (t.arrived stop a (s.arrivalBinding t stop))).posts
        [.standArrived i, .resolve .stranded t.id,
         .report .arrived (some (.train t.id)) (some stop)
           (some (((t.arrived stop a (s.arrivalBinding t stop)).arrLate + 1000).toNat)), .trainArrived stop] := by
  unfold State.acceptArrival
  cases t.trip <;> rfl

section
variable (hi : s.slotOf train = some i) (ht : s.train? i = some t)
include hi ht

theorem confirmedEvent_departure_running (hp : t.pos = .running) (hs : t.stop ≠ some stop) (hv : t.saved = none) :
    confirmedEvent false train stop s = s.post (.positionReport train stop t.stop true) := by
  simp [confirmedEvent, State.judgeDeparture, hi, ht, hp, if_neg hs, hv]

theorem confirmedEvent_departure_unlocated (hp : t.pos = .unlocated) :
    confirmedEvent false train stop s = s.post (.positionReport train stop t.stop (t.stop != some stop)) := by
  simp [confirmedEvent, State.judgeDeparture, hi, ht, hp]

theorem positionReport_eq (was : Option Nat) (jump : Bool) : positionReport train stop was jump s =
    (((s.endStartWindow t).ttDepart t.id stop t.trip s.clock.time).setTrainLoad i
      { t with pos := .running, stop := some stop, saved := none, entry := none, terminating := false, phase := .run,
               level := 0, dep := some { time := s.clock.time, tentative := false }, depLate := none,
               startDeadline := none, permit := t.permit && t.startDeadline.isNone }).posts
      ((if jump then [.report .positionJump (some (.train t.id)) was (some stop)] else []) ++
        [.report .departed (some (.train t.id)) (some stop) none, .trainDeparted t.id stop]) := by
  simp only [positionReport, hi, ht, Train.windowCut_eq]
  rfl

end

end

/-! ### Tentative events (R75 to R77) -/

section
variable {s : State} {link el train : Nat} {arrival : Bool}

/-- R75: the slot a tentative event fills. -/
def State.slotFor (s : State) (el : Nat) (arrival : Bool) (train : Nat) (x : TentativeStatus) : TentativeSlot :=
  { el := el, arrival := arrival, train := train, stop := s.stopOfElement el, status := x }

theorem tentativeEvent_unplaced (h : s.stopOfElement el = none ∨ s.slotOf train = none) :
    tentativeEvent link el arrival train s = s.setTentative link (some (s.slotFor el arrival train .declined)) := by
  unfold tentativeEvent
  rcases h with h | h
  · simp only [h]
    simp [State.slotFor, h]
  · simp only [h]
    cases hk : s.stopOfElement el <;> simp [State.slotFor, hk]

section
variable {k i : Nat} {t : Train} (hk : s.stopOfElement el = some k) (hi : s.slotOf train = some i)
  (ht : s.train? i = some t)
include hk hi ht

theorem tentativeEvent_arrival : tentativeEvent link el true train s =
    if s.arrivalApplies t k then
      ((s.setTentative link (some (s.slotFor el true train .applied))).setTrain i
        { t with saved := t.save, pos := .atStop, stop := some k,
                 arr := some { time := s.clock.time, tentative := true } }).post (.standTentative i)
    else s.setTentative link (some (s.slotFor el true train .declined)) := by
  simp only [tentativeEvent, hk, hi, ht, State.slotFor, if_true]

theorem tentativeEvent_departure : tentativeEvent link el false train s =
    if t.pos = .atStop ∧ t.stop = some k ∧ t.saved = none then
      (s.setTentative link (some (s.slotFor el false train .applied))).setTrain i
        { t with saved := t.save, pos := .running, dep := some { time := s.clock.time, tentative := true } }
    else s.setTentative link (some (s.slotFor el false train .declined)) := by
  simp only [tentativeEvent, hk, hi, ht, State.slotFor, Bool.false_eq_true, if_false]

end

theorem State.arrivalApplies_iff {t : Train} {k : Nat} : s.arrivalApplies t k = true ↔
    s.occupant k = none ∧ (t.pos = .unlocated ∨ t.pos = .turning ∨ (t.pos = .running ∧ t.saved = none)) := by
  unfold State.arrivalApplies
  cases t.pos <;> simp [and_comm]

theorem State.not_arrivalApplies {t : Train} {k : Nat}
    (h : s.occupant k ≠ none ∨ t.pos = .atStop ∨ (t.pos = .running ∧ t.saved ≠ none)) :
    ¬ s.arrivalApplies t k = true := by
  rw [State.arrivalApplies_iff]
  rintro ⟨ho, hp⟩
  rcases h with h | h | ⟨h, hs⟩
  · exact h ho
  · simp [h] at hp
  · simp [h, hs] at hp

/-! ### The end of a tentative event (R77) -/

section
variable {confirmed : Bool} {x : TentativeSlot}

theorem tentativeEnd_absent (h : (s.reg.tentative[link]?).join = none) : tentativeEnd link confirmed s = s := by
  simp only [tentativeEnd, h]

section
variable (hx : (s.reg.tentative[link]?).join = some x)
include hx

theorem tentativeEnd_withdrawn (ha : x.status ≠ .applied) (hc : confirmed = false) :
    tentativeEnd link confirmed s = s.setTentative link none := by
  cases hs : x.status with
  | applied => exact absurd hs ha
  | declined | voided => simp only [tentativeEnd, hx, hs, hc]

theorem tentativeEnd_unplaced (ha : x.status ≠ .applied) (hk : x.stop = none) :
    tentativeEnd link confirmed s = s.setTentative link none := by
  cases hs : x.status with
  | applied => exact absurd hs ha
  | declined | voided => cases confirmed <;> simp only [tentativeEnd, hx, hs, hk]

theorem tentativeEnd_judged {k : Nat} (ha : x.status ≠ .applied) (hc : confirmed = true) (hk : x.stop = some k) :
    tentativeEnd link confirmed s = if inRange 1 999 x.train then
      (s.setTentative link none).post (.confirmedEvent x.arrival x.train k) else s.setTentative link none := by
  cases hs : x.status with
  | applied => exact absurd hs ha
  | declined | voided => simp only [tentativeEnd, hx, hs, hc, hk]

theorem tentativeEnd_confirmed {k : Nat} (ha : x.status ≠ .applied) (hc : confirmed = true) (hk : x.stop = some k)
    (h1 : 1 ≤ x.train) (h999 : x.train ≤ 999) : tentativeEnd link confirmed s =
    (s.setTentative link none).post (.confirmedEvent x.arrival x.train k) :=
  (tentativeEnd_judged hx ha hc hk).trans (if_pos ((inRange_iff ..).mpr ⟨h1, h999⟩))

theorem tentativeEnd_unnamed (ha : x.status ≠ .applied) (h : x.stop = none ∨ x.train = 0 ∨ 999 < x.train) :
    tentativeEnd link confirmed s = s.setTentative link none := by
  cases hk : x.stop with
  | none => exact tentativeEnd_unplaced hx ha hk
  | some k =>
    have hrange : ¬ inRange 1 999 x.train = true := by
      rw [inRange_iff]
      rcases h with h | h
      · simp [hk] at h
      · omega
    cases hc : confirmed with
    | false => exact tentativeEnd_withdrawn hx ha rfl
    | true => exact (tentativeEnd_judged hx ha rfl hk).trans (if_neg hrange)

theorem tentativeEnd_applied {i : Nat} {t : Train} (ha : x.status = .applied)
    (hi : (s.setTentative link none).slotOf x.train = some i) (ht : (s.setTentative link none).train? i = some t) :
    tentativeEnd link confirmed s = (s.setTentative link none).endApplied i t x.arrival confirmed := by
  simp only [tentativeEnd, hx, ha, hi, ht]

end

section
variable {u : State} {i : Nat} {t : Train}

theorem State.endApplied_arrival {k : Nat} {a : Stamp} (hk : t.stop = some k) (ha : t.arr = some a) :
    u.endApplied i t true true = u.acceptArrival i t k a.time := by
  simp only [State.endApplied, hk, ha, if_true]

theorem State.endApplied_departure {k : Nat} {d : Stamp} (hk : t.stop = some k) (hd : t.dep = some d) :
    u.endApplied i t false true = u.confirmDeparture i t k d.time := by
  simp only [State.endApplied, hk, hd, if_true, Bool.false_eq_true, if_false]

theorem Train.restored_eq {v : Saved} (h : t.saved = some v) :
    t.restored = { t with pos := v.pos, stop := v.stop, arr := v.arr, dep := v.dep, saved := none } := by
  simp only [Train.restored, h]

end
end

/-! ### The start window (R84) -/

theorem State.startWindowDeadline_due {slot d : Nat} {t : Train} (ht : s.train? slot = some t)
    (hd : t.startDeadline = some d) : s.startWindowDeadline slot =
    ((s.reach d).post (.permitEnded t.id)).setTrainLoad slot
      { t with phase := if t.countedPos.1 = .turning then .aux else .run, permit := false, startDeadline := none } := by
  simp only [State.startWindowDeadline, ht, hd]

theorem State.startWindowDeadline_none {slot : Nat} (h : ∀ t, s.train? slot = some t → t.startDeadline = none) :
    s.startWindowDeadline slot = s := by
  unfold State.startWindowDeadline
  cases ht : s.train? slot with
  | none => rfl
  | some t => simp only [h t ht]

theorem State.setTrainLoad_posted (n : Notice) (slot : Nat) (u : Train) :
    (s.post n).setTrainLoad slot u = (s.setTrain slot u).posts [n, .load slot (s.loadNote u)] := by
  have h : (s.post n).setTrainLoad slot u = ((s.setTrain slot u).posts [n]).post (.load slot (s.loadNote u)) := rfl
  rw [h, State.posts_post]
  rfl

end

/-- Settles O37: the records, the confirmed events, the tentative events and their end, the start window. -/
theorem trainRecordsFollowTheirEvents : Obligations.TrainRecordsFollowTheirEvents := by
  unfold Obligations.TrainRecordsFollowTheirEvents
  refine ⟨?_, ⟨fun arrival train stop s => confirmedEvent_unknown, ?_, ?_⟩, ⟨?_, ?_⟩, ?_⟩
  · intro t stop a d m late deadline
    refine ⟨?_, Train.departed_running, Train.departed_turning⟩
    rw [Train.arrived_eq]
    refine ⟨rfl, rfl, directionOf_eq stop, rfl, rfl, rfl, rfl, rfl, ?_, rfl, rfl, rfl, rfl, rfl, rfl⟩
    simp [Option.any_eq_true]
  · rintro i stop t s cut rfl
    rw [← State.endStartWindow_eq]
    refine ⟨State.settleArrival_conflict, fun h => ⟨fun k => State.settleArrival_jump h, State.settleArrival_expected h⟩, ?_⟩
    rintro a m x bound rfl rfl rfl
    exact State.acceptArrival_eq
  · intro train stop i t s hi ht
    refine ⟨confirmedEvent_departure_running hi ht, confirmedEvent_departure_unlocated hi ht, fun was jump => ?_⟩
    rw [← State.endStartWindow_eq]
    exact positionReport_eq hi ht was jump
  · rintro link el train arrival s slot rfl
    refine ⟨tentativeEvent_unplaced, ?_⟩
    rintro k i t saved hk hi ht rfl applied rfl
    refine ⟨?_, ?_⟩
    · rintro rfl
      rw [tentativeEvent_arrival hk hi ht]
      exact ⟨fun h => if_pos (State.arrivalApplies_iff.mpr h), fun h => if_neg (State.not_arrivalApplies h)⟩
    · rintro rfl
      rw [tentativeEvent_departure hk hi ht]
      exact ⟨fun h => if_pos h,
        fun h => if_neg fun ⟨hp, hs, hv⟩ => h.elim (· hp) (fun h => h.elim (· hs) (· hv))⟩
  · rintro link confirmed s u rfl
    refine ⟨tentativeEnd_absent, fun x hx => ⟨tentativeEnd_withdrawn hx, fun k => tentativeEnd_confirmed hx,
      tentativeEnd_unnamed hx, fun i t ha hi ht => ?_⟩⟩
    rw [tentativeEnd_applied hx ha hi ht]
    refine ⟨fun k a hc harr hk htime => ?_, fun k d hc harr hk htime => ?_, ?_⟩
    · rw [hc, harr, State.endApplied_arrival hk htime]
    · rw [hc, harr, State.endApplied_departure hk htime]
    · rintro v hc hv y rfl
      rw [hc, ← Train.restored_eq hv]
      exact ⟨fun harr => by rw [harr]; rfl, fun harr => by rw [harr]; rfl⟩
  · intro slot s hslot
    have hw : (Instr.startWindowDeadline slot).wellFormed = true := decide_eq_true hslot
    refine ⟨?_, fun hs h => exec_event_at_once rfl hw (State.startWindowDeadline_none h) hs⟩
    rintro t d ht hd counted u hnone hsome rfl
    refine exec_event_settles rfl hw ((State.startWindowDeadline_due ht hd).trans ?_)
    have hcounted : t.countedPos.1 = counted := by
      unfold Train.countedPos
      cases hv : t.saved with
      | none => exact (hnone hv).symm
      | some v => exact (hsome v hv).symm
    rw [hcounted]
    exact State.setTrainLoad_posted ..

end Sys2Proof.Machine
end

section
/-! SUPPORT. The incident table: O46, O47 and O48. -/
namespace Sys2Proof.Machine

theorem State.number_of_incident {s : State} {n : Nat} {x : Incident} (h : s.incident? n = some x) : x.number = n := by
  simpa using List.find?_some h

theorem Incident.standing_iff {x : Incident} : x.standing = true ↔ x.state ≠ .resolved := by
  simp [Incident.standing]

/-! ### Requests (R139 to R142) -/

section
variable {tag : Byte} {d : List Byte} {s : State} {k : IncKind} {x : Incident} {n : Nat}

/-- R139: the length that INC_RAISE and INC_AMEND ask for. -/
theorem incLengthOk_of (h12 : 12 ≤ d.length) (hd : d.length = 12 + at8 d 11) : incLengthOk d = true := by
  simp only [incLengthOk, Bool.and_eq_true, decide_eq_true_eq, beq_iff_eq]
  exact ⟨h12, hd⟩

theorem incLength_fits (hd : d.length = 12 + at8 d 11) : d.length ≤ 1020 := by
  have := at8_lt d 11
  omega

theorem reqIncRaise_named (hu : s.lds.service ≠ .unconfigured) (hl : incLengthOk d = true)
    (hk : hostKindOf (at8 d 0) = some k) (h1 : 1 ≤ at8 d 1) (h4 : at8 d 1 ≤ 4) (hok : incFieldsOk d = true)
    (hex : s.incFieldsExist d = true) : reqIncRaise tag d s =
      if 28 ≤ s.hostIncidents ∨ 32 ≤ s.inc.table.length then s.refuse tag (.tableFull none)
      else s.raiseHost tag (s.hostIncident k (at8 d 1) (readIncFields d)) := by
  have hrange : inRange 1 4 (at8 d 1) = true := (inRange_iff ..).mpr ⟨h1, h4⟩
  simp only [reqIncRaise, hl, hk, hrange, hok, hex, if_neg hu, Bool.not_true, Bool.or_self, Bool.false_eq_true, if_false]
  rfl

theorem reqIncAmend_named (hu : s.lds.service ≠ .unconfigured) (hl : incLengthOk d = true) (hn : at16 d 0 ≠ 0)
    (hok : incFieldsOk d = true) (hex : s.incFieldsExist d = true) (hx : s.incident? (at16 d 0) = some x) :
    reqIncAmend tag d s = if x.standing then
      (s.putIncident (x.amended (readIncFields d))).posts [.deriveEffects, .answer tag (.incident x.number)]
      else s.refuse tag .wrongState := by
  simp only [reqIncAmend, hl, hok, hex, hx, hn, if_neg hu, Bool.not_true, Bool.true_eq_false, Bool.false_eq_true, or_self,
    if_false]

theorem State.withIncident_found {act : Incident → State} (hu : s.lds.service ≠ .unconfigured) (h1 : 1 ≤ n)
    (h : n ≤ 65535) (hx : s.incident? n = some x) : s.withIncident tag (u16 n) act = act x := by
  have hn : at16 (u16 n) 0 = n := at16_u16_self (by omega)
  have hlen : (u16 n).length = 2 := rfl
  have hz : n ≠ 0 := by omega
  rw [State.withIncident, if_neg (not_not_intro hlen), if_neg hu, hn, if_neg hz, hx]

end

/-- Settles O46. -/
theorem hostIncidentsAreKeptInTheTable : Obligations.HostIncidentsAreKeptInTheTable := by
  unfold Obligations.HostIncidentsAreKeptInTheTable
  refine ⟨?_, ?_⟩
  · intro tag d k s hs hu h12 hd hk h1 h4 hok hex
    have hb := reqIncRaise_named (s := s.framed) (tag := tag) hu (incLengthOk_of h12 hd) hk h1 h4 hok hex
    refine ⟨fun h => exec_refuse (code := .tableFull none) rfl (incLength_fits hd) hs (hb.trans (if_pos h)), ?_⟩
    rintro hh ht x rfl
    have hroom : ¬(28 ≤ s.hostIncidents ∨ 32 ≤ s.inc.table.length) := by omega
    exact exec_settles rfl (incLength_fits hd) hs (hb.trans (if_neg hroom))
  · intro tag n x s hs hu h1 hmax hx
    have hnum : x.number = n := State.number_of_incident hx
    refine ⟨?_, fun hst => exec_settles rfl (by simp) hs ?_, fun hst => exec_done rfl (by simp) hs ?_,
      fun hst => exec_refuse (code := .wrongState) rfl (by simp) hs ?_, exec_settles rfl (by simp) hs ?_⟩
    · intro d hn h12 hd hok hex
      have hb := reqIncAmend_named (s := s.framed) (tag := tag) (x := x) hu (incLengthOk_of h12 hd) (by omega) hok hex
        (by rw [hn]; exact hx)
      rw [hnum] at hb
      refine ⟨fun hst => exec_refuse (code := .wrongState) rfl (incLength_fits hd) hs (hb.trans (if_neg ?_)),
        fun hst => exec_settles rfl (incLength_fits hd) hs (hb.trans (if_pos (Incident.standing_iff.mpr hst)))⟩
      rw [Incident.standing_iff]
      exact not_not_intro hst
    · refine (State.withIncident_found (s := s.framed) hu h1 hmax hx).trans ?_
      simp only [hst]
      rfl
    · refine (State.withIncident_found (s := s.framed) hu h1 hmax hx).trans ?_
      simp only [hst]
      rfl
    · refine (State.withIncident_found (s := s.framed) hu h1 hmax hx).trans ?_
      simp only [hst]
    · refine (State.withIncident_found (s := s.framed) hu h1 hmax hx).trans ?_
      rw [hnum]
      rfl

/-! ### Raises and resolutions (R137, R138) -/

section
variable {s : State} {k : IncKind} {key : Nat} {x : Incident}

theorem raise_merges (hx : s.autoFind k key = some x) (hst : x.state ≠ .resolved) : raise k key s =
    (s.putIncident { x with count := min 255 (x.count + 1) }).report .incidentMerged
      (some (.incident x.number)) (some (min 255 (x.count + 1))) (some 0) := by
  simp only [raise, hx, Incident.standing_iff.mpr hst, if_true]
  rfl

theorem raise_reopens (hx : s.autoFind k key = some x) (hst : x.state = .resolved) : raise k key s =
    ((s.setTable (s.inc.table.filter (fun z => z.number != x.number) ++
      [{ x with state := .opened, count := min 255 (x.count + 1), openedAt := s.clock.time, ackedAt := none,
                deadline := if x.widened then none
                  else some (s.tick + escalationSeconds x.severity * 1000) }])).report .incidentMerged
      (some (.incident x.number)) (some (min 255 (x.count + 1))) (some 1)).post .deriveEffects := by
  have hno : ¬ x.standing = true := by
    rw [Incident.standing_iff]
    exact not_not_intro hst
  simp only [raise, hx, if_neg hno]
  rfl

theorem raise_enters (hx : s.autoFind k key = none) (h : s.inc.table.length < 32) : raise k key s =
    ((s.enter (s.autoIncident k key)).report .incidentRaised
      (some (.incident s.newNumber)) (some k.code) (some k.severity)).post .deriveEffects := by
  simp only [raise, hx]
  exact if_pos h

theorem resolve_standing (hx : s.autoFind k key = some x) (hst : x.state ≠ .resolved) : resolve k key s =
    ((s.putIncident { x with state := .resolved, deadline := none }).report .incidentResolved
      (some (.incident x.number)) (some k.code) (some key)).post .deriveEffects := by
  simp only [resolve, hx, Incident.standing_iff.mpr hst, if_true]

theorem resolve_resolved (hx : s.autoFind k key = some x) (hst : x.state = .resolved) : resolve k key s = s := by
  have hno : ¬ x.standing = true := by
    rw [Incident.standing_iff]
    exact not_not_intro hst
  simp only [resolve, hx, if_neg hno]

end

/-! ### Escalation (R144, R145) -/

section
variable {s : State} {n d : Nat} {x : Incident}

theorem State.escalationDeadline_absent (h : s.incident? n = none) : s.escalationDeadline n = s := by
  simp only [State.escalationDeadline, h]

theorem State.escalationDeadline_stopped (h : s.incident? n = some x) (hd : x.deadline = none) :
    s.escalationDeadline n = s := by
  simp only [State.escalationDeadline, h, hd]

theorem State.escalationDeadline_due (h : s.incident? n = some x) (hd : x.deadline = some d) :
    s.escalationDeadline n = (s.reach d).escalate x d := by
  simp only [State.escalationDeadline, h, hd]

theorem incidentExists_of_range (h1 : 1 ≤ n) (h : n ≤ 65535) : incidentExists n = true := (inRange_iff ..).mpr ⟨h1, h⟩

end

/-! ### Stranded trains (R131) -/

section
variable {s : State} {slot : Nat} {n : LoadNote} {keep : Option Nat}

theorem State.strandedIn_empty (h : ∀ j r, keep ≠ some j → s.sect? j = some r → slot ∉ r.stranded) :
    s.strandedIn slot keep = [] := by
  refine List.eq_nil_iff_forall_not_mem.mpr fun j hj => ?_
  obtain ⟨hk, r, hr, hin⟩ := (State.mem_strandedIn ..).mp hj
  exact h j r hk hr hin

theorem State.strandedIn_nonempty (h : ∃ j r, keep ≠ some j ∧ s.sect? j = some r ∧ slot ∈ r.stranded) :
    (s.strandedIn slot keep).isEmpty = false := by
  obtain ⟨j, r, hk, hr, hin⟩ := h
  rw [List.isEmpty_eq_false_iff]
  exact List.ne_nil_of_mem ((State.mem_strandedIn ..).mpr ⟨hk, r, hr, hin⟩)

theorem State.unstrand_none (h : s.strandedIn slot keep = []) : s.unstrand slot keep = s := by
  unfold State.unstrand
  rw [h]
  rfl

theorem State.unstrand_sect? {j : Nat} : (s.unstrand slot keep).sect? j =
    if keep = some j then s.sect? j
    else (s.sect? j).map (fun r : SectRec => { r with stranded := r.stranded.filter (fun x => x != slot) }) := by
  have hn : (s.strandedIn slot keep).Nodup := List.nodup_range.filter _
  refine (State.foldl_modSect_sect? hn).trans ?_
  by_cases hin : j ∈ s.strandedIn slot keep
  · rw [if_pos hin, if_neg ((State.mem_strandedIn ..).mp hin).1]
  · rw [if_neg hin]
    split
    · rfl
    · next hk =>
      cases hr : s.sect? j with
      | none => rfl
      | some r =>
        have hnot : slot ∉ r.stranded := fun hs => hin ((State.mem_strandedIn ..).mpr ⟨hk, r, hr, hs⟩)
        have hsame : r.stranded.filter (fun x => x != slot) = r.stranded :=
          List.filter_eq_self.mpr fun x hx => bne_iff_ne.mpr (ne_of_mem_of_not_mem hx hnot)
        rw [Option.map_some, hsame]

theorem State.newlyStranded_some {i : Nat} {r : SectRec} (hi : n.sect = some i) (hr : s.sect? i = some r)
    (hrun : n.running = true) (hst : r.state ≠ .live) (hin : slot ∉ r.stranded) : s.newlyStranded slot n = some i := by
  simp [State.newlyStranded, hi, hr, hrun, hst, hin]

theorem State.newlyStranded_none
    (h : ∀ i r, n.sect = some i → s.sect? i = some r → n.running = true → r.state ≠ .live → slot ∈ r.stranded) :
    s.newlyStranded slot n = none := by
  unfold State.newlyStranded
  cases hi : n.sect with
  | none => rfl
  | some i =>
    cases hr : s.sect? i with
    | none => simp only [hr]
    | some r =>
      simp only [hr]
      refine if_neg fun hc => ?_
      simp only [Bool.and_eq_true, bne_iff_ne, Bool.not_eq_true', List.contains_eq_mem, decide_eq_false_iff_not] at hc
      obtain ⟨⟨hrun, hst⟩, hnot⟩ := hc
      exact hnot (h i r hi hr hrun hst)

theorem load_joins {i : Nat} (hi : n.sect = some i) (hj : s.newlyStranded slot n = some i) : load slot n s =
    ((((s.setLoad slot (some n)).unstrand slot (some i)).modSect i
      (fun r => { r with stranded := r.stranded ++ [slot] })).post (.raise .stranded n.train)).recountAndExamine := by
  simp only [load, hj, hi, strandedNotice, Option.isSome_some, if_true]
  rfl

theorem load_leaves (hj : s.newlyStranded slot n = none) (h : (s.strandedIn slot n.sect).isEmpty = false) :
    load slot n s = (((s.setLoad slot (some n)).unstrand slot n.sect).post
      (.resolve .stranded n.train)).recountAndExamine := by
  simp only [load, hj, strandedNotice, h, Option.isSome_none, Bool.false_eq_true, if_false]
  rfl

theorem load_stays (hj : s.newlyStranded slot n = none) (h : s.strandedIn slot n.sect = []) :
    load slot n s = (s.setLoad slot (some n)).recountAndExamine := by
  have hu : (s.setLoad slot (some n)).unstrand slot n.sect = s.setLoad slot (some n) := State.unstrand_none h
  simp only [load, hj, hu, strandedNotice, h, Option.isSome_none, Bool.false_eq_true, if_false, List.isEmpty_nil, if_true,
    State.posts_nil, State.strand]

theorem unload_leaves {train : Nat} (h : (s.strandedIn slot none).isEmpty = false) : unload slot train s =
    (((s.setLoad slot none).unstrand slot none).post (.resolve .stranded train)).recountAndExamine := by
  simp only [unload, strandedNotice, h, Option.isSome_none, Bool.false_eq_true, if_false]
  rfl

theorem unload_stays {train : Nat} (h : s.strandedIn slot none = []) :
    unload slot train s = (s.setLoad slot none).recountAndExamine := by
  have hu : (s.setLoad slot none).unstrand slot none = s.setLoad slot none := State.unstrand_none h
  simp only [unload, hu, strandedNotice, h, Option.isSome_none, Bool.false_eq_true, if_false, List.isEmpty_nil, if_true,
    State.posts_nil]

end

/-- Settles O47: raises and resolutions by the table, the escalation deadline, the stranded lists of load notices. -/
theorem autoIncidentsMergeResolveAndEscalate : Obligations.AutoIncidentsMergeResolveAndEscalate := by
  unfold Obligations.AutoIncidentsMergeResolveAndEscalate
  refine ⟨?_, ⟨?_, ?_⟩, ?_, ?_, ?_, fun s slot j keep => State.unstrand_sect?⟩
  · exact fun k key s => ⟨fun hx h => raise_full k key s hx h, raise_enters, fun x hx hst => ⟨raise_merges hx hst, resolve_standing hx hst⟩,
      fun x hx hst => ⟨raise_reopens hx hst, resolve_resolved hx hst⟩, fun hx => resolve_absent k key s hx⟩
  · exact fun n s h1 h hx hs =>
      exec_event_at_once rfl (incidentExists_of_range h1 h) (State.escalationDeadline_absent hx) hs
  · intro n d x s h1 h hx
    refine ⟨fun hd hlt => ?_, fun hd hge => ?_, fun hd hs =>
      exec_event_at_once rfl (incidentExists_of_range h1 h) (State.escalationDeadline_stopped hx hd) hs,
      rfl, rfl, rfl, rfl⟩
    · exact exec_event_settles rfl (incidentExists_of_range h1 h)
        ((State.escalationDeadline_due hx hd).trans (if_pos hlt))
    · exact exec_event_settles rfl (incidentExists_of_range h1 h)
        ((State.escalationDeadline_due hx hd).trans (if_neg (Nat.not_lt.mpr hge)))
  · exact fun s slot i n r hi hr hrun hst hin => load_joins hi (State.newlyStranded_some hi hr hrun hst hin)
  · intro s slot n hj
    have hj := State.newlyStranded_none hj
    exact ⟨fun h => load_leaves hj (State.strandedIn_nonempty h), fun h => load_stays hj (State.strandedIn_empty h)⟩
  · intro s slot train
    refine ⟨fun ⟨j, r, hr, hin⟩ => unload_leaves (State.strandedIn_nonempty ⟨j, r, nofun, hr, hin⟩),
      fun h => unload_stays (State.strandedIn_empty fun j r _ => h j r)⟩

/-! ### Derived effects (R145 to R148) -/

theorem State.effectiveAt_iff {s : State} {x : Incident} {i : Nat} : s.effectiveAt x i = true ↔
    ∃ l, x.span = some l ∧ if x.widened then ∃ z ∈ s.zones, i ∈ z ∧ ∃ j ∈ z, j ∈ l else i ∈ l := by
  unfold State.effectiveAt
  cases hs : x.span with
  | none => simp
  | some l =>
    cases x.widened <;> simp

/-- Settles O48. -/
theorem heldStationsAndDemandedSections : Obligations.HeldStationsAndDemandedSections := by
  unfold Obligations.HeldStationsAndDemandedSections
  refine fun s => ⟨fun i => ?_, fun i => ?_⟩
  · simp only [State.heldSet, numbersBelow, List.mem_filter, List.mem_range, List.any_eq_true, Bool.and_eq_true,
      Incident.standing_iff, State.effectiveAt_iff, and_assoc]
    rfl
  · simp only [State.demandSet, numbersBelow, List.mem_filter, List.mem_range, List.any_eq_true, Bool.and_eq_true,
      Incident.standing_iff, List.contains_iff_mem, and_assoc]
    rfl

end Sys2Proof.Machine
end

section
/-! SUPPORT. The announcement publisher: O50, O51 and O52. -/
namespace Sys2Proof.Machine

/-! ### Sets of numbers (R186) -/

section
variable {l : List Nat} {pre : List Byte}

theorem list8_eq (l : List Nat) : list8 l = BitVec.ofNat 8 l.length :: l.map (BitVec.ofNat 8) := by
  have hflat (l : List Nat) : l.flatMap u8 = l.map (BitVec.ofNat 8) := by
    induction l with
    | nil => rfl
    | cons a l ih => rw [List.flatMap_cons, ih]; rfl
  rw [list8, hflat]
  rfl

theorem length_list8 (l : List Nat) : (list8 l).length = 1 + l.length := by
  rw [list8_eq, List.length_cons, List.length_map, Nat.add_comm]

theorem at8_list8_count (h : l.length < 256) : at8 (list8 l) 0 = l.length := by
  rw [list8_eq]
  exact Nat.mod_eq_of_lt h

theorem atList8_list8 (hl : ∀ m ∈ l, m < 256) : atList8 (pre ++ list8 l) (pre.length + 1) l.length = l := by
  have hat (j : Nat) : at8 (pre ++ list8 l) (pre.length + 1 + j) = ((l.map (fun n => n % 256))[j]?).getD 0 := by
    rw [Nat.add_assoc, at8_append_right, list8_eq, Nat.add_comm 1 j, at8, List.getElem?_cons_succ, List.getElem?_map,
      List.getElem?_map, Option.map_map]
    rfl
  have hmod : l.map (fun n => n % 256) = l := by
    exact (List.map_congr_left (g := id) fun n hn => Nat.mod_eq_of_lt (hl n hn)).trans (List.map_id l)
  unfold atList8
  refine List.ext_getElem (by simp) fun j h1 h2 => ?_
  rw [List.getElem_map, List.getElem_range, hat, hmod, List.getElem?_eq_getElem h2, Option.getD_some]

/-- R186: a set written with its count is read back. -/
theorem readSet_list8 (hlen : l.length < 255) (hl : ∀ m ∈ l, m < 256) :
    readSet (pre ++ list8 l) pre.length = some (.listed l) := by
  have hcount : at8 (pre ++ list8 l) pre.length = l.length := by
    have h := at8_append_right pre (list8 l) 0
    rw [Nat.add_zero] at h
    rw [h, at8_list8_count (by omega)]
  have hlength : (pre ++ list8 l).length = pre.length + 1 + l.length := by
    rw [List.length_append, length_list8, Nat.add_assoc]
  rw [readSet, if_neg (by omega), hcount, if_neg (by omega), if_pos hlength, atList8_list8 hl]

theorem readSet_all : readSet (pre ++ [0xFF#8]) pre.length = some .all := by
  have hcount : at8 (pre ++ [0xFF#8]) pre.length = 0xFF := by
    have h := at8_append_right pre [0xFF#8] 0
    rwa [Nat.add_zero] at h
  have hlength : (pre ++ [0xFF#8]).length = pre.length + 1 := by simp
  rw [readSet, if_neg (by omega), if_pos hcount, if_pos hlength]

end

/-! ### ANN_STAGE (R154) -/

section
variable {tag : Byte} {s : State} {text p1 p2 layer : Nat}

theorem layerOf_eq (n : Nat) : layerOf n = if n = 0 then some .service else if n = 1 then some .routine else none := by
  match n with
  | 0 => rfl
  | 1 => rfl
  | n + 2 => rfl

/-- R154: ANN_STAGE of a message whose fields fit their places. -/
theorem reqAnnStage_read (ht : text < 65536) (h1 : p1 < 65536) (h2 : p2 < 65536) (hl : layer < 256) :
    reqAnnStage tag (u16 text ++ u16 p1 ++ u16 p2 ++ u8 layer) s =
      (layerOf layer).elim (s.refuse tag .badValue) (fun x =>
        if inRange 1 1023 text then
          (s.setStaging { text := text, p1 := p1, p2 := p2, layer := x }).done tag
            (u16 text ++ u16 p1 ++ u16 p2 ++ u8 x.code)
        else s.refuse tag .badValue) := by
  have htext : at16 (u16 text ++ u16 p1 ++ u16 p2 ++ u8 layer) 0 = text := at16_of rfl rfl ht
  have hp1 : at16 (u16 text ++ u16 p1 ++ u16 p2 ++ u8 layer) 2 = p1 := at16_of rfl rfl h1
  have hp2 : at16 (u16 text ++ u16 p1 ++ u16 p2 ++ u8 layer) 4 = p2 := at16_of rfl rfl h2
  have hlayer : at8 (u16 text ++ u16 p1 ++ u16 p2 ++ u8 layer) 6 = layer := Nat.mod_eq_of_lt hl
  have hlen : (u16 text ++ u16 p1 ++ u16 p2 ++ u8 layer).length = 7 := rfl
  rw [reqAnnStage, if_neg (not_not_intro hlen), hlayer, htext, hp1, hp2]
  cases layerOf layer <;> rfl

theorem reqAnnStage_badValue (ht : text < 65536) (h1 : p1 < 65536) (h2 : p2 < 65536) (hl : layer < 256)
    (h : text = 0 ∨ 1023 < text ∨ 1 < layer) :
    reqAnnStage tag (u16 text ++ u16 p1 ++ u16 p2 ++ u8 layer) s = s.refuse tag .badValue := by
  rw [reqAnnStage_read ht h1 h2 hl]
  cases hx : layerOf layer with
  | none => rfl
  | some x =>
    refine if_neg ?_
    rw [inRange_iff]
    rw [layerOf_eq] at hx
    split at hx
    · omega
    split at hx
    · omega
    · cases hx

theorem reqAnnStage_staged (h1 : 1 ≤ text) (ht : text ≤ 1023) (hp1 : p1 < 65536) (hp2 : p2 < 65536) (hl : layer ≤ 1) :
    reqAnnStage tag (u16 text ++ u16 p1 ++ u16 p2 ++ u8 layer) s =
      (s.setStaging { text := text, p1 := p1, p2 := p2, layer := if layer = 0 then .service else .routine }).done tag
        (u16 text ++ u16 p1 ++ u16 p2 ++ u8 layer) := by
  have hrange : inRange 1 1023 text = true := (inRange_iff ..).mpr ⟨h1, ht⟩
  rw [reqAnnStage_read (by omega) hp1 hp2 (by omega)]
  rcases Nat.le_one_iff_eq_zero_or_eq_one.mp hl with rfl | rfl
  · exact if_pos hrange
  · exact if_pos hrange

/-! ### ANN_TRIGGER (R158) -/

variable {z mode stop : Nat}

theorem triggerOf_eq (mode stop : Nat) : triggerOf mode stop =
    if mode = 0 then some .off else if mode = 1 then some (.arrival stop) else if mode = 2 then some .minute
    else none := by
  match mode with
  | 0 => rfl
  | 1 => rfl
  | 2 => rfl
  | n + 3 => rfl

theorem triggerOf_named (h : mode ≤ 2) : triggerOf mode stop =
    some (if mode = 0 then .off else if mode = 1 then .arrival stop else .minute) := by
  rw [triggerOf_eq]
  by_cases h0 : mode = 0
  · rw [if_pos h0, if_pos h0]
  by_cases h1 : mode = 1
  · rw [if_neg h0, if_neg h0, if_pos h1, if_pos h1]
  · rw [if_neg h0, if_neg h0, if_neg h1, if_neg h1, if_pos (by omega)]

theorem stopBelow_iff (bound : Nat) :
    Trigger.stopBelow bound (if mode = 0 then .off else if mode = 1 then .arrival stop else .minute) = false ↔
      mode = 1 ∧ bound ≤ stop := by
  by_cases h0 : mode = 0
  · simp [h0, Trigger.stopBelow]
  by_cases h1 : mode = 1
  · simp [h1, Trigger.stopBelow]
  · simp [h0, h1, Trigger.stopBelow]

/-- R158: ANN_TRIGGER of a mode that R186 admits. -/
theorem reqAnnTrigger_named (hu : s.lds.service ≠ .unconfigured) (hz : z < 256) (hs : stop < 256) (hm : mode ≤ 2) {t : Trigger}
    (ht : t = if mode = 0 then .off else if mode = 1 then .arrival stop else .minute) :
    reqAnnTrigger tag (u8 z ++ u8 mode ++ u8 stop) s =
      if 7 < z ∨ (mode = 1 ∧ 64 ≤ stop) then s.refuse tag .badValue
      else if s.anp.triggers.length ≤ z ∨ (mode = 1 ∧ s.stopCount ≤ stop) then s.refuse tag .notFound
      else (s.setTrigger z t).done tag t.bytes := by
  have h0 : at8 (u8 z ++ u8 mode ++ u8 stop) 0 = z := Nat.mod_eq_of_lt hz
  have h1 : at8 (u8 z ++ u8 mode ++ u8 stop) 1 = mode := Nat.mod_eq_of_lt (by omega : mode < 256)
  have h2 : at8 (u8 z ++ u8 mode ++ u8 stop) 2 = stop := Nat.mod_eq_of_lt hs
  have hlen : (u8 z ++ u8 mode ++ u8 stop).length = 3 := rfl
  have hb (bound : Nat) : t.stopBelow bound = false ↔ mode = 1 ∧ bound ≤ stop := ht ▸ stopBelow_iff bound
  rw [reqAnnTrigger, if_neg (not_not_intro hlen), if_neg hu, h0, h1, h2, triggerOf_named hm, ← ht]
  simp only [hb]

theorem reqAnnTrigger_badMode (hu : s.lds.service ≠ .unconfigured) (hmode : mode < 256) (hm : 2 < mode) :
    reqAnnTrigger tag (u8 z ++ u8 mode ++ u8 stop) s = s.refuse tag .badValue := by
  have h1 : at8 (u8 z ++ u8 mode ++ u8 stop) 1 = mode := Nat.mod_eq_of_lt hmode
  have hlen : (u8 z ++ u8 mode ++ u8 stop).length = 3 := rfl
  rw [reqAnnTrigger, if_neg (not_not_intro hlen), if_neg hu, h1, triggerOf_eq, if_neg (by omega), if_neg (by omega),
    if_neg (by omega)]

end

/-! ### ANN_BIND and ANN_CLEAR (R155, R156) -/

section
variable {tag : Byte} {s : State} {d : List Byte} {x : NumberSet}

/-- R155: a set of stations that a request may name. -/
def State.namesStations (s : State) (x : NumberSet) : Prop :=
  x.badCount 32 = false ∧ x.below 32 = true ∧ x.below s.stationCount = true

theorem State.stationSetCheck_none (h : s.namesStations x) : s.stationSetCheck x = none := by
  obtain ⟨hc, hb, hs⟩ := h
  rw [State.stationSetCheck, hc, hb, hs]
  rfl

theorem State.namesStations_listed {l : List Nat} (h1 : 1 ≤ l.length) (h32 : l.length ≤ 32)
    (hl : ∀ i ∈ l, i < 32 ∧ i < s.stationCount) : s.namesStations (.listed l) := by
  refine ⟨?_, ?_, ?_⟩
  · have hr : inRange 1 32 l.length = true := (inRange_iff ..).mpr ⟨h1, h32⟩
    rw [NumberSet.badCount, hr]
    rfl
  · exact List.all_eq_true.mpr fun i hi => decide_eq_true (hl i hi).1
  · exact List.all_eq_true.mpr fun i hi => decide_eq_true (hl i hi).2

theorem State.namesStations_all : s.namesStations .all := ⟨rfl, rfl, rfl⟩

/-- R155, R156: the stations written and the count. -/
def State.bound (tag : Byte) (p : Nat → Prop) [DecidablePred p] (g : StationRec → StationRec) (count : Nat) (s : State) :
    State :=
  State.done tag (u8 count)
    { s with anp := { s.anp with stations := s.anp.stations.mapIdx (fun i r => if p i then g r else r) } }

section
variable (hu : s.lds.service ≠ .unconfigured) (hn : s.namesStations x)
include hu hn

theorem reqAnnBind_unstaged (hx : readSet d 0 = some x) (ht : s.anp.staging.text = 0) :
    reqAnnBind tag d s = s.refuse tag .wrongState := by
  simp only [reqAnnBind, hx, if_neg hu, State.stationSetCheck_none hn, ht, if_true]

theorem reqAnnBind_binds (hx : readSet d 0 = some x) (ht : s.anp.staging.text ≠ 0) :
    reqAnnBind tag d s = s.bindAll tag s.anp.staging.layer
      (.content { text := s.anp.staging.text, p1 := s.anp.staging.p1, p2 := s.anp.staging.p2 })
      (x.members s.stationCount) := by
  simp only [reqAnnBind, hx, if_neg hu, State.stationSetCheck_none hn, if_neg ht]

theorem reqAnnClear_clears (hx : readSet d 1 = some x) {layer : HostLayer} (hl : layerOf (at8 d 0) = some layer) :
    reqAnnClear tag d s = s.bindAll tag layer .emptyMark (x.members s.stationCount) := by
  simp only [reqAnnClear, hx, if_neg hu, hl, State.stationSetCheck_none hn]

end

theorem State.bindAll_listed (layer : HostLayer) (p : PendingPart) (l : List Nat) :
    s.bindAll tag layer p l = s.bound tag (· ∈ l) (StationRec.bind layer p) l.eraseDups.length := by
  unfold State.bindAll State.bound
  simp only [List.contains_iff_mem]

/-- A list without repetitions loses nothing to their removal. -/
theorem eraseDups_of_nodup {l : List Nat} (h : l.Nodup) : l.eraseDups = l := by
  induction l with
  | nil => rfl
  | cons a l ih =>
    obtain ⟨ha, hl⟩ := List.nodup_cons.mp h
    have hrest : l.filter (fun b => !b == a) = l :=
      List.filter_eq_self.mpr fun b hb => by simpa using ne_of_mem_of_not_mem hb ha
    rw [List.eraseDups_cons, hrest, ih hl]

theorem State.bindAll_range (layer : HostLayer) (p : PendingPart) (n : Nat) :
    s.bindAll tag layer p (List.range n) = s.bound tag (· < n) (StationRec.bind layer p) n := by
  have hdups : (List.range n).eraseDups = List.range n := eraseDups_of_nodup List.nodup_range
  rw [State.bindAll_listed, hdups, List.length_range]
  unfold State.bound
  simp only [List.mem_range]

end

/-- Settles O50: each request by its checks, then the stations of the set written by their places. -/
theorem stagedContentIsBound : Obligations.StagedContentIsBound := by
  unfold Obligations.StagedContentIsBound
  refine ⟨fun tag s hs => ⟨?_, ?_⟩, ?_, ?_⟩
  · intro text p1 p2 layer ht hp1 hp2 hl
    exact ⟨fun h => exec_refuse (code := .badValue) (kind := 0x60#8) rfl (by simp) hs
        (reqAnnStage_badValue (s := s.framed) ht hp1 hp2 hl h),
      fun h1 ht' hl' => exec_at_once (kind := 0x60#8) rfl (by simp) hs
        (reqAnnStage_staged (s := s.framed) h1 ht' hp1 hp2 hl') hs.1⟩
  · intro hu z mode stop hz hmode hstop
    have hbody (hm : mode ≤ 2) := reqAnnTrigger_named (s := s.framed) (tag := tag) (z := z) hu hz hstop hm rfl
    refine ⟨fun h => exec_refuse (code := .badValue) (kind := 0x64#8) rfl (by simp) hs ?_, fun hm h7 h63 => ⟨fun h => ?_, ?_⟩⟩
    · by_cases hm : 2 < mode
      · exact reqAnnTrigger_badMode (s := s.framed) hu hmode hm
      · exact (hbody (Nat.not_lt.mp hm)).trans (if_pos (by omega))
    · exact exec_refuse (code := .notFound) (kind := 0x64#8) rfl (by simp) hs
        ((hbody hm).trans ((if_neg (by omega)).trans (if_pos h)))
    · rintro hlen hstop' tr rfl
      have hfound : ¬(s.framed.anp.triggers.length ≤ z ∨ (mode = 1 ∧ s.framed.stopCount ≤ stop)) := by
        rintro (h | ⟨h1, h⟩)
        · exact Nat.not_le.mpr hlen h
        · exact Nat.not_le.mpr (hstop' h1) h
      exact exec_at_once (kind := 0x64#8) rfl (by simp) hs
        ((hbody hm).trans ((if_neg (by omega)).trans (if_neg hfound))) hs.1
  · rintro tag l s hs hu h1 h32 hl staged rfl
    have hbytes : ∀ m ∈ l, m < 256 := fun m hm => by have := (hl m hm).1; omega
    have hn : s.framed.namesStations (.listed l) := State.namesStations_listed (s := s.framed) h1 h32 hl
    have hread (pre : List Byte) : readSet (pre ++ list8 l) pre.length = some (.listed l) :=
      readSet_list8 (by omega) hbytes
    have hfits : (list8 l).length ≤ 1019 := by rw [length_list8]; omega
    have hbind {layer : HostLayer} (ht : s.anp.staging.text ≠ 0) (hlayer : s.framed.anp.staging.layer = layer) :
        dispatch 0x61#8 tag (list8 l) s.framed = s.framed.bound tag (· ∈ l) (StationRec.bind layer
          (.content { text := s.anp.staging.text, p1 := s.anp.staging.p1, p2 := s.anp.staging.p2 })) l.eraseDups.length := by
      have hb := reqAnnBind_binds (s := s.framed) (tag := tag) hu hn (hread []) ht
      rw [hlayer] at hb
      exact hb.trans (State.bindAll_listed ..)
    have hclear (n : Nat) (layer : HostLayer) (hlayer : layerOf (at8 (u8 n ++ list8 l) 0) = some layer) :
        dispatch 0x62#8 tag (u8 n ++ list8 l) s.framed =
          s.framed.bound tag (· ∈ l) (StationRec.bind layer .emptyMark) l.eraseDups.length :=
      (reqAnnClear_clears (s := s.framed) (tag := tag) hu hn (hread (u8 n)) hlayer).trans (State.bindAll_listed ..)
    have hfits' (n : Nat) : (u8 n ++ list8 l).length ≤ 1020 := by
      rw [List.length_append, show (u8 n).length = 1 from rfl]
      omega
    refine ⟨fun ht => exec_refuse (code := .wrongState) (kind := 0x61#8) rfl (by omega) hs
        (reqAnnBind_unstaged (s := s.framed) hu hn (hread []) ht),
      fun ht hlayer => exec_at_once (kind := 0x61#8) rfl (by omega) hs (hbind ht hlayer) hs.1,
      fun ht hlayer => exec_at_once (kind := 0x61#8) rfl (by omega) hs (hbind ht hlayer) hs.1,
      exec_at_once (kind := 0x62#8) rfl (hfits' 0) hs (hclear 0 .service rfl) hs.1,
      exec_at_once (kind := 0x62#8) rfl (hfits' 1) hs (hclear 1 .routine rfl) hs.1⟩
  · rintro tag s hs hu staged rfl written rfl
    have hn : s.framed.namesStations .all := State.namesStations_all
    have hbind {layer : HostLayer} (ht : s.anp.staging.text ≠ 0) (hlayer : s.framed.anp.staging.layer = layer) :
        dispatch 0x61#8 tag [0xFF#8] s.framed = s.framed.bound tag (· < s.stationCount) (StationRec.bind layer
          (.content { text := s.anp.staging.text, p1 := s.anp.staging.p1, p2 := s.anp.staging.p2 })) s.stationCount := by
      have hb := reqAnnBind_binds (s := s.framed) (tag := tag) hu hn (readSet_all (pre := [])) ht
      rw [hlayer] at hb
      exact hb.trans (State.bindAll_range ..)
    have hclear (n : Nat) (layer : HostLayer) (hlayer : layerOf (at8 (u8 n ++ [0xFF#8]) 0) = some layer) :
        dispatch 0x62#8 tag (u8 n ++ [0xFF#8]) s.framed =
          s.framed.bound tag (· < s.stationCount) (StationRec.bind layer .emptyMark) s.stationCount :=
      (reqAnnClear_clears (s := s.framed) (tag := tag) hu hn (readSet_all (pre := u8 n)) hlayer).trans
        (State.bindAll_range ..)
    exact ⟨fun ht hlayer => exec_at_once (kind := 0x61#8) rfl (by simp) hs (hbind ht hlayer) hs.1,
      fun ht hlayer => exec_at_once (kind := 0x61#8) rfl (by simp) hs (hbind ht hlayer) hs.1,
      fun ht => exec_refuse (code := .wrongState) (kind := 0x61#8) rfl (by simp) hs
        (reqAnnBind_unstaged (s := s.framed) hu hn (readSet_all (pre := [])) ht),
      exec_at_once (kind := 0x62#8) rfl (by simp) hs (hclear 0 .service rfl) hs.1,
      exec_at_once (kind := 0x62#8) rfl (by simp) hs (hclear 1 .routine rfl) hs.1⟩

/-! ### Releases (R157) -/

theorem releaseStation_found {i : Nat} {r : StationRec} {s : State} (hr : s.station? i = some r) :
    releaseStation i s = (s.setStation i r.released).post (.judge i) := by
  simp only [releaseStation, hr]

section
variable {tag : Byte} {s : State} {d : List Byte} {x : NumberSet}

theorem reqAnnRelease_releases (hu : s.lds.service ≠ .unconfigured) (hx : readSet d 0 = some x)
    (hc : x.badCount 8 = false) (hb : x.below 8 = true) (he : x.below s.anp.triggers.length = true) {zones : List Nat}
    (hz : zones = (List.range s.anp.triggers.length).filter
      (fun z => (x.members s.anp.triggers.length).contains z)) :
    reqAnnRelease tag d s = s.posts (((zones.flatMap s.zoneStations).map .releaseStation) ++
      [.answer tag (.released (s.changing zones) s.orderCount)]) := by
  simp only [reqAnnRelease, hx, if_neg hu, hc, hb, he, Bool.not_true, Bool.or_self, Bool.false_eq_true, if_false, hz]
  rfl

end

/-- Settles O51. -/
theorem releaseMakesThePendingLive : Obligations.ReleaseMakesThePendingLive := by
  unfold Obligations.ReleaseMakesThePendingLive
  refine ⟨?_, ?_, ?_⟩
  · rintro tag l s hs hu h1 h8 hl zones hz
    have hbytes : ∀ m ∈ l, m < 256 := fun m hm => by have := (hl m hm).1; omega
    have hcount : NumberSet.badCount (.listed l) 8 = false := by
      have hr : inRange 1 8 l.length = true := (inRange_iff ..).mpr ⟨h1, h8⟩
      rw [NumberSet.badCount, hr]
      rfl
    refine exec_settles (kind := 0x63#8) rfl (by rw [length_list8]; omega) hs
      (reqAnnRelease_releases (s := s.framed) hu (readSet_list8 (pre := []) (by omega) hbytes) hcount ?_ ?_ hz)
    · exact List.all_eq_true.mpr fun z hm => decide_eq_true (hl z hm).1
    · exact List.all_eq_true.mpr fun z hm => decide_eq_true (hl z hm).2
  · intro tag s hs hu
    refine exec_settles (kind := 0x63#8) rfl (by simp) hs
      (reqAnnRelease_releases (s := s.framed) hu (readSet_all (pre := [])) rfl rfl rfl ?_)
    exact (List.filter_eq_self.mpr fun z hz => List.contains_iff_mem.mpr hz).symm
  · intro i r s hr
    rw [releaseStation_found hr, StationRec.released]
    cases r.servicePending <;> cases r.routinePending <;> rfl

/-! ### Delay notices (R162, R163) -/

section
variable {s : State} {i : Nat} {r : StationRec} (hr : s.station? i = some r)
include hr

theorem delayWrite_taken {n : DelayNotice}
    (h : r.delay = none ∨ ∃ o, r.delay = some o ∧ (o.train = n.train ∨ o.minutes ≤ n.minutes)) :
    delayWrite i n s = (s.setStation i { r with delay := some n }).post (.judge i) := by
  have ht : n.taken r.delay = true := by
    rcases h with h | ⟨o, h, ho⟩
    · rw [h]; rfl
    · rw [h]
      simpa [DelayNotice.taken] using ho
  simp only [delayWrite, hr, ht, if_true]

theorem delayWrite_kept {n o : DelayNotice} (h : r.delay = some o) (hne : o.train ≠ n.train) (hlt : n.minutes < o.minutes) :
    delayWrite i n s = s := by
  have ht : n.taken r.delay = false := by
    rw [h]
    simp [DelayNotice.taken, hne, hlt]
  simp only [delayWrite, hr, ht, Bool.false_eq_true, if_false]

theorem trainDeparted_clears {train stop : Nat} {o : DelayNotice} (hi : stop / 2 = i) (h : r.delay = some o)
    (ho : o.train = train) : trainDeparted train stop s = (s.setStation i { r with delay := none }).post (.judge i) := by
  have hd : r.delays train = true := by
    rw [StationRec.delays, h, Option.any_some, ho]
    exact beq_self_eq_true train
  subst hi
  have hstation : s.station? (stationOf stop) = some r := hr
  rw [trainDeparted, State.clearDelay, hstation]
  exact if_pos hd

/-! ### The sending judgement (R164) -/

theorem judge_without_need (hl : r.lastSent = some r.effective) (hst : r.status = .sending ∨ r.status = .confirmed) :
    judge i s = s := by
  have hneed : r.needsShow = false := by
    rcases hst with hst | hst <;> simp [StationRec.needsShow, hl, hst]
  simp only [judge, hr, hneed, Bool.and_false, Bool.false_eq_true, if_false]
  cases r.display <;> rfl

theorem judge_no_display (hd : r.display = none) : judge i s = s := by
  simp only [judge, hr, hd]

theorem judge_sends {el : Nat} (hd : r.display = some el) (ha : s.lds.service = .inService ∨ s.lds.service = .suspended)
    (hn : r.status = .neverSent ∨ r.status = .unconfirmed ∨ r.lastSent ≠ some r.effective)
    (hw : s.successorWaits el = false) : judge i s =
    (s.setStation i { r with lastSent := some r.effective, status := .sending, inFlight := r.inFlight + 1 }).issueOrder el
      (.showText r.effective) := by
  have hneed : r.needsShow = true := by
    simpa [StationRec.needsShow, or_assoc] using hn
  have hj : judge i s = if s.lds.service.active && r.needsShow then s.sendShow i el r else s := by
    simp only [judge, hr, hd]
  rw [hj, (active_iff _).mpr ha, hneed]
  exact if_neg (ne_true_of_eq_false hw)

end

/-! ### Outcomes of SHOWs (R165) -/

section
variable {s : State} {i : Nat} {r : StationRec} {o : OutcomeMsg} (hi : s.stationOfDisplay o.el = some i)
  (hr : s.station? i = some r)
include hi hr

theorem State.showOutcome_earlier (h : 1 < r.inFlight) :
    s.showOutcome o = s.setStation i { r with inFlight := r.inFlight - 1 } := by
  simp only [State.showOutcome, hi, hr, if_pos h]

theorem State.showOutcome_last (h : r.inFlight ≤ 1) : s.showOutcome o = s.sendingEnds i o.el r o.result := by
  simp only [State.showOutcome, hi, hr, if_neg (Nat.not_lt.mpr h)]

theorem State.shownNotice_content {v : ValueNotice} {c : Content} (hv : v.el = o.el) (hc : v.value = some (.display c)) :
    s.shownNotice v = s.setStation i { r with shown := some (some c, v.state) } := by
  simp only [State.shownNotice, hv, hi, hr, hc]

theorem State.shownNotice_empty {v : ValueNotice} (hv : v.el = o.el) (hc : v.value = none) :
    s.shownNotice v = s.setStation i { r with shown := some (none, v.state) } := by
  simp only [State.shownNotice, hv, hi, hr, hc]

end

/-- Settles O52. -/
theorem delayNoticesAndJudgements : Obligations.DelayNoticesAndJudgements := by
  unfold Obligations.DelayNoticesAndJudgements
  refine ⟨?_, ?_⟩
  · intro i r s hr
    refine ⟨fun n => delayWrite_taken hr, fun n o => delayWrite_kept hr, fun train stop o => trainDeparted_clears hr,
      fun hs => judge_inactive i s ?_, judge_without_need hr, judge_no_display hr, fun el => judge_sends hr⟩
    exact Bool.eq_false_iff.mpr ((not_active_iff _).mpr hs)
  · intro o i r s hi hr
    refine ⟨State.showOutcome_earlier hi hr, fun h hres => ?_, fun h hc ha => ?_, fun v hv => ?_⟩
    · rw [State.showOutcome_last hi hr h]
      exact if_pos ((Result.reached_iff _).mpr hres)
    · rw [State.showOutcome_last hi hr h]
      exact if_neg fun hres => ((Result.reached_iff _).mp hres).elim hc ha
    · exact ⟨fun c => State.shownNotice_content hi hr hv, State.shownNotice_empty hi hr hv⟩

end Sys2Proof.Machine
end

section
/-! SUPPORT. The transmitter, the order timers and the issuing of orders: O57, O58 and O59. -/
namespace Sys2Proof.Machine

/-! ### Link records -/

section
variable {s : State} {i : Nat} {l m : LinkRec}

theorem State.modLink_eq_setLink {f : LinkRec → LinkRec} (h : s.links[i]? = some l) :
    s.modLink i f = s.setLink i (f l) := by
  unfold State.modLink State.setLink
  rw [modify_eq_set h]

theorem State.setLink_setLink (i : Nat) (l m : LinkRec) (s : State) : (s.setLink i l).setLink i m = s.setLink i m := by
  simp only [State.setLink, List.set_set]

/-- R178: a change of a link that leaves its error flags leaves the causes. -/
theorem State.settled.setLink (hs : s.settled) (h : s.links[i]? = some l) (he : m.anyError = l.anyError) :
    (s.setLink i m).settled := by
  obtain ⟨hlt, hget⟩ := List.getElem?_eq_some_iff.mp h
  have hmap : (s.links.set i m).map LinkRec.anyError = s.links.map LinkRec.anyError := by
    have hsame : (s.links.map LinkRec.anyError)[i]'(by simpa using hlt) = m.anyError := by
      rw [List.getElem_map, hget, he]
    rw [List.map_set, ← hsame, List.set_getElem_self]
  have hany (ls : List LinkRec) : ls.any LinkRec.anyError = (ls.map LinkRec.anyError).any id := by
    rw [List.any_map]
    rfl
  refine ⟨hs.1, ?_⟩
  have hc : s.hpt.causes = s.causesNow := hs.2
  change s.hpt.causes = { s.causesNow with linkFault := (s.links.set i m).any LinkRec.anyError }
  rw [hany, hmap, ← hany, hc]
  rfl

theorem State.settled.setEntry (hs : s.settled) (e : MirrorEntry) : (s.setEntry e).settled := hs

theorem State.answerMs_setLink (h : s.links[i]? = some l) (hc : m.cfg = l.cfg) (j : Nat) :
    (s.setLink i m).answerMs j = s.answerMs j := by
  unfold State.answerMs
  by_cases hj : i = j
  · subst hj
    rw [State.setLink_at h, h, Option.bind_some, Option.bind_some, hc]
  · rw [State.setLink_other hj]

theorem linkExists_of_lt (hi : i < 8) : linkExists i = true := decide_eq_true hi

end

/-! ### The transmit queue (R28, R29) -/

section
variable {c : OrderClass} {q pre post : List TxEntry} {y : TxEntry}

theorem takeClass_none (h : ∀ z ∈ q, z.data.cls ≠ c) : takeClass c q = none := by
  induction q with
  | nil => rfl
  | cons z q ih =>
    rw [takeClass, if_neg (h z List.mem_cons_self), ih fun x hx => h x (List.mem_cons_of_mem _ hx)]
    rfl

theorem takeClass_first (hy : y.data.cls = c) (h : ∀ z ∈ pre, z.data.cls ≠ c) :
    takeClass c (pre ++ y :: post) = some (y, pre ++ post) := by
  induction pre with
  | nil => exact if_pos hy
  | cons z pre ih =>
    rw [List.cons_append, takeClass, if_neg (h z List.mem_cons_self), ih fun x hx => h x (List.mem_cons_of_mem _ hx)]
    rfl

theorem evictNewest_none (h : ∀ z ∈ q, z.data.cls ≠ c) : evictNewest c q = none := by
  rw [evictNewest, takeClass_none fun z hz => h z (List.mem_reverse.mp hz)]
  rfl

theorem evictNewest_last (hy : y.data.cls = c) (h : ∀ z ∈ post, z.data.cls ≠ c) :
    evictNewest c (pre ++ y :: post) = some (y, pre ++ post) := by
  have hrev : (pre ++ y :: post).reverse = post.reverse ++ y :: pre.reverse := by simp
  rw [evictNewest, hrev, takeClass_first hy fun z hz => h z (List.mem_reverse.mp hz)]
  simp

end

section
variable {s : State} {i : Nat} {l : LinkRec} {y : TxEntry} {rest : List TxEntry}

theorem State.kick_quiet (h : s.links[i]? = some l) (hq : l.sender ≠ none ∨ l.state = .down ∨ l.state = .disabled) :
    s.kick i = s := by
  have hno : (l.sender.isNone && (l.state == .up || l.state == .loopback)) = false := by
    rcases hq with hq | hq | hq
    · rw [Option.isNone_eq_false_iff.mpr (Option.isSome_iff_ne_none.mpr hq), Bool.false_and]
    · simp [hq]
    · simp [hq]
  simp only [State.kick, h, hno, Bool.false_eq_true, if_false]

theorem State.kick_chooses (h : s.links[i]? = some l) (hs : l.sender = none) (ho : l.open) : s.kick i = s.choose i l := by
  have hyes : (l.sender.isNone && (l.state == .up || l.state == .loopback)) = true := by
    rw [hs, Option.isNone_none, Bool.true_and, Bool.or_eq_true, beq_iff_eq, beq_iff_eq]
    exact ho
  simp only [State.kick, h, hyes, if_true]

/-- R29: an order takes the transmitter. -/
def LinkRec.sends (l : LinkRec) (y : TxEntry) (rest : List TxEntry) : LinkRec :=
  { l with tx := rest, sender := some { what := .order y, left := (Sending.order y).telegram.characters } }

theorem State.choose_safety (h : takeClass .safety l.tx = some (y, rest)) :
    s.choose i l = s.setLink i (l.sends y rest) := by
  simp only [State.choose, h]
  rfl

theorem State.choose_control (h : takeClass .safety l.tx = none) (hc : takeClass .control l.tx = some (y, rest)) :
    s.choose i l = s.setLink i (l.sends y rest) := by
  simp only [State.choose, h, hc]
  rfl

/-- R29: with neither a SAFETY nor a CONTROL order, the first poll comes before the DISPLAY orders. -/
theorem State.choose_poll {el : Nat} {polls : List Nat} {e : MirrorEntry} (h : takeClass .safety l.tx = none)
    (hc : takeClass .control l.tx = none) (hp : l.polls = el :: polls) (he : s.entry? el = some e) :
    s.choose i l = (s.setEntry { e with seq := (e.seq + 1) % 256 }).setLink i
      { l with polls := polls,
               sender := some { what := .poll el e.addr ((e.seq + 1) % 256),
                                left := (Sending.poll el e.addr ((e.seq + 1) % 256)).telegram.characters } } := by
  simp only [State.choose, h, hc, hp, he]
  rfl

theorem State.choose_display (h : takeClass .safety l.tx = none) (hc : takeClass .control l.tx = none) (hp : l.polls = [])
    (hg : l.congested = false) (hd : takeClass .display l.tx = some (y, rest)) :
    s.choose i l = s.setLink i (l.sends y rest) := by
  simp only [State.choose, h, hc, hp, hg, hd, Bool.false_eq_true, if_false]
  rw [← hp, ← hg]
  rfl

theorem State.choose_nothing (h : takeClass .safety l.tx = none) (hc : takeClass .control l.tx = none) (hp : l.polls = [])
    (hd : l.congested = true ∨ takeClass .display l.tx = none) : s.choose i l = s := by
  simp only [State.choose, h, hc, hp]
  split
  · rfl
  · next hg => rw [hd.resolve_left hg]

theorem cls_ne_of_display {q : List TxEntry} (h : ∀ z ∈ q, z.data.cls = .display) {c : OrderClass} (hc : c ≠ .display) :
    ∀ z ∈ q, z.data.cls ≠ c := fun z hz he => hc (he.symm.trans (h z hz))

/-- R29: an order of the transmit queue that the transmitter chooses. -/
theorem State.choose_order {pre post : List TxEntry} {cl : OrderClass} (htx : l.tx = pre ++ y :: post)
    (hy : y.data.cls = cl) (hpre : ∀ z ∈ pre, z.data.cls ≠ cl)
    (hcl : cl = .safety ∨ (cl = .control ∧ ∀ z ∈ l.tx, z.data.cls ≠ .safety) ∨
      (cl = .display ∧ (∀ z ∈ l.tx, z.data.cls = .display) ∧ l.polls = [] ∧ l.congested = false)) :
    s.choose i l = s.setLink i (l.sends y (pre ++ post)) := by
  have hfound : takeClass cl l.tx = some (y, pre ++ post) := by
    rw [htx]
    exact takeClass_first hy hpre
  rcases hcl with rfl | ⟨rfl, hsafe⟩ | ⟨rfl, hall, hp, hg⟩
  · exact State.choose_safety hfound
  · exact State.choose_control (takeClass_none hsafe) hfound
  · exact State.choose_display (takeClass_none (cls_ne_of_display hall nofun)) (takeClass_none (cls_ne_of_display hall nofun))
      hp hg hfound

end

/-! ### TELEGRAM_SENT (R29, R48, R56) -/

section
variable {s : State} {i : Nat} {l : LinkRec}

theorem State.telegramSent_idle (h : s.links[i]? = some l) (hs : l.sender = none) : s.telegramSent i = s := by
  simp only [State.telegramSent, h, hs]

theorem State.loopRest_up (h : s.links[i]? = some l) (hu : l.state = .up) : s.loopRest i = s := by
  simp only [State.loopRest, h, hu]

/-- R29: on a link that is UP with nothing more to send, the telegram leaves and its entry is told. -/
theorem State.telegramSent_up {t : Transmitter} (h : s.links[i]? = some l) (hu : l.state = .up) (ht : l.sender = some t) :
    s.telegramSent i = ((s.setLink i { l with sender := none }).sentNotice t.what false).kick i := by
  have hloop : (l.state == .loopback) = false := by rw [hu]; rfl
  simp only [State.telegramSent, h, ht, State.loopRest_up h hu, State.modLink_eq_setLink h, hloop]

theorem State.kick_empty (h : s.links[i]? = some l) (hs : l.sender = none) (hu : l.state = .up) (htx : l.tx = [])
    (hp : l.polls = []) : s.kick i = s := by
  rw [State.kick_chooses h hs (.inl hu)]
  exact State.choose_nothing (by rw [htx]; rfl) (by rw [htx]; rfl) hp (.inr (by rw [htx]; rfl))

theorem State.sentNotice_order {x : TxEntry} {e : MirrorEntry} {o : Order} (he : s.entry? x.el = some e)
    (ho : e.out = some o) (hseq : o.seq = x.seq) (hst : o.stage = .queued) :
    s.sentNotice (.order x) false =
      s.setEntry { e with out := some { o with stage := .sent (s.tick + s.answerMs e.link) } } := by
  simp only [State.sentNotice, he, ho, hseq, hst, and_self, if_true]

theorem State.sentNotice_poll {el a q : Nat} {e : MirrorEntry} (he : s.entry? el = some e) :
    s.sentNotice (.poll el a q) false =
      s.setEntry { e with poll := some { seq := q, deadline := s.tick + s.answerMs e.link } } := by
  simp only [State.sentNotice, he, Bool.false_eq_true, if_false]

end

/-- Settles O57. -/
theorem telegramSentStartsTheTimer : Obligations.TelegramSentStartsTheTimer := by
  unfold Obligations.TelegramSentStartsTheTimer
  refine ⟨?_, ?_⟩
  · intro i l s hs hi hl
    refine ⟨fun hn => exec_event_at_once rfl (linkExists_of_lt hi) (State.telegramSent_idle hl hn) hs,
      fun hu htx hp => ⟨?_, ?_⟩⟩
    · rintro x left e o hsend he rfl ho hseq hst
      have hset : (s.setLink e.link { l with sender := none }).settled := hs.setLink hl rfl
      refine exec_event_at_once rfl (linkExists_of_lt hi) ((State.telegramSent_up hl hu hsend).trans ?_)
        (hset.setEntry _)
      have hms : (s.setLink e.link { l with sender := none }).answerMs e.link = s.answerMs e.link :=
        State.answerMs_setLink (m := { l with sender := none }) hl rfl _
      rw [State.sentNotice_order (s := s.setLink _ _) he ho hseq hst, hms]
      exact State.kick_empty (State.setLink_at hl) rfl hu htx hp
    · rintro el a q left e hsend he rfl
      have hset : (s.setLink e.link { l with sender := none }).settled := hs.setLink hl rfl
      refine exec_event_at_once rfl (linkExists_of_lt hi) ((State.telegramSent_up hl hu hsend).trans ?_)
        (hset.setEntry _)
      have hms : (s.setLink e.link { l with sender := none }).answerMs e.link = s.answerMs e.link :=
        State.answerMs_setLink (m := { l with sender := none }) hl rfl _
      rw [State.sentNotice_poll (s := s.setLink _ _) he, hms]
      exact State.kick_empty (State.setLink_at hl) rfl hu htx hp
  · intro i l s hl
    refine ⟨State.kick_quiet hl, fun hn ho => ⟨?_, ?_, ?_⟩⟩
    · intro pre y post cl htx hy hpre hcl
      rw [State.kick_chooses hl hn ho]
      exact State.choose_order htx hy hpre hcl
    · rintro el rest e q hall hp he rfl
      rw [State.kick_chooses hl hn ho]
      exact State.choose_poll (takeClass_none (cls_ne_of_display hall nofun))
        (takeClass_none (cls_ne_of_display hall nofun)) hp he
    · intro hall hp hd
      rw [State.kick_chooses hl hn ho]
      refine State.choose_nothing (takeClass_none (cls_ne_of_display hall nofun))
        (takeClass_none (cls_ne_of_display hall nofun)) hp (hd.symm.imp_right fun htx => ?_)
      rw [htx]
      rfl

/-! ### Order timers (R48 to R50, R56) -/

section
variable {s : State} {el d : Nat} {e : MirrorEntry} {o : Order} (he : s.entry? el = some e)
include he

/-- R48: an order of the entry whose answer timer runs. -/
theorem State.answerTimeout_sent (ho : e.out = some o) (hst : o.stage = .sent d) :
    s.answerTimeout el = (s.reach d).orderExpired e .timeout := by
  obtain ⟨data, token, seq, stage, defers⟩ := o
  cases hst
  simp only [State.answerTimeout, he, ho]

theorem State.execTimeout_executing (ho : e.out = some o) (hst : o.stage = .executing d) :
    s.execTimeout el = (s.reach d).orderExpired e .execTimeout := by
  obtain ⟨data, token, seq, stage, defers⟩ := o
  cases hst
  simp only [State.execTimeout, he, ho]

theorem State.noPush_waiting (ho : e.out = some o) (hst : o.stage = .pushWait d) :
    s.noPush el = (s.reach d).orderExpired e .noPush := by
  obtain ⟨data, token, seq, stage, defers⟩ := o
  cases hst
  simp only [State.noPush, he, ho]

/-- R48 to R50: a QUEUED order has no timer. -/
theorem State.timers_queued (ho : e.out = some o) (hst : o.stage = .queued) :
    s.answerTimeout el = s ∧ s.execTimeout el = s ∧ s.noPush el = s := by
  obtain ⟨data, token, seq, stage, defers⟩ := o
  cases hst
  simp only [State.answerTimeout, State.execTimeout, State.noPush, he, ho, and_self]

theorem State.elementSilent_settled {w : PollWait} (hw : e.poll = some w) (hst : e.state = .held ∨ e.state = .reported) :
    s.elementSilent el = (((s.reach w.deadline).report .elementSilent (some (.element el)) none none).setEntry
      e.toUnknown).post (e.toUnknown.notice .unknown []
        ((s.reach w.deadline).report .elementSilent (some (.element el)) none none).tick) := by
  rcases hst with hst | hst <;> simp only [State.elementSilent, he, hw, hst]

theorem State.elementSilent_unsettled {w : PollWait} (hw : e.poll = some w) (hst : e.state = .unknown ∨ e.state = .ordered) :
    s.elementSilent el = ((s.reach w.deadline).report .elementSilent (some (.element el)) none none).setEntry
      { e with poll := none } := by
  rcases hst with hst | hst <;> simp only [State.elementSilent, he, hw, hst]

end

theorem State.elementSilent_unpolled {s : State} {el : Nat} (h : ∀ e, s.entry? el = some e → e.poll = none) :
    s.elementSilent el = s := by
  unfold State.elementSilent
  cases he : s.entry? el with
  | none => rfl
  | some e => simp only [h e he]

theorem elementExists_of_lt {el : Nat} (h : el < 256) : elementExists el = true := decide_eq_true h

/-- Settles O58. -/
theorem orderTimersFailTheOrder : Obligations.OrderTimersFailTheOrder := by
  unfold Obligations.OrderTimersFailTheOrder
  refine ⟨?_, ?_, ?_⟩
  · rintro el d e o s hel he ho lost rfl
    refine ⟨fun hst => exec_event_settles rfl (elementExists_of_lt hel) (State.answerTimeout_sent he ho hst),
      fun hst => exec_event_settles rfl (elementExists_of_lt hel) (State.execTimeout_executing he ho hst),
      fun hst => exec_event_settles rfl (elementExists_of_lt hel) (State.noPush_waiting he ho hst), fun hs hst => ?_⟩
    obtain ⟨ha, hx, hn⟩ := State.timers_queued he ho hst
    exact ⟨exec_event_at_once rfl (elementExists_of_lt hel) ha hs, exec_event_at_once rfl (elementExists_of_lt hel) hx hs,
      exec_event_at_once rfl (elementExists_of_lt hel) hn hs⟩
  · exact fun el s hel hn hs =>
      exec_event_at_once rfl (elementExists_of_lt hel) (State.elementSilent_unpolled hn) hs
  · rintro el e w s hel he hw u rfl
    refine ⟨fun hst => exec_event_settles rfl (elementExists_of_lt hel) (State.elementSilent_settled he hw hst),
      fun hs hst => exec_event_at_once rfl (elementExists_of_lt hel) (State.elementSilent_unsettled he hw hst) ?_⟩
    have hs' : ({ s with tick := max s.tick w.deadline } : State).settled := hs
    exact (hs'.report _ _ _ _).setEntry _

/-! ### Issuing (R28, R45 to R47, R55) -/

section
variable {s : State} {i : Nat} {l : LinkRec} {tx : TxEntry} (hl : s.links[i]? = some l) (ho : l.open)
  (hfull : 12 ≤ l.tx.length)
include hl ho hfull

/-- R28: an order offered to a full queue. -/
theorem State.offer_full : s.offer i tx =
    if tx.data.cls ≠ .safety then .refused .linkFull
    else (evictNewest .display l.tx).elim
      ((evictNewest .control l.tx).elim (.refused .linkFull)
        (fun x => .taken ((s.setLink i { l with tx := x.2 ++ [tx] }).post (.evicted x.1.el x.1.token))))
      (fun x => .taken ((s.setLink i { l with tx := x.2 ++ [tx] }).post (.evicted x.1.el x.1.token))) := by
  have hopen : (l.state == .disabled || l.state == .down) = false := by
    rcases ho with ho | ho <;> simp [ho]
  have hroom : ¬ l.tx.length < Config.maxTransmit := Nat.not_lt.mpr hfull
  simp only [State.offer, hl, hopen, Bool.false_eq_true, if_false, if_neg hroom]
  split
  · rfl
  · cases evictNewest .display l.tx with
    | some x => rfl
    | none => cases evictNewest .control l.tx <;> rfl

theorem State.offer_full_refused (hc : tx.data.cls ≠ .safety) : s.offer i tx = .refused .linkFull :=
  (State.offer_full hl ho hfull).trans (if_pos hc)

theorem State.offer_full_safety (hc : tx.data.cls = .safety) (hall : ∀ y ∈ l.tx, y.data.cls = .safety) :
    s.offer i tx = .refused .linkFull := by
  have hnone {c : OrderClass} (hne : c ≠ .safety) : evictNewest c l.tx = none :=
    evictNewest_none fun z hz he => hne (he.symm.trans (hall z hz))
  rw [State.offer_full hl ho hfull, if_neg (not_not_intro hc), hnone (c := .display) nofun, hnone (c := .control) nofun]
  rfl

theorem State.offer_full_evicts {pre post : List TxEntry} {y : TxEntry} {cl : OrderClass} (hc : tx.data.cls = .safety)
    (htx : l.tx = pre ++ y :: post) (hy : y.data.cls = cl) (hpost : ∀ z ∈ post, z.data.cls ≠ cl)
    (hcl : cl = .display ∨ (cl = .control ∧ ∀ z ∈ l.tx, z.data.cls ≠ .display)) : s.offer i tx =
    .taken ((s.setLink i { l with tx := pre ++ post ++ [tx] }).post (.evicted y.el y.token)) := by
  have hlast : evictNewest cl l.tx = some (y, pre ++ post) := by
    rw [htx]
    exact evictNewest_last hy hpost
  rw [State.offer_full hl ho hfull, if_neg (not_not_intro hc)]
  rcases hcl with rfl | ⟨rfl, hno⟩
  · rw [hlast]
    rfl
  · rw [evictNewest_none hno, hlast]
    rfl

end

section
variable {s : State} {el token : Nat} {d : OrderData} {e : MirrorEntry}

theorem issue_absent (h : s.entry? el = none) : issue el d token s = s.failAtIssue el d token .unknown := by
  simp only [issue, h]

/-- R45: an order to a HELD entry without a successor is offered to the link. -/
theorem issue_held (he : s.entry? el = some e) (hst : e.state = .held) (hw : e.succ = none) :
    issue el d token s = s.startOrder e d token := by
  simp only [issue, he, hst, hw]

theorem State.startOrder_refused {r : Result} (h : s.offer e.link (e.txEntry d token) = .refused r) :
    s.startOrder e d token = (s.setEntry { e with seq := (e.seq + 1) % 256 }).failAtIssue e.el d token r := by
  simp only [State.startOrder, h]
  rfl

theorem State.startOrder_taken {t : State} (h : s.offer e.link (e.txEntry d token) = .taken t) :
    s.startOrder e d token = ((t.setEntry (e.withOrder d token 0)).kick e.link).post
      ((e.withOrder d token 0).notice .order [] s.tick) := by
  simp only [State.startOrder, h]

section
variable {o : Order} (he : s.entry? el = some e) (hst : e.state = .ordered) (ho : e.out = some o)
include he hst ho

theorem issue_waits (hc : d.cls ≠ .safety) : issue el d token s = s.wait e d token := by
  simp only [issue, he, hst, ho, if_neg hc]

theorem issue_overtakes (hc : d.cls = .safety) : issue el d token s = s.overtake e o d token := by
  simp only [issue, he, hst, ho, if_pos hc]

end

theorem State.wait_first (hw : e.succ = none) :
    s.wait e d token = s.setEntry { e with succ := some { data := d, token := token } } := by
  unfold State.wait
  rw [hw]
  exact State.posts_nil _

theorem State.wait_supersedes {w : Waiting} (hw : e.succ = some w) : s.wait e d token =
    (s.setEntry { e with succ := some { data := d, token := token } }).posts
      [.outcome { el := e.el, data := w.data, token := w.token, result := .superseded, atIssue := false },
        .report .orderFailed (some (.element e.el)) (some 0x13) (some w.data.code)] := by
  unfold State.wait
  rw [hw]
  rfl

/-- R47: an order under way, as one that overtakes it makes of its entry. -/
theorem MirrorEntry.withOrder_of_ordered (hst : e.state = .ordered) : e.withOrder d token 0 =
    { e with seq := (e.seq + 1) % 256,
             out := some { data := d, token := token, seq := (e.seq + 1) % 256, stage := .queued, defers := 0 } } := by
  unfold MirrorEntry.withOrder MirrorEntry.nextSeq
  rw [← hst]

section
variable {o : Order} {l : LinkRec} (hl : s.links[e.link]? = some l)
include hl

theorem State.isQueued_iff : s.isQueued e.link o.token = true ↔ ∃ y ∈ l.tx, y.token = o.token := by
  simp only [State.isQueued, hl, Option.any_some, List.any_eq_true, beq_iff_eq]

/-- R47: the order overtaken is still in the queue and leaves it. -/
theorem State.overtake_queued (hq : ∃ y ∈ l.tx, y.token = o.token) : s.overtake e o d token =
    (((s.setLink e.link { l with tx := l.tx.filter (fun y => y.token != o.token) ++ [e.txEntry d token] }).setEntry
      (e.withOrder d token 0)).kick e.link).posts
        [.outcome { el := e.el, data := o.data, token := o.token, result := .superseded, atIssue := false },
          .report .orderFailed (some (.element e.el)) (some 0x13) (some o.data.code)] := by
  have hrep : s.replaceQueued e.link o.token (e.txEntry d token) = s.setLink e.link
      { l with tx := l.tx.filter (fun y => y.token != o.token) ++ [e.txEntry d token] } := State.modLink_eq_setLink hl
  rw [State.overtake, (State.isQueued_iff hl).mpr hq, hrep]
  rfl

/-- R47: the order overtaken has left the queue. -/
theorem State.not_isQueued (hq : ∀ y ∈ l.tx, y.token ≠ o.token) : s.isQueued e.link o.token = false := by
  rw [Bool.eq_false_iff, Ne, State.isQueued_iff hl]
  rintro ⟨y, hy, he⟩
  exact hq y hy he

theorem State.overtake_taken {u : State} (hq : ∀ y ∈ l.tx, y.token ≠ o.token)
    (ho : s.offer e.link (e.txEntry d token) = .taken u) : s.overtake e o d token =
    ((u.setEntry (e.withOrder d token 0)).kick e.link).posts
      [.outcome { el := e.el, data := o.data, token := o.token, result := .superseded, atIssue := false },
        .report .orderFailed (some (.element e.el)) (some 0x13) (some o.data.code)] := by
  simp only [State.overtake, State.not_isQueued hl hq, ho, Bool.false_eq_true, if_false]
  rfl

theorem State.overtake_refused {r : Result} (hq : ∀ y ∈ l.tx, y.token ≠ o.token)
    (ho : s.offer e.link (e.txEntry d token) = .refused r) : s.overtake e o d token =
    (s.setEntry { e with seq := (e.seq + 1) % 256 }).failAtIssue e.el d token r := by
  simp only [State.overtake, State.not_isQueued hl hq, ho, Bool.false_eq_true, if_false]
  rfl

end

theorem evicted_outstanding {o : Order} (he : s.entry? el = some e) (ho : e.out = some o) (ht : o.token = token) :
    evicted el token s = s.endHeld e o .evicted .order := by
  simp only [evicted, he, ho, if_pos ht]

theorem evicted_other (h : ∀ e o, s.entry? el = some e → e.out = some o → o.token ≠ token) : evicted el token s = s := by
  unfold evicted
  cases he : s.entry? el with
  | none => rfl
  | some e =>
    cases ho : e.out with
    | none => simp only [ho]
    | some o => simp only [ho, if_neg (h e o he ho)]

end

/-- Settles O59: the issue by the mirror state, the offer by the queue, the eviction by the order that stands. -/
theorem ordersAreJudgedAtIssue : Obligations.OrdersAreJudgedAtIssue := by
  unfold Obligations.OrdersAreJudgedAtIssue
  refine ⟨?_, ?_, ?_, ?_⟩
  · intro el token d s
    refine ⟨issue_absent, fun e he => ⟨issue_unknown el d token s e he, issue_reported el d token s e he, ?_, ?_, ?_, ?_⟩⟩
    · intro l hst hw hl hd
      rw [issue_held he hst hw]
      exact State.startOrder_refused (State.offer_down _ _ s l hl (.inr hd))
    · rintro l x hst hw hl ho hroom rfl
      rw [issue_held he hst hw]
      exact State.startOrder_taken (State.offer_room _ _ s l hl ho hroom)
    · intro o hst ho hc hw
      rw [issue_waits he hst ho hc, State.wait_first hw]
    · intro o w hst ho hc hw
      rw [issue_waits he hst ho hc, State.wait_supersedes hw]
  · rintro el token d e x o s he hst ho hc rfl tx old rfl rfl
    rw [issue_overtakes he hst ho hc, ← MirrorEntry.withOrder_of_ordered hst]
    exact ⟨fun l hl => State.overtake_queued hl, fun l u hl => State.overtake_taken hl,
      fun l r hl => State.overtake_refused hl⟩
  · intro i tx l s hl
    exact ⟨State.offer_down i tx s l hl, fun ho => ⟨fun hroom => State.offer_room i tx s l hl ho hroom,
      State.offer_full_refused hl ho, State.offer_full_safety hl ho,
      fun pre y post cl hfull hc => State.offer_full_evicts hl ho hfull hc⟩⟩
  · exact fun el token s => ⟨fun e o he ho ht => evicted_outstanding he ho ht, evicted_other⟩

end Sys2Proof.Machine
end

section
/-! SUPPORT. Carrier, LINK_MODE, LINK_QUERY and ELEMENT_POLL: O53 and O54. -/
namespace Sys2Proof.Machine

/-! ### Carrier (R31, R32) -/

section
variable {s : State} {i : Nat} {l : LinkRec}

theorem State.moveLink_of (h : s.links[i]? = some l) (new : LinkState) :
    s.moveLink i new = (s.setLink i { l with state := new }).post (linkReport i l.state new) := by
  simp only [State.moveLink, h]
  rfl

theorem State.carrierReturn_down (h : s.links[i]? = some l) (hc : l.carrier = false) (hd : l.state = .down) :
    s.carrierReturn i =
      ((((s.setLink i { l with carrier := true }).setLink i { l with carrier := true, state := .up }).post
        (linkReport i .down .up)).pollSweep i).post (.resolve .linkLoss i) := by
  simp only [State.carrierReturn, h, hc, hd, Bool.false_eq_true, if_false, if_true, State.linkUp,
    State.moveLink_of (State.setLink_at h)]

theorem State.carrierReturn_other (h : s.links[i]? = some l) (hc : l.carrier = false) (hd : l.state ≠ .down) :
    s.carrierReturn i = s.setLink i { l with carrier := true } := by
  simp only [State.carrierReturn, h, hc, Bool.false_eq_true, if_false]
  exact if_neg hd

theorem State.carrierReturn_present (h : s.links[i]? = some l) (hc : l.carrier = true) : s.carrierReturn i = s := by
  simp only [State.carrierReturn, h, hc, if_true]

theorem State.carrierLoss_up (h : s.links[i]? = some l) (hc : l.carrier = true) (hu : l.state = .up) :
    s.carrierLoss i = ((s.setLink i { l with carrier := false }).leaveLink i .down).posts
      [linkReport i .up .down, .raise .linkLoss i] := by
  simp only [State.carrierLoss, h, hc, hu, Bool.not_true, Bool.false_eq_true, if_false, if_true]

theorem State.carrierLoss_other (h : s.links[i]? = some l) (hc : l.carrier = true) (hu : l.state ≠ .up) :
    s.carrierLoss i = s.setLink i { l with carrier := false } := by
  simp only [State.carrierLoss, h, hc, Bool.not_true, Bool.false_eq_true, if_false]
  exact if_neg hu

theorem State.carrierLoss_absent (h : s.links[i]? = some l) (hc : l.carrier = false) : s.carrierLoss i = s := by
  simp only [State.carrierLoss, h, hc, Bool.not_false, if_true]

end

/-! ### LINK_MODE (R33, R34) -/

section
variable {s : State} {i : Nat} {l : LinkRec}

theorem State.linkModeCheck_unconfigured {d : List Byte} (hv : s.lds.service ≠ .unconfigured) (h0 : at8 d 0 = i)
    (hi : i < 8) (h1 : at8 d 1 ≤ 1) (h : s.links[i]? = some l) (hc : l.cfg = none) :
    s.linkModeCheck d = some .notFound := by
  have hrange : ¬ (7 < at8 d 0 ∨ 1 < at8 d 1) := by omega
  unfold State.linkModeCheck
  rw [if_neg hv, if_neg hrange, h0, h, Option.any_some, hc]
  rfl

theorem State.linkModeCheck_configured {d : List Byte} (hv : s.lds.service ≠ .unconfigured) (h0 : at8 d 0 = i)
    (hi : i < 8) (h1 : at8 d 1 ≤ 1) (h : s.links[i]? = some l) (hc : l.cfg ≠ none) : s.linkModeCheck d = none := by
  have hrange : ¬ (7 < at8 d 0 ∨ 1 < at8 d 1) := by omega
  unfold State.linkModeCheck
  rw [if_neg hv, if_neg hrange, h0, h, Option.any_some, Option.isSome_iff_ne_none.mpr hc]
  rfl

theorem reqLinkMode_refused {tag : Byte} {d : List Byte} {c : RefusalCode} (hd : d.length = 2)
    (hc : s.linkModeCheck d = some c) : reqLinkMode tag d s = s.refuse tag c := by
  simp only [reqLinkMode, hd, hc, ne_eq, not_true_eq_false, if_false]

theorem reqLinkMode_accepted {tag : Byte} {d : List Byte} (hd : d.length = 2) (hc : s.linkModeCheck d = none)
    (h0 : at8 d 0 = i) (h : s.links[i]? = some l) : reqLinkMode tag d s =
      (if at8 d 1 = 1 then s.enterLoop i l else s.leaveLoop i l).post (.answer tag (.done [])) := by
  simp only [reqLinkMode, hd, hc, h0, h, ne_eq, not_true_eq_false, if_false]

theorem State.enterLoop_up (hu : l.state = .up) :
    s.enterLoop i l = (s.leaveLink i .loopback).post (linkReport i .up .loopback) := by
  simp only [State.enterLoop, hu]

theorem State.enterLoop_down (hd : l.state = .down) :
    s.enterLoop i l = (s.setLink i { l with state := .loopback, asm := .hunting }).post (linkReport i .down .loopback) := by
  simp only [State.enterLoop, hd]

theorem State.enterLoop_other (h : l.state = .loopback ∨ l.state = .disabled) : s.enterLoop i l = s := by
  rcases h with h | h <;> simp only [State.enterLoop, h]

theorem State.leaveLoop_carrier (h : l.state = .loopback) (hc : l.carrier = true) : s.leaveLoop i l =
    (((s.leaveLink i .up).post (linkReport i .loopback .up)).pollSweep i).post (.resolve .linkLoss i) := by
  simp only [State.leaveLoop, h, hc, if_true]

theorem State.leaveLoop_lost (h : l.state = .loopback) (hc : l.carrier = false) : s.leaveLoop i l =
    (s.leaveLink i .down).posts [linkReport i .loopback .down, .raise .linkLoss i] := by
  simp only [State.leaveLoop, h, hc, Bool.false_eq_true, if_false]

theorem State.leaveLoop_other (h : l.state ≠ .loopback) : s.leaveLoop i l = s := by
  unfold State.leaveLoop
  split
  · next hl => exact absurd hl h
  · rfl

/-- R33: a request that reports a move of a link and nothing else. -/
theorem settle_linkReport {tag : Byte} {old new : LinkState} (hs : s.settled) :
    settle ((s.post (linkReport i old new)).post (.answer tag (.done []))) =
      (s.report .linkState (some (.link i)) (some old.code) (some new.code)).done tag [] := by
  have hr : (handle (linkReport i old new) s).settled := hs.report _ _ _ _
  rw [State.post_eq_posts (linkReport _ _ _), State.posts_post]
  exact settle_posts_through ⟨hs, hr, hr.done tag []⟩ (by simp)

end

section
variable {s : State} {i : Nat} {l : LinkRec} {tag : Byte}

theorem at8_ofNat_cons (hi : i < 256) (b : Byte) : at8 [BitVec.ofNat 8 i, b] 0 = i := at8_u8 hi [b]

theorem exec_linkMode_notFound (hs : s.ready) (hv : s.lds.service ≠ .unconfigured) (hi : i < 8)
    (h : s.links[i]? = some l) (hc : l.cfg = none) :
    exec (.linkModeLoopback tag (BitVec.ofNat 8 i)) s = .next (s.framed.refuse tag .notFound) ∧
    exec (.linkModeNormal tag (BitVec.ofNat 8 i)) s = .next (s.framed.refuse tag .notFound) := by
  have h0 (b : Byte) := at8_ofNat_cons (i := i) (by omega) b
  exact ⟨exec_refuse rfl (by simp) hs (reqLinkMode_refused rfl
      (State.linkModeCheck_unconfigured (s := s.framed) hv (h0 _) hi (Nat.le_refl 1) h hc)),
    exec_refuse rfl (by simp) hs (reqLinkMode_refused rfl
      (State.linkModeCheck_unconfigured (s := s.framed) hv (h0 _) hi (Nat.zero_le 1) h hc))⟩

theorem exec_linkModeLoopback (hs : s.ready) (hv : s.lds.service ≠ .unconfigured) (hi : i < 8)
    (h : s.links[i]? = some l) (hc : l.cfg ≠ none) : exec (.linkModeLoopback tag (BitVec.ofNat 8 i)) s =
      .next (settle ((s.framed.enterLoop i l).post (.answer tag (.done [])))) :=
  have h0 := at8_ofNat_cons (i := i) (by omega) 1#8
  exec_settles rfl (by simp) hs (reqLinkMode_accepted rfl
    (State.linkModeCheck_configured (s := s.framed) hv h0 hi (Nat.le_refl 1) h hc) h0 h)

theorem exec_linkModeNormal (hs : s.ready) (hv : s.lds.service ≠ .unconfigured) (hi : i < 8)
    (h : s.links[i]? = some l) (hc : l.cfg ≠ none) : exec (.linkModeNormal tag (BitVec.ofNat 8 i)) s =
      .next (settle ((s.framed.leaveLoop i l).post (.answer tag (.done [])))) :=
  have h0 := at8_ofNat_cons (i := i) (by omega) 0#8
  exec_settles rfl (by simp) hs (reqLinkMode_accepted rfl
    (State.linkModeCheck_configured (s := s.framed) hv h0 hi (Nat.zero_le 1) h hc) h0 h)

end

/-! ### A link that leaves UP or LOOPBACK (R32, R55) -/

section
variable {s w : State} {i : Nat} {l x : LinkRec}

theorem State.withdrawTentative_none (h : s.links[i]? = some l) (ht : l.tentative = none) : s.withdrawTentative i = s := by
  simp only [State.withdrawTentative, h, ht]

theorem State.withdrawTentative_some (h : s.links[i]? = some l) (ht : l.tentative ≠ none) :
    s.withdrawTentative i = (s.setLink i { l with tentative := none }).post (.tentativeEnd i false) := by
  obtain ⟨f, hf⟩ := Option.ne_none_iff_exists'.mp ht
  simp only [State.withdrawTentative, h, hf]

theorem State.fragment_eq (h : s.links[i]? = some l) : s.fragment i = (if l.tentative = none then s
    else (s.setLink i { l with tentative := none }).post (.tentativeEnd i false)).rxJoin i
      (fun looped => .annotation .fragment looped) := by
  unfold State.fragment
  split
  · next ht => rw [State.withdrawTentative_none h ht]; rfl
  · next ht => rw [State.withdrawTentative_some h ht]; rfl

@[simp] theorem State.rxJoin_mirror (i : Nat) (mk : Bool → RxEntry) (s : State) : (s.rxJoin i mk).mirror = s.mirror := by
  unfold State.rxJoin
  split
  · rfl
  · dsimp only
    repeat' split
    all_goals simp

@[simp] theorem State.rxJoin_tick (i : Nat) (mk : Bool → RxEntry) (s : State) : (s.rxJoin i mk).tick = s.tick := by
  unfold State.rxJoin
  split
  · rfl
  · dsimp only
    repeat' split
    all_goals simp

@[simp] theorem State.fragment_mirror (i : Nat) (s : State) : (s.fragment i).mirror = s.mirror := by
  unfold State.fragment State.withdrawTentative
  repeat' split
  all_goals exact State.rxJoin_mirror _ _ _

@[simp] theorem State.fragment_tick (i : Nat) (s : State) : (s.fragment i).tick = s.tick := by
  unfold State.fragment State.withdrawTentative
  repeat' split
  all_goals exact State.rxJoin_tick _ _ _

/-- R32: a link with its receiver, transmitter, queue and poll list stopped. -/
def LinkRec.stopped (l : LinkRec) : LinkRec := { l with asm := .hunting, sender := none, tx := [], polls := [] }

theorem State.quiesce_hunting (h : s.links[i]? = some l) (ha : l.asm = .hunting) :
    s.quiesce i = s.setLink i l.stopped := by
  simp only [State.quiesce, h, ha]
  rw [State.modLink_eq_setLink h]
  rfl

theorem State.quiesce_busy {bytes : List Byte} {d lead : Bool} {last : Nat} (h : s.links[i]? = some l)
    (ha : l.asm = .busy bytes d lead last) (hx : (s.fragment i).links[i]? = some x) :
    s.quiesce i = (s.fragment i).setLink i x.stopped := by
  simp only [State.quiesce, h, ha]
  rw [State.modLink_eq_setLink hx]
  rfl

/-- R55: the notices of a link's elements lost with the orders of its line. -/
def State.lossNotices (i : Nat) (orders : List TxEntry) (s : State) : List Notice :=
  (s.failing i orders).flatMap (·.failOutcomes .linkDown) ++
    (s.mirror.filter (fun e => e.link == i && e.state != .unknown)).map (fun e => e.toUnknown.notice .unknown [] s.tick) ++
    (s.failing i orders).flatMap (·.failReports .linkDown)

theorem State.leaveLink_of {new : LinkState} (h : s.links[i]? = some l) (hq : s.quiesce i = w.setLink i x.stopped)
    (hx : w.links[i]? = some x) (hm : w.mirror = s.mirror) (ht : w.tick = s.tick) :
    s.leaveLink i new = ({ w.setLink i { x.stopped with state := new } with
      mirror := s.mirror.map (fun e : MirrorEntry => if e.link = i then e.toUnknown else e) }).posts
        (s.lossNotices i l.lineOrders) := by
  have hmod : (s.quiesce i).modLink i (fun l => { l with state := new }) =
      w.setLink i { x.stopped with state := new } := by
    rw [hq, State.modLink_eq_setLink (State.setLink_at hx), State.setLink_setLink]
  unfold State.leaveLink
  rw [hmod, h]
  unfold State.loseElements State.lossNotices State.failing
  simp only [State.setLink_mirror, State.setLink_tick, hm, ht, Option.map_some, Option.getD_some]

theorem MirrorEntry.failOutcomes_eq (e : MirrorEntry) (r : Result) : e.failOutcomes r =
    e.out.toList.map (fun o => outcomeOf e.el o.data o.token r false) ++
      e.succ.toList.map (fun w => outcomeOf e.el w.data w.token r false) := by
  unfold MirrorEntry.failOutcomes
  cases e.out <;> cases e.succ <;> rfl

theorem MirrorEntry.failReports_linkDown (e : MirrorEntry) : e.failReports .linkDown =
    e.out.toList.map (fun o => .report .orderFailed (some (.element e.el)) (some 0x18) (some o.data.code)) ++
      e.succ.toList.map (fun w => .report .orderFailed (some (.element e.el)) (some 0x18) (some w.data.code)) := by
  unfold MirrorEntry.failReports
  cases e.out <;> cases e.succ <;> rfl

theorem LinkRec.lineOrders_order {o : TxEntry} {n : List Byte} (h : l.sender = some { what := .order o, left := n }) :
    l.lineOrders = o :: l.tx := by
  simp only [LinkRec.lineOrders, h]

theorem LinkRec.lineOrders_other (h : ∀ o n, l.sender ≠ some { what := .order o, left := n }) : l.lineOrders = l.tx := by
  unfold LinkRec.lineOrders
  split
  · next o n hs => exact absurd hs (h o n)
  · rfl

theorem LinkRec.lineOrders_of {orders : List TxEntry}
    (horder : ∀ o n, l.sender = some { what := .order o, left := n } → orders = o :: l.tx)
    (hother : (∀ o n, l.sender ≠ some { what := .order o, left := n }) → orders = l.tx) : l.lineOrders = orders := by
  by_cases h : ∃ o n, l.sender = some { what := .order o, left := n }
  · obtain ⟨o, n, hs⟩ := h
    rw [LinkRec.lineOrders_order hs, horder o n hs]
  · simp only [not_exists] at h
    rw [LinkRec.lineOrders_other h, hother h]

end

/-- Settles O53. -/
theorem carrierAndModeMoveTheLink : Obligations.CarrierAndModeMoveTheLink := by
  unfold Obligations.CarrierAndModeMoveTheLink
  refine ⟨?_, ?_, ?_⟩
  · intro i l s hi h
    have hw := linkExists_of_lt hi
    exact ⟨fun hc hd => exec_event_settles rfl hw (State.carrierReturn_down h hc hd),
      fun hc hu => exec_event_settles rfl hw (State.carrierLoss_up h hc hu),
      fun hs hc hd => exec_event_at_once rfl hw (State.carrierReturn_other h hc hd) (hs.setLink h rfl),
      fun hs hc hu => exec_event_at_once rfl hw (State.carrierLoss_other h hc hu) (hs.setLink h rfl),
      fun hs hc => exec_event_at_once rfl hw (State.carrierReturn_present h hc) hs,
      fun hs hc => exec_event_at_once rfl hw (State.carrierLoss_absent h hc) hs⟩
  · intro tag i l s hs hv hi h
    refine ⟨exec_linkMode_notFound hs hv hi h, fun hc => ?_⟩
    have hloop := exec_linkModeLoopback (tag := tag) hs hv hi h hc
    have hnormal := exec_linkModeNormal (tag := tag) hs hv hi h hc
    have hset : s.framed.settled := hs.1.framed
    refine ⟨fun hu => ?_, fun hd => ?_, fun hl hca => ?_, fun hl hca => ?_, fun ho => ?_, fun hn => ?_⟩
    · rw [hloop, State.enterLoop_up hu, State.post_eq_posts (linkReport _ _ _), State.posts_post]
      rfl
    · have hmoved : (s.framed.setLink i { l with state := .loopback, asm := .hunting }).settled :=
        hset.setLink (s := s.framed) h rfl
      rw [hloop, State.enterLoop_down hd, settle_linkReport hmoved]
      rfl
    · rw [hnormal, State.leaveLoop_carrier hl hca, State.post_eq_posts (.resolve _ _), State.posts_post]
      rfl
    · rw [hnormal, State.leaveLoop_lost hl hca, State.posts_post]
      rfl
    · rw [hloop, State.enterLoop_other ho, settle_answer _ _ _ hset]
    · rw [hnormal, State.leaveLoop_other hn, settle_answer _ _ _ hset]
  · rintro i new l x s w h hhunt hbusy hx mine first failing rfl orders horder hother rfl rfl
    have hwe : s.quiesce i = w.setLink i x.stopped ∧ w.mirror = s.mirror ∧ w.tick = s.tick := by
      cases ha : l.asm with
      | hunting =>
        obtain rfl := hhunt ha
        obtain rfl := Option.some.inj (hx.symm.trans h)
        exact ⟨State.quiesce_hunting h ha, rfl, rfl⟩
      | busy bytes d lead last =>
        have hfrag : w = s.fragment i := (hbusy bytes d lead last ha).trans (State.fragment_eq h).symm
        rw [hfrag] at hx ⊢
        exact ⟨State.quiesce_busy h ha hx, by simp, by simp⟩
    obtain ⟨hq, hm, ht⟩ := hwe
    rw [State.leaveLink_of h hq hx hm ht, LinkRec.lineOrders_of horder hother]
    unfold State.lossNotices State.failing
    simp only [MirrorEntry.failOutcomes_eq, MirrorEntry.failReports_linkDown, List.filter_filter, Bool.and_comm]
    rfl

/-! ### LINK_QUERY (R35) -/

section
variable {s : State} {i : Nat} {l : LinkRec} {tag : Byte}

theorem reqLinkQuery_found {d : List Byte} (hd : d.length = 1) (h0 : at8 d 0 = i) (h : s.links[i]? = some l) :
    reqLinkQuery tag d s = (s.setLink i l.cleared).done tag l.bytes := by
  simp only [reqLinkQuery, hd, h0, h, ne_eq, not_true_eq_false, if_false]

/-- R178: an input that falls latches nothing. -/
theorem Conditions.latch_falls {f : Conditions} {old now : Causes} (hl : now.linkFault = true → old.linkFault = true)
    (hp : now.powerAlert = old.powerAlert) (hi : now.incidentOpen = old.incidentOpen) : f.latch old now = f := by
  have hlink : (now.linkFault && !old.linkFault) = false := by
    cases hn : now.linkFault with
    | false => rfl
    | true => rw [hl hn]; rfl
  simp only [Conditions.latch, hlink, hp, hi, Bool.and_not_self, Bool.or_false]

theorem anyError_set_cleared {ls : List LinkRec} (h : (ls.set i l.cleared).any LinkRec.anyError = true) :
    ls.any LinkRec.anyError = true := by
  obtain ⟨m, hm, he⟩ := List.any_eq_true.mp h
  rcases List.mem_or_eq_of_mem_set hm with hm | rfl
  · exact List.any_eq_true.mpr ⟨m, hm, he⟩
  · exact absurd he (by simp [LinkRec.anyError, LinkRec.cleared])

end

/-! ### ELEMENT_POLL (R30, R58) -/

section
variable {s : State} {i el : Nat} {l : LinkRec} {e : MirrorEntry} {tag : Byte}

theorem reqElementPoll_missing {d : List Byte} (hd : d.length = 1) (h0 : at8 d 0 = el) (he : s.entry? el = none) :
    reqElementPoll tag d s = s.refuse tag .notFound := by
  simp only [reqElementPoll, hd, h0, he, ne_eq, not_true_eq_false, if_false]

theorem reqElementPoll_found {d : List Byte} (hd : d.length = 1) (h0 : at8 d 0 = el) (he : s.entry? el = some e) :
    reqElementPoll tag d s = (s.poll e.link el).done tag (u8 (s.pollResult e)) := by
  have hel : e.el = el := by simpa using List.find?_some he
  simp only [reqElementPoll, hd, h0, he, ne_eq, not_true_eq_false, if_false, hel]

theorem State.pollResult_closed (h : s.links[e.link]? = some l) (hl : l.state = .down ∨ l.state = .disabled) :
    s.pollResult e = 2 := by
  unfold State.pollResult
  rw [h]
  rcases hl with hl | hl <;> rw [Option.any_some, hl] <;> rfl

theorem State.listed_iff (h : s.links[e.link]? = some l) : s.listed e = true ↔ e.el ∈ l.polls := by
  rw [State.listed, h, Option.any_some, List.contains_iff_mem]

theorem State.pollResult_open (h : s.links[e.link]? = some l) (hl : l.open) :
    s.pollResult e = if s.listed e then 1 else 0 := by
  unfold State.pollResult
  rw [h]
  rcases hl with hl | hl <;> rw [Option.any_some, hl] <;> rfl

theorem State.poll_listed (h : s.links[i]? = some l) (hin : el ∈ l.polls) : s.poll i el = s := by
  simp [State.poll, h, hin]

theorem State.poll_appends (h : s.links[i]? = some l) (hl : l.open) (hin : el ∉ l.polls) :
    s.poll i el = (s.setLink i { l with polls := l.polls ++ [el] }).kick i := by
  have hopen : (l.state == .up || l.state == .loopback) = true := by
    rcases hl with hl | hl <;> rw [hl] <;> rfl
  simp [State.poll, h, hopen, hin]

/-- R29: what the choice changes leaves the unit settled. -/
theorem State.settled.choose (hs : s.settled) (h : s.links[i]? = some l) : (s.choose i l).settled := by
  unfold State.choose
  split
  · exact hs.setLink h rfl
  · split
    · exact hs.setLink h rfl
    · split
      · split
        · exact State.settled.setLink (s := s.setEntry _) hs h rfl
        · exact hs.setLink h rfl
      · split
        · exact hs
        · split
          · exact hs.setLink h rfl
          · exact hs

theorem State.settled.kick (hs : s.settled) (i : Nat) : (s.kick i).settled := by
  unfold State.kick
  split
  · exact hs
  · next l h =>
    split
    · exact hs.choose h
    · exact hs

theorem State.kick_setLink_busy {m : LinkRec} (hm : m.sender ≠ none) (u : State) :
    (u.setLink i m).kick i = u.setLink i m := by
  cases h : u.links[i]? with
  | some k => exact State.kick_quiet (State.setLink_at h) (.inl hm)
  | none =>
    have hn : (u.setLink i m).links[i]? = none := by
      rw [List.getElem?_eq_none_iff] at h ⊢
      rwa [State.setLink_links, List.length_set]
    simp only [State.kick, hn]

end

/-- Settles O54. -/
theorem linkAndElementRequests : Obligations.LinkAndElementRequests := by
  unfold Obligations.LinkAndElementRequests
  refine ⟨?_, ?_⟩
  · intro tag i l s hs hi h
    have hset : s.framed.settled := hs.1.framed
    let t := (s.framed.setLink i l.cleared).done tag l.bytes
    have hcauses : s.hpt.causes = s.causesNow := hs.1.2
    have hexec : exec (.linkQuery tag (u8 i)) s = .next t.latch := by
      rw [exec_settles (kind := 0x71#8) rfl (by simp [u8]) hs (reqLinkQuery_found rfl (at8_u8_self (by omega)) h)]
      exact congrArg _ (settle_quiet t hset.1)
    refine ⟨t.latch, hexec, rfl, rfl, ?_, rfl, rfl, rfl⟩
    exact Conditions.latch_falls
      (fun hf => (congrArg Causes.linkFault hcauses).trans (anyError_set_cleared hf))
      (congrArg Causes.powerAlert hcauses).symm (congrArg Causes.incidentOpen hcauses).symm
  · intro tag el s hs hel
    have h0 : at8 (u8 el) 0 = el := at8_u8_self hel
    refine ⟨fun he => exec_refuse (code := .notFound) (kind := 0x73#8) rfl (by simp [u8]) hs (reqElementPoll_missing rfl h0 he), fun e l he h => ?_⟩
    have hid : e.el = el := by simpa using List.find?_some he
    have hset : s.framed.settled := hs.1.framed
    have hreq := reqElementPoll_found (tag := tag) (s := s.framed) rfl h0 he
    refine ⟨fun hl => exec_done (kind := 0x73#8) rfl (by simp [u8]) hs (hreq.trans ?_), fun hl => ⟨fun hin => ?_, fun hin => ⟨?_, ?_⟩⟩⟩
    · rw [State.pollResult_closed (s := s.framed) h hl, State.poll_quiet]
      · rfl
      · intro m hm
        obtain rfl := Option.some.inj (h.symm.trans hm)
        rcases hl with hl | hl <;> rw [hl] <;> exact ⟨nofun, nofun⟩
    · have hlist : s.framed.listed e = true := (State.listed_iff (s := s.framed) h).mpr (hid ▸ hin)
      refine exec_done (kind := 0x73#8) rfl (by simp [u8]) hs (hreq.trans ?_)
      rw [State.pollResult_open (s := s.framed) h hl, hlist, State.poll_listed (s := s.framed) h hin]
      rfl
    · have hlist : ¬ s.framed.listed e = true := fun hc => hin (hid ▸ (State.listed_iff (s := s.framed) h).mp hc)
      have hlisted : (s.framed.setLink e.link { l with polls := l.polls ++ [el] }).settled :=
        hset.setLink (s := s.framed) h rfl
      refine exec_at_once (kind := 0x73#8) rfl (by simp [u8]) hs (hreq.trans ?_) ((hlisted.kick e.link).done tag [0x00#8])
      rw [State.pollResult_open (s := s.framed) h hl, if_neg hlist, State.poll_appends (s := s.framed) h hl hin]
      rfl
    · exact fun hb u => State.kick_setLink_busy (m := { l with polls := l.polls ++ [el] }) hb u

end Sys2Proof.Machine
end

section
/-! SUPPORT. The characters of the field lines and the assembler: O55. -/
namespace Sys2Proof.Machine

/-! ### The receivers (R19, R169) -/

theorem FieldChar.judged_bits (v : Byte) (parity stop : Bool) {n : Nat}
    (hn : n = (List.range 8).countP (fun i => v.getLsbD i) + parity.toNat) :
    (FieldChar.bits v parity stop).judged = if n % 2 = 1 ∧ stop = true then Received.good v else Received.damaged v := by
  rw [hn, List.countP_eq_length_filter]
  rfl

theorem HostChar.judged_bits (v : Byte) (stop : Bool) : (HostChar.bits v stop).judged =
    if stop = true then HostReceived.good v else HostReceived.faulty := by
  cases stop <;> rfl

/-! ### The assembler (R20, R21) -/

/-- R20: the byte a character adds to the telegram under way, and whether the telegram is damaged with it: a lead byte
stands for itself only behind another. -/
def addsByte (c : FieldChar) (lead dmg : Bool) (v : Byte) (bad : Bool) : Prop :=
  (c.judged = .good v ∧ (lead = true ↔ v = 0x96#8) ∧ bad = dmg) ∨ (c.judged = .damaged v ∧ lead = false ∧ bad = true)

section
variable {c : FieldChar} {bytes bs : List Byte} {dmg lead bad : Bool} {last now : Nat} {v : Byte}

theorem asmTake_hunting_lead (hc : c.judged = .good 0x96#8) :
    asmTake .hunting c.judged now = (.busy [] false false now, .quiet) := by
  rw [hc]
  rfl

theorem asmTake_hunting_other (hc : c.judged ≠ .good 0x96#8) : asmTake .hunting c.judged now = (.hunting, .quiet) := by
  cases hj : c.judged with
  | good v => exact if_neg fun hv => hc (hj.trans (congrArg _ hv))
  | damaged v => rfl
  | lineBreak => rfl

theorem asmTake_lead (hc : c.judged = .good 0x96#8) :
    asmTake (.busy bytes dmg false last) c.judged now = (.busy bytes dmg true now, .quiet) := by
  rw [hc]
  rfl

theorem asmTake_break (hc : c.judged = .lineBreak) :
    asmTake (.busy bytes dmg false last) c.judged now = (.busy bytes true false now, .quiet) := by
  rw [hc]
  rfl

theorem asmTake_restart (hc : c.judged = .good v) (hv : v ≠ 0x96#8) :
    asmTake (.busy bytes dmg true last) c.judged now = (.busy [v] false false now, .fragment) := by
  rw [hc]
  exact if_neg hv

theorem asmTake_adds (h : addsByte c lead dmg v bad) :
    asmTake (.busy bytes dmg lead last) c.judged now = asmAppend bytes bad v now := by
  rcases h with ⟨hc, hlead, rfl⟩ | ⟨hc, rfl, rfl⟩
  · rw [hc]
    cases lead with
    | true =>
      obtain rfl := hlead.mp rfl
      rfl
    | false => exact if_neg fun hv => Bool.false_ne_true (hlead.mpr hv)
  · rw [hc]
    rfl

theorem addsByte_good (hc : c.judged = .good v) (hv : v ≠ 0x96#8) : addsByte c false dmg v dmg :=
  .inl ⟨hc, by simp [hv], rfl⟩

theorem asmAppend_within (hbs : bs = bytes ++ [v])
    (h : bs.length < 4 ∨ (at8 bs 3 ≤ 24 ∧ bs.length ≠ 4 + at8 bs 3 ∧ bs.length ≠ 6 + at8 bs 3)) :
    asmAppend bytes dmg v now = (.busy bs dmg false now, .quiet) := by
  subst hbs
  unfold asmAppend
  dsimp only
  by_cases h4 : (bytes ++ [v]).length < 4
  · rw [if_pos h4]
  · obtain ⟨h24, hpay, hall⟩ := h.resolve_left h4
    rw [if_neg h4, if_neg (by omega), if_neg (by omega), if_neg (by omega)]

theorem asmAppend_badLength (hbs : bs = bytes ++ [v]) (h4 : bs.length = 4) (h24 : 24 < at8 bs 3) :
    asmAppend bytes dmg v now = (.hunting, .badLength) := by
  subst hbs
  unfold asmAppend
  dsimp only
  rw [if_neg (by omega), if_pos ⟨h4, h24⟩]

theorem asmAppend_payload (hbs : bs = bytes ++ [v]) (h24 : at8 bs 3 ≤ 24) (hl : bs.length = 4 + at8 bs 3) :
    asmAppend bytes dmg v now = (.busy bs dmg false now, .payload bs dmg) := by
  subst hbs
  unfold asmAppend
  dsimp only
  rw [if_neg (by omega), if_neg (by omega), if_neg (by omega), if_pos hl]

theorem asmAppend_complete (hbs : bs = bytes ++ [v]) (h24 : at8 bs 3 ≤ 24) (hl : bs.length = 6 + at8 bs 3) :
    asmAppend bytes dmg v now = (.hunting, .complete bs dmg) := by
  subst hbs
  unfold asmAppend
  dsimp only
  rw [if_neg (by omega), if_neg (by omega), if_pos (by omega)]

end

/-! ### A character at a link (R19, R34) -/

section
variable {s : State} {i : Nat} {l : LinkRec} {c : FieldChar} {a : Assembler} {ev : AsmEvent}

theorem State.feed_of {r : Received} (h : s.links[i]? = some l) (ha : asmTake l.asm r s.tick = (a, ev)) :
    s.feed i r = (s.setLink i { l with asm := a }).asmEffect i ev := by
  simp only [State.feed, h, ha]

theorem State.takeChar_up (h : s.links[i]? = some l) (hu : l.state = .up) (ha : asmTake l.asm c.judged s.tick = (a, ev)) :
    s.takeChar i c = (s.setLink i { l with asm := a }).asmEffect i ev := by
  rw [← State.feed_of h ha]
  simp only [State.takeChar, h, hu]

theorem State.charEvent_up (h : s.links[i]? = some l) (hu : l.state = .up)
    (ha : asmTake l.asm c.judged s.tick = (a, ev)) : s.charEvent i c = some ev := by
  simp only [State.charEvent, h, Option.bind_some, LinkRec.taken, hu, Option.map_some, ha]

/-- A character that changes the assembler alone. -/
theorem exec_fieldCharacter_quiet (hs : s.settled) (hi : i < 8) (h : s.links[i]? = some l) (hu : l.state = .up)
    (ha : asmTake l.asm c.judged s.tick = (a, .quiet)) :
    exec (.fieldCharacterTaken i c) s = .next (s.setLink i { l with asm := a }) :=
  exec_event_at_once rfl (linkExists_of_lt hi) (State.takeChar_up h hu ha) (hs.setLink h rfl)

theorem State.takeChar_loop {t : Transmitter} {b : Byte} {left : List Byte} (h : s.links[i]? = some l)
    (hl : l.state = .loopback) (hh : l.asm = .hunting) (ht : l.sender = some t) (hb : t.left = b :: left) :
    s.takeChar i c = s.setLink i { l with sender := some { t with left := left },
                                          asm := if b = 0x96#8 then .busy [] false false s.tick else .hunting } := by
  have hchar : l.loopChar = some (b, { l with sender := some { t with left := left } }) := by
    simp only [LinkRec.loopChar, ht, hb]
  have htake : asmTake l.asm (.good b) s.tick =
      (if b = 0x96#8 then .busy [] false false s.tick else .hunting, .quiet) := by
    rw [hh]
    by_cases hlead : b = 0x96#8
    · rw [if_pos hlead]
      exact if_pos hlead
    · rw [if_neg hlead]
      exact if_neg hlead
  have hfeed : s.takeChar i c = (s.setLink i { l with sender := some { t with left := left } }).feed i (.good b) := by
    simp only [State.takeChar, h, hl, hchar, judged_sent]
  rw [hfeed, State.feed_of (l := { l with sender := some { t with left := left } }) (State.setLink_at h) htake,
    State.setLink_setLink]
  rfl

theorem State.takeChar_silent (h : s.links[i]? = some l)
    (hl : l.state = .down ∨ l.state = .disabled ∨ (l.state = .loopback ∧ ∀ t, l.sender = some t → t.left = [])) :
    s.takeChar i c = s := by
  unfold State.takeChar
  rw [h]
  rcases hl with hl | hl | ⟨hl, hleft⟩
  · simp only [hl]
  · simp only [hl]
  · have hnone : l.loopChar = none := by
      unfold LinkRec.loopChar
      cases ht : l.sender with
      | none => rfl
      | some t => simp only [hleft t ht]
    simp only [hl, hnone]

theorem State.gapTimeout_busy {bytes : List Byte} {d lead : Bool} {last : Nat} (h : s.links[i]? = some l)
    (hu : l.state = .up) (ha : l.asm = .busy bytes d lead last) :
    s.gapTimeout i = (({ s with tick := max s.tick (last + 21) }).setLink i { l with asm := .hunting }).fragment i := by
  simp only [State.gapTimeout, h, ha, hu, if_true]
  rfl

theorem State.gapTimeout_none (h : s.links[i]? = some l) (hn : l.state ≠ .up ∨ l.asm = .hunting) : s.gapTimeout i = s := by
  simp only [State.gapTimeout, h]
  split
  · rfl
  · next ha => exact if_neg (hn.resolve_right (by rw [ha]; nofun))

end

/-! ### The receive queue (R23, R27) -/

section
variable {s : State} {i : Nat} {l : LinkRec}

theorem State.rxJoin_congests {mk : Bool → RxEntry} (h : s.links[i]? = some l) (hlen : l.rx.length < 16)
    (hc : l.congested = false) (hl : l.level ≤ l.rx.length + 1) : s.rxJoin i mk =
      (s.setLink i { l with rx := l.rx ++ [mk (l.state == .loopback)], congested := true }).report
        .linkCongested (some (.link i)) (some (l.rx.length + 1)) none := by
  have hroom : ¬ Config.maxReceive ≤ l.rx.length := Nat.not_le.mpr hlen
  have hcong : (!l.congested && decide (l.level ≤ l.rx.length + 1)) = true := by
    rw [hc, decide_eq_true hl]
    rfl
  simp only [State.rxJoin, h, hroom, if_false, List.length_append, List.length_singleton]
  exact if_pos hcong

/-- An entry joins an empty queue that is not at its level. -/
theorem State.rxJoin_first {mk : Bool → RxEntry} (h : s.links[i]? = some l) (hr : l.rx = []) (hl : 2 ≤ l.level)
    (hu : l.state = .up) : s.rxJoin i mk = s.setLink i { l with rx := [mk false] } := by
  rw [State.rxJoin_room i mk s l h (by rw [hr]; decide) (.inr (by rw [hr]; exact hl)), hr, hu]
  rfl

end

/-! ### The end of a telegram (R21, R25) -/

section
variable {s : State} {i : Nat} {l : LinkRec} {bs : List Byte} {bad : Bool}

theorem State.telegramComplete_plain (h : s.links[i]? = some l) (ht : l.tentative = none) :
    s.telegramComplete i bs bad = s.judgeComplete i bs bad := by
  simp only [State.telegramComplete, h, ht]

theorem State.telegramComplete_tentative (h : s.links[i]? = some l) (ht : l.tentative ≠ none) :
    s.telegramComplete i bs bad =
      (s.setLink i { l with tentative := none }).judgeTentative i { l with tentative := none } bs bad := by
  obtain ⟨f, hf⟩ := Option.ne_none_iff_exists'.mp ht
  simp only [State.telegramComplete, h, hf]

theorem State.judgeComplete_damaged :
    s.judgeComplete i bs true = s.rxJoin i (fun looped => .annotation .damaged looped) := rfl

theorem State.judgeComplete_good (hc : checkMatches bs = true) :
    s.judgeComplete i bs false = s.rxJoin i (fun looped => .telegram (telegramOf bs) false looped) := by
  simp only [State.judgeComplete, hc, Bool.false_eq_true, if_false, if_true]

theorem State.judgeComplete_check (hc : checkMatches bs = false) :
    s.judgeComplete i bs false = s.rxJoin i (fun looped => .annotation .check looped) := by
  simp only [State.judgeComplete, hc, Bool.false_eq_true, if_false]
  rfl

theorem State.judgeTentative_damaged : s.judgeTentative i l bs true =
    (s.rxJoin i (fun looped => .annotation .damaged looped)).post (.tentativeEnd i false) := rfl

theorem State.judgeTentative_check (hc : checkMatches bs = false) : s.judgeTentative i l bs false =
    (s.setLink i { l with errCheck := true }).post (.tentativeEnd i false) := by
  simp only [State.judgeTentative, hc, Bool.not_false, Bool.false_eq_true, if_false, if_true]

theorem State.judgeTentative_good (hc : checkMatches bs = true) (hlen : l.rx.length < 16) :
    s.judgeTentative i l bs false =
      (s.rxJoin i (fun looped => .telegram (telegramOf bs) true looped)).post (.tentativeEnd i true) := by
  have hroom : l.rx.length < Config.maxReceive := hlen
  simp only [State.judgeTentative, hc, hroom, Bool.not_true, Bool.false_eq_true, if_false, if_true]

theorem State.judgeTentative_overrun (hc : checkMatches bs = true) (hlen : 16 ≤ l.rx.length) :
    s.judgeTentative i l bs false =
      (s.setLink i { l with errOverrun := true }).post (.tentativeEnd i false) := by
  have hfull : ¬ l.rx.length < Config.maxReceive := Nat.not_lt.mpr hlen
  simp only [State.judgeTentative, hc, hfull, Bool.not_true, Bool.false_eq_true, if_false]

end

/-! ### The rows named after what a character brings about (R20, R21, R24) -/

section
variable {s : State} {i : Nat} {l : LinkRec} {c : FieldChar} {a : Assembler} {bytes bs : List Byte} {bad : Bool}

theorem State.overlong_of (h : s.links[i]? = some l) (hu : l.state = .up)
    (ha : asmTake l.asm c.judged s.tick = (a, .badLength)) : s.overlong i c = true := by
  rw [State.overlong, State.charEvent_up h hu ha]
  rfl

theorem State.fragments_of (h : s.links[i]? = some l) (hu : l.state = .up)
    (ha : asmTake l.asm c.judged s.tick = (a, .fragment)) : s.fragments i c = true := by
  rw [State.fragments, State.charEvent_up h hu ha]
  rfl

theorem State.completes_of (h : s.links[i]? = some l) (hu : l.state = .up)
    (ha : asmTake l.asm c.judged s.tick = (a, .complete bs bad)) : s.completes i c = true := by
  simp only [State.completes, State.charEvent_up h hu ha]

theorem State.forwards_of {f : Forwarded} (h : s.links[i]? = some l) (hu : l.state = .up)
    (ha : asmTake l.asm c.judged s.tick = (a, .payload bs bad)) (hf : s.forwardable i bs bad = some f) :
    s.forwards i c = true := by
  simp only [State.forwards, State.charEvent_up h hu ha, h, Option.any_some, hu, hf, Option.isSome_some]
  rfl

theorem State.forward_up {f : Forwarded} (h : s.links[i]? = some l) (hu : l.state = .up)
    (hf : s.forwardable i bs bad = some f) : s.forward i bs bad =
      (s.setLink i { l with tentative := some f }).post (.tentativeEvent i f.el f.arrival f.train) := by
  simp only [State.forward, h, hu, hf, if_true]

theorem State.onlyIf_true {b : Bool} {f : State → State} (hb : b = true) : s.onlyIf b f = f s := by
  rw [State.onlyIf, hb, if_pos rfl]

theorem State.onlyIf_false {b : Bool} {f : State → State} (hb : b = false) : s.onlyIf b f = s := by
  rw [State.onlyIf, hb, if_neg Bool.false_ne_true]

/-- The character that completes a telegram ends the assembler's work on it. -/
theorem exec_fieldTelegramComplete (hi : i < 8) (h : s.links[i]? = some l) (hu : l.state = .up)
    (ha : asmTake l.asm c.judged s.tick = (.hunting, .complete bs bad)) :
    exec (.fieldTelegramComplete i c) s =
      .next (settle ((s.setLink i { l with asm := .hunting }).telegramComplete i bs bad)) :=
  exec_event_settles rfl (linkExists_of_lt hi)
    ((State.onlyIf_true (State.completes_of h hu ha)).trans (State.takeChar_up h hu ha))

end

/-! ### The rows of a character (R19 to R26) -/

section
variable {s : State} {i : Nat} {l : LinkRec} {c : FieldChar} {bytes bs : List Byte} {dmg lead bad : Bool} {last : Nat}
  {v : Byte}

/-- R22: the gap of a telegram that is not tentative, on an empty queue. -/
theorem exec_gapTimeout_plain (hs : s.settled) (hi : i < 8) (h : s.links[i]? = some l) (hu : l.state = .up)
    (ha : l.asm = .busy bytes dmg lead last) (ht : l.tentative = none) (hr : l.rx = []) (hl : 4 ≤ l.level) :
    exec (.fieldGapTimeout i) s = .next ({ s with tick := max s.tick (last + 21) }.setLink i
      { l with asm := .hunting, rx := [.annotation .fragment false] }) := by
  let u : State := { s with tick := max s.tick (last + 21) }
  have hset : u.settled := hs
  have hlu : u.links[i]? = some l := h
  refine exec_event_at_once rfl (linkExists_of_lt hi) ((State.gapTimeout_busy h hu ha).trans ?_) (hset.setLink hlu rfl)
  rw [State.fragment_eq (l := { l with asm := .hunting }) (State.setLink_at hlu), if_pos ht,
    State.rxJoin_first (l := { l with asm := .hunting }) (State.setLink_at hlu) hr (Nat.le_trans (by omega) hl) hu,
    State.setLink_setLink]

/-- R22, R26: the gap of a tentative telegram. -/
theorem exec_gapTimeout_tentative (hi : i < 8) (h : s.links[i]? = some l) (hu : l.state = .up)
    (ha : l.asm = .busy bytes dmg lead last) (ht : l.tentative ≠ none) :
    exec (.fieldGapTimeout i) s = .next (settle
      ((({ s with tick := max s.tick (last + 21) }.setLink i { l with asm := .hunting, tentative := none }).post
        (.tentativeEnd i false)).rxJoin i (fun looped => .annotation .fragment looped))) := by
  let u : State := { s with tick := max s.tick (last + 21) }
  have hlu : u.links[i]? = some l := h
  refine exec_event_settles rfl (linkExists_of_lt hi) ((State.gapTimeout_busy h hu ha).trans ?_)
  rw [State.fragment_eq (l := { l with asm := .hunting }) (State.setLink_at hlu), if_neg ht, State.setLink_setLink]

/-- R20, R21: an annotation that a character brings about joins the empty queue. -/
theorem State.asmEffect_annotation {m : LinkRec} {ev : AsmEvent} {x : Annotation} (h : s.links[i]? = some m)
    (hr : m.rx = []) (hl : 4 ≤ m.level) (hu : m.state = .up)
    (he : s.asmEffect i ev = s.rxJoin i (fun looped => .annotation x looped)) :
    s.asmEffect i ev = s.setLink i { m with rx := [.annotation x false] } :=
  he.trans (State.rxJoin_first h hr (Nat.le_trans (by omega) hl) hu)

theorem exec_telegramLengthDamaged (hs : s.settled) (hi : i < 8) (h : s.links[i]? = some l) (hu : l.state = .up)
    (hr : l.rx = []) (hl : 4 ≤ l.level) (ha : asmTake l.asm c.judged s.tick = (.hunting, .badLength)) :
    exec (.telegramLengthDamaged i c) s =
      .next (s.setLink i { l with asm := .hunting, rx := [.annotation .damaged false] }) := by
  refine exec_event_at_once rfl (linkExists_of_lt hi) ((State.onlyIf_true (State.overlong_of h hu ha)).trans
    ((State.takeChar_up h hu ha).trans ?_)) (hs.setLink h rfl)
  rw [State.asmEffect_annotation (m := { l with asm := .hunting }) (State.setLink_at h) hr hl hu rfl,
    State.setLink_setLink]

theorem exec_leadByteFragment {a : Assembler} (hs : s.settled) (hi : i < 8) (h : s.links[i]? = some l)
    (hu : l.state = .up) (ht : l.tentative = none) (hr : l.rx = []) (hl : 4 ≤ l.level)
    (ha : asmTake l.asm c.judged s.tick = (a, .fragment)) :
    exec (.leadByteFragment i c) s = .next (s.setLink i { l with asm := a, rx := [.annotation .fragment false] }) := by
  refine exec_event_at_once rfl (linkExists_of_lt hi) ((State.onlyIf_true (State.fragments_of h hu ha)).trans
    ((State.takeChar_up h hu ha).trans ?_)) (hs.setLink h rfl)
  have hfrag : (s.setLink i { l with asm := a }).asmEffect i .fragment =
      (s.setLink i { l with asm := a }).rxJoin i (fun looped => .annotation .fragment looped) :=
    (State.fragment_eq (State.setLink_at h)).trans (by rw [if_pos ht])
  rw [State.asmEffect_annotation (m := { l with asm := a }) (State.setLink_at h) hr hl hu hfrag, State.setLink_setLink]

/-- R21: the join of a telegram that is not tentative, on an empty queue. -/
theorem exec_complete_joins {mk : Bool → RxEntry} (hs : s.settled) (hi : i < 8) (h : s.links[i]? = some l)
    (hu : l.state = .up) (ht : l.tentative = none) (hr : l.rx = []) (hl : 4 ≤ l.level)
    (ha : asmTake l.asm c.judged s.tick = (.hunting, .complete bs bad))
    (hj : ∀ u : State, u.judgeComplete i bs bad = u.rxJoin i mk) :
    exec (.fieldTelegramComplete i c) s = .next (s.setLink i { l with asm := .hunting, rx := [mk false] }) := by
  rw [exec_fieldTelegramComplete hi h hu ha,
    State.telegramComplete_plain (l := { l with asm := .hunting }) (State.setLink_at h) ht, hj,
    State.rxJoin_first (l := { l with asm := .hunting }) (State.setLink_at h) hr (Nat.le_trans (by omega) hl) hu,
    State.setLink_setLink]
  exact congrArg _ (settle_settled _ (hs.setLink h rfl))

/-- R24: the last payload byte of a telegram that is forwarded. -/
theorem exec_tentativeForward {a : Assembler} {f : Forwarded} (hi : i < 8) (h : s.links[i]? = some l) (hu : l.state = .up)
    (ha : asmTake l.asm c.judged s.tick = (a, .payload bs bad)) (hf : s.forwardable i bs bad = some f) :
    exec (.tentativeForward i c) s = .next (settle
      ((s.setLink i { l with asm := a, tentative := some f }).post (.tentativeEvent i f.el f.arrival f.train))) := by
  refine exec_event_settles rfl (linkExists_of_lt hi) ((State.onlyIf_true (State.forwards_of h hu ha hf)).trans
    ((State.takeChar_up h hu ha).trans ?_))
  refine (State.forward_up (s := s.setLink i _) (l := { l with asm := a }) (State.setLink_at h) hu hf).trans ?_
  rw [State.setLink_setLink]

/-- R25: the end of a tentative telegram. -/
theorem exec_complete_tentative (hi : i < 8) (h : s.links[i]? = some l) (hu : l.state = .up) (ht : l.tentative ≠ none)
    (ha : asmTake l.asm c.judged s.tick = (.hunting, .complete bs bad)) :
    exec (.fieldTelegramComplete i c) s = .next (settle
      ((s.setLink i { l with asm := .hunting, tentative := none }).judgeTentative i
        { l with asm := .hunting, tentative := none } bs bad)) := by
  rw [exec_fieldTelegramComplete hi h hu ha,
    State.telegramComplete_tentative (l := { l with asm := .hunting }) (State.setLink_at h) ht, State.setLink_setLink]

/-- R20: the byte by which a character completes a telegram, with its damage. -/
theorem addsByte_of (hbad : bad = (dmg || c.judged == .damaged v))
    (h : (c.judged = .good v ∧ (lead = true ↔ v = 0x96#8)) ∨ (c.judged = .damaged v ∧ lead = false)) :
    addsByte c lead dmg v bad := by
  rcases h with ⟨hc, hlead⟩ | ⟨hc, hlead⟩
  · refine .inl ⟨hc, hlead, ?_⟩
    rw [hbad, hc, beq_eq_false_iff_ne.mpr (by nofun), Bool.or_false]
  · refine .inr ⟨hc, hlead, ?_⟩
    rw [hbad, hc, beq_self_eq_true, Bool.or_true]

end

/-- Settles O55. -/
theorem fieldCharactersReachTheAssembler : Obligations.FieldCharactersReachTheAssembler := by
  unfold Obligations.FieldCharactersReachTheAssembler
  refine ⟨⟨fun v parity stop n hn => FieldChar.judged_bits v parity stop hn, rfl, rfl, HostChar.judged_bits⟩, ?_, ?_, ?_,
    ?_, ?_⟩
  · intro i l s hs hi h
    refine ⟨?_, ?_, ?_, ?_, ?_, ?_, ?_⟩
    · intro hu ha c
      refine ⟨fun hc => exec_fieldCharacter_quiet hs hi h hu (ha ▸ asmTake_hunting_lead hc), fun hc => ?_⟩
      refine exec_fieldCharacter_quiet (a := l.asm) hs hi h hu ?_
      rw [ha]
      exact asmTake_hunting_other hc
    · intro bytes dmg last hu ha c
      exact ⟨fun hc => exec_fieldCharacter_quiet hs hi h hu (ha ▸ asmTake_lead hc),
        fun hc => exec_fieldCharacter_quiet hs hi h hu (ha ▸ asmTake_break hc)⟩
    · rintro bytes dmg lead last bs n v hu ha hbs rfl hlen c
      exact ⟨fun hc hlead => exec_fieldCharacter_quiet hs hi h hu
          (ha ▸ (asmTake_adds (.inl ⟨hc, hlead, rfl⟩)).trans (asmAppend_within hbs hlen)),
        fun hc hlead => exec_fieldCharacter_quiet hs hi h hu
          (ha ▸ (asmTake_adds (.inr ⟨hc, hlead, rfl⟩)).trans (asmAppend_within hbs hlen))⟩
    · exact fun bytes dmg lead last hu ha ht hr hl => exec_gapTimeout_plain hs hi h hu ha ht hr hl
    · exact fun t b left hl hh ht hb c =>
        exec_event_at_once rfl (linkExists_of_lt hi) (State.takeChar_loop h hl hh ht hb) (hs.setLink h rfl)
    · exact fun hl c => exec_event_at_once rfl (linkExists_of_lt hi) (State.takeChar_silent h hl) hs
    · exact fun hn => exec_event_at_once rfl (linkExists_of_lt hi) (State.gapTimeout_none h hn) hs
  · intro i l bytes last s hs hi h hu ht hr _ hl c
    have hw := linkExists_of_lt hi
    refine ⟨fun hb => exec_event_at_once rfl hw (State.onlyIf_false hb) hs,
      fun hb => exec_event_at_once rfl hw (State.onlyIf_false hb) hs,
      fun hb => exec_event_at_once rfl hw (State.onlyIf_false hb) hs,
      fun hb => exec_event_at_once rfl hw (State.onlyIf_false hb) hs, fun v hv hc => ⟨?_, ?_, ?_, ?_⟩⟩
    · intro dmg ha h3 h24
      have h4 : (bytes ++ [v]).length = 4 := by rw [List.length_append, h3]; rfl
      have hlen : at8 (bytes ++ [v]) 3 = v.toNat := by
        have hlast := at8_append_right bytes [v] 0
        rwa [h3] at hlast
      exact exec_telegramLengthDamaged hs hi h hu hr hl
        (ha ▸ (asmTake_adds (addsByte_good hc hv)).trans (asmAppend_badLength rfl h4 (by rwa [hlen])))
    · exact fun dmg ha => exec_leadByteFragment hs hi h hu ht hr hl (ha ▸ asmTake_restart hc hv)
    · intro ha h5 h24 hlen
      have hat : at8 (bytes ++ [v]) 3 = at8 bytes 3 := at8_append_left _ _ (by omega)
      have hall : (bytes ++ [v]).length = 6 + at8 (bytes ++ [v]) 3 := by
        rw [hat, List.length_append, List.length_singleton, hlen]
        omega
      have htake : asmTake l.asm c.judged s.tick = (.hunting, .complete (bytes ++ [v]) false) :=
        ha ▸ (asmTake_adds (addsByte_good hc hv)).trans (asmAppend_complete rfl (by rwa [hat]) hall)
      exact ⟨fun hm => exec_complete_joins hs hi h hu ht hr hl htake fun _ => State.judgeComplete_good hm,
        fun hm => exec_complete_joins hs hi h hu ht hr hl htake fun _ => State.judgeComplete_check hm⟩
    · intro f ha h6 h3 hf
      have hat : at8 (bytes ++ [v]) 3 = 3 := (at8_append_left _ _ (by omega)).trans h3
      have hall : (bytes ++ [v]).length = 4 + at8 (bytes ++ [v]) 3 := by
        rw [hat, List.length_append, List.length_singleton, h6]
      exact exec_tentativeForward hi h hu
        (ha ▸ (asmTake_adds (addsByte_good hc hv)).trans (asmAppend_payload rfl (by omega) hall)) hf
  · intro i l bytes bs dmg lead last v c s ended hs hi h hu ha hbs h24 hlen hc hended bad hbad
    have htake : asmTake l.asm c.judged s.tick = (.hunting, .complete bs bad) :=
      ha ▸ (asmTake_adds (addsByte_of hbad hc)).trans (asmAppend_complete hbs h24 hlen)
    have htent (ht : l.tentative ≠ none) := exec_complete_tentative hi h hu ht htake
    rw [← hended] at htent
    refine ⟨?_, ?_, ?_, ?_, ?_⟩
    · rintro rfl ht
      have hsame : ended = s.setLink i { l with asm := .hunting } := by rw [hended, ← ht]
      rw [exec_fieldTelegramComplete hi h hu htake,
        State.telegramComplete_plain (l := { l with asm := .hunting }) (State.setLink_at h) ht, hsame]
      rfl
    · rintro rfl ht
      exact htent ht
    · rintro rfl hm ht
      rw [htent ht, State.judgeTentative_check hm]
    · rintro rfl hm ht hroom
      rw [htent ht, State.judgeTentative_good (l := { l with asm := .hunting, tentative := none }) hm hroom]
    · rintro rfl hm ht hfull
      rw [htent ht, State.judgeTentative_overrun (l := { l with asm := .hunting, tentative := none }) hm hfull]
  · exact fun i l bytes dmg lead last s hs hi h hu ha ht => exec_gapTimeout_tentative hi h hu ha ht
  · exact fun i l mk s h => ⟨State.rxJoin_full i mk s l h, State.rxJoin_room i mk s l h, State.rxJoin_congests h⟩

end Sys2Proof.Machine
end

section
/-! SUPPORT. The telegrams of the field and what the mirror makes of them: O56 and O60. -/
namespace Sys2Proof.Machine

/-! ### The head of a receive queue (R23) -/

section
variable {s : State} {i : Nat} {l : LinkRec} {rest : List RxEntry}

theorem State.rxPop_clear (hg : l.congested = false) : s.rxPop i l rest = s.setLink i { l with rx := rest } := by
  rw [State.rxPop, hg]
  exact if_neg Bool.false_ne_true

theorem State.takeEntry_empty (h : s.links[i]? = some l) (hr : l.rx = []) : s.takeEntry i = s := by
  simp only [State.takeEntry, h, hr]

theorem State.takeEntry_annotation {a : Annotation} {b : Bool} (h : s.links[i]? = some l) (hg : l.congested = false)
    (hr : l.rx = .annotation a b :: rest) :
    s.takeEntry i = s.setLink i (LinkRec.annotate a { l with rx := rest }) := by
  simp only [State.takeEntry, h, hr]
  rw [State.rxPop_clear hg, State.modLink_eq_setLink (State.setLink_at h), State.setLink_setLink]

theorem State.takeEntry_telegram {t : Telegram} {f b : Bool} (h : s.links[i]? = some l) (hg : l.congested = false)
    (hr : l.rx = .telegram t f b :: rest) :
    s.takeEntry i = (s.setLink i { l with rx := rest }).takeTelegram i t f b := by
  simp only [State.takeEntry, h, hr]
  rw [State.rxPop_clear hg]

theorem exec_takeEntry_annotation {a : Annotation} {b : Bool} (hs : s.settled) (hi : i < 8) (h : s.links[i]? = some l)
    (hg : l.congested = false) (hr : l.rx = .annotation a b :: rest) :
    exec (.mirrorTakeEntry i) s = .next (s.setLink i (LinkRec.annotate a { l with rx := rest })).latch := by
  rw [exec_event_settles (c := .mirrorTakeEntry i) rfl (linkExists_of_lt hi) (State.takeEntry_annotation h hg hr)]
  exact congrArg _ (settle_quiet _ hs.1)

variable {t : Telegram} {f : Bool}

theorem State.takeTelegram_looped : s.takeTelegram i t f true = s.report .loopEcho (some (.link i)) (some t.addr.toNat)
    (some (t.kind.toNat * 256 + t.seq.toNat)) := rfl

theorem State.takeTelegram_unknown (hf : s.mirror.find? (fun e => e.link == i && e.addr == t.addr.toNat) = none) :
    s.takeTelegram i t f false = s.report .fieldInconsistent (some (.link i)) (some t.addr.toNat) (some 2) := by
  simp only [State.takeTelegram, hf, Bool.false_eq_true, if_false]
  rfl

end

/-- Settles O56. -/
theorem mirrorTakesTheHeadEntry : Obligations.MirrorTakesTheHeadEntry := by
  unfold Obligations.MirrorTakesTheHeadEntry
  intro i l rest s hs hi h
  have hw := linkExists_of_lt hi
  have hset : (s.setLink i { l with rx := rest }).settled := hs.setLink h rfl
  exact ⟨fun hr => exec_event_at_once rfl hw (State.takeEntry_empty h hr) hs, fun hg =>
    ⟨fun _ hr => exec_takeEntry_annotation hs hi h hg hr, fun _ hr => exec_takeEntry_annotation hs hi h hg hr,
      fun _ hr => exec_takeEntry_annotation hs hi h hg hr,
      fun t f hr => exec_event_at_once rfl hw ((State.takeEntry_telegram h hg hr).trans State.takeTelegram_looped)
        (hset.report _ _ _ _),
      fun t f hr hf => exec_event_at_once rfl hw ((State.takeEntry_telegram h hg hr).trans
        (State.takeTelegram_unknown (s := s.setLink i _) hf)) (hset.report _ _ _ _)⟩⟩

/-! ### The judging of a telegram (R39, R185) -/

section
variable {k : ElemKind} {t : Telegram}

theorem judgeTelegram_state (h : t.kind = 1#8) : judgeTelegram k t = judgeState k t.payload := by
  rw [judgeTelegram, h]
  rfl

theorem judgeTelegram_event (h : t.kind = 2#8) : judgeTelegram k t = judgeEvent k t.payload := by
  rw [judgeTelegram, h]
  rfl

theorem judgeTelegram_answer (h : t.kind = 3#8) : judgeTelegram k t = judgeAnswer k t.payload := by
  rw [judgeTelegram, h]
  rfl

theorem judgeTelegram_executed (h : t.kind = 4#8) : judgeTelegram k t = judgeExecuted k t.payload := by
  rw [judgeTelegram, h]
  rfl

theorem judgeTelegram_other (h : t.kind = 0#8 ∨ 4 < t.kind.toNat) : judgeTelegram k t = .failed 3 := by
  have hno : t.kind.toNat = 0 ∨ 4 < t.kind.toNat := h.imp_left fun h0 => by rw [h0]; rfl
  unfold judgeTelegram
  split
  · omega
  · omega
  · omega
  · omega
  · rfl

variable {ab vb x h l c r a1 a2 b1 b2 : Byte} {a : Authority} {v : BreakerValue} {ind : Indication}

theorem authorityOf_listed (ha : (ab, a) ∈ [(1#8, Authority.remote), (2#8, Authority.localCtl)]) :
    authorityOf ab.toNat = some a := by
  simp only [List.mem_cons, Prod.mk.injEq, List.not_mem_nil, or_false] at ha
  rcases ha with ⟨rfl, rfl⟩ | ⟨rfl, rfl⟩ <;> rfl

theorem breakerOf_listed (hv : (vb, v) ∈ [(0#8, BreakerValue.opened), (1#8, .precharged), (2#8, .closed), (3#8, .tripped)]) :
    breakerOf vb.toNat = some v := by
  simp only [List.mem_cons, Prod.mk.injEq, List.not_mem_nil, or_false] at hv
  rcases hv with ⟨rfl, rfl⟩ | ⟨rfl, rfl⟩ | ⟨rfl, rfl⟩ | ⟨rfl, rfl⟩ <;> rfl

theorem indicationOf_listed (hx : (x, ind) ∈ [(0#8, Indication.blank), (1#8, .countdown), (2#8, .go), (3#8, .stop)]) :
    indicationOf x.toNat = some ind := by
  simp only [List.mem_cons, Prod.mk.injEq, List.not_mem_nil, or_false] at hx
  rcases hx with ⟨rfl, rfl⟩ | ⟨rfl, rfl⟩ | ⟨rfl, rfl⟩ | ⟨rfl, rfl⟩ <;> rfl

theorem readOccupancy_inRange {n : Nat} (hn : n ≤ 999) : readOccupancy n = some (if n = 0 then none else some n) := by
  unfold readOccupancy
  split <;> rfl

theorem judge_state_breaker (hk : t.kind = 1#8) (hp : t.payload = [ab, vb]) (ha : authorityOf ab.toNat = some a)
    (hv : breakerOf vb.toNat = some v) : judgeTelegram .breaker t = .ok (.state a (.breaker v)) := by
  rw [judgeTelegram_state hk, hp]
  simp only [judgeState, List.length_cons, List.length_nil, if_true, at8_cons_zero, at8_cons_succ, ha, hv,
    Option.bind_some, Option.map_some]
  rfl

theorem judge_state_platform (hk : t.kind = 1#8) (hp : t.payload = [ab, h, l, x]) (ha : authorityOf ab.toNat = some a)
    (hn : at16 [h, l] 0 ≤ 999) (hx : indicationOf x.toNat = some ind) : judgeTelegram .platform t =
      .ok (.state a (.platform (if at16 [h, l] 0 = 0 then none else some (at16 [h, l] 0)) (some ind))) := by
  have ho : readOccupancy (at16 [ab, h, l, x] 1) = _ := readOccupancy_inRange hn
  rw [judgeTelegram_state hk, hp]
  simp only [judgeState, List.length_cons, List.length_nil, if_true, at8_cons_zero, at8_cons_succ, ha, hx, ho,
    Option.bind_some, Option.map_some]
  rfl

theorem readContent_inRange {d : List Byte} {i : Nat} (hn : at16 d i ≤ 1023) : readContent d i =
    some (.display { text := at16 d i, p1 := at16 d (i + 2), p2 := at16 d (i + 4) }) := if_pos hn

theorem judge_state_display (hk : t.kind = 1#8) (hp : t.payload = [ab, h, l, a1, a2, b1, b2])
    (ha : authorityOf ab.toNat = some a) (hn : at16 [h, l] 0 ≤ 1023) : judgeTelegram .display t =
      .ok (.state a (.display { text := at16 [h, l] 0, p1 := at16 [a1, a2] 0, p2 := at16 [b1, b2] 0 })) := by
  have hc : readContent [ab, h, l, a1, a2, b1, b2] 1 = _ := readContent_inRange hn
  rw [judgeTelegram_state hk, hp]
  simp only [judgeState, List.length_cons, List.length_nil, if_true, at8_cons_zero, ha, hc, Option.bind_some,
    Option.map_some]
  rfl

/-- R185: a METER payload with no voltage. -/
theorem readMeter_load : readMeter [c, h, l, 0#8] =
    some (.meter (min (at16 [h, l] 0) 4095) [none, none, none, none]) := by
  have hv : readVolts [c, h, l, 0#8] 4 0 = [none, none, none, none] := rfl
  have hc : channelCount (at8 [c, h, l, 0#8] 3) = 0 := (by decide : channelCount 0 = 0)
  have hlayout : [c, h, l, 0#8].length = 4 + 2 * channelCount (at8 [c, h, l, 0#8] 3) := by rw [hc]; rfl
  exact (if_pos ⟨Nat.le_refl 4, (by decide : 0 < 16), hlayout⟩).trans (congrArg (fun x => some (Value.meter _ x)) hv)

/-- R185: a METER payload with the voltage of channel 0. -/
theorem readMeter_first : readMeter [c, h, l, 1#8, a1, a2] =
    some (.meter (min (at16 [h, l] 0) 4095) [some (min (at16 [a1, a2] 0) 2000), none, none, none]) := by
  have hv : readVolts [c, h, l, 1#8, a1, a2] 4 1 = [some (min (at16 [a1, a2] 0) 2000), none, none, none] := rfl
  have hc : channelCount (at8 [c, h, l, 1#8, a1, a2] 3) = 1 := (by decide : channelCount 1 = 1)
  have hlayout : [c, h, l, 1#8, a1, a2].length = 4 + 2 * channelCount (at8 [c, h, l, 1#8, a1, a2] 3) := by rw [hc]; rfl
  exact (if_pos ⟨by simp, (by decide : 1 < 16), hlayout⟩).trans (congrArg (fun x => some (Value.meter _ x)) hv)

theorem judge_state_meter (hk : t.kind = 1#8) (hp : t.payload = [ab, h, l, 1#8, a1, a2])
    (ha : authorityOf ab.toNat = some a) : judgeTelegram .meter t =
      .ok (.state a (.meter (min (at16 [h, l] 0) 4095) [some (min (at16 [a1, a2] 0) 2000), none, none, none])) := by
  rw [judgeTelegram_state hk, hp]
  simp only [judgeState, readMeter_first, at8_cons_zero, ha, Option.map_some]
  rfl

theorem judge_event_platform (hk : t.kind = 2#8) (hp : t.payload = [c, h, l]) (hc : c = 1#8 ∨ c = 2#8)
    (h1 : 1 ≤ at16 [h, l] 0) (h999 : at16 [h, l] 0 ≤ 999) :
    judgeTelegram .platform t = .ok (.event c.toNat (at16 [h, l] 0) none) := by
  have hcode : at8 [c, h, l] 0 = 1 ∨ at8 [c, h, l] 0 = 2 :=
    hc.imp (fun hc => by rw [hc]; rfl) (fun hc => by rw [hc]; rfl)
  have hrange : inRange 1 999 (at16 [c, h, l] 1) = true := (inRange_iff ..).mpr ⟨h1, h999⟩
  rw [judgeTelegram_event hk, hp]
  exact (if_pos ⟨rfl, hcode⟩).trans (if_pos hrange)

theorem judge_event_breaker (hk : t.kind = 2#8) (hp : t.payload = [3#8]) :
    judgeTelegram .breaker t = .ok (.event 3 0 none) := by
  rw [judgeTelegram_event hk, hp]
  rfl

theorem judge_event_meter (hk : t.kind = 2#8) (hp : t.payload = [4#8, h, l, 0#8]) : judgeTelegram .meter t =
    .ok (.event 4 0 (some (.meter (min (at16 [h, l] 0) 4095) [none, none, none, none]))) := by
  rw [judgeTelegram_event hk, hp]
  simp only [judgeEvent, readMeter_load]
  rfl

theorem judge_event_display (hk : t.kind = 2#8) : judgeTelegram .display t = .failed 4 := judgeTelegram_event hk

theorem judge_answer (hk : t.kind = 3#8) (hp : t.payload = [c, r]) (hm : k ≠ .meter) (h1 : 1 ≤ c.toNat)
    (h3 : c.toNat ≤ 3) : judgeTelegram k t = .ok (.answer c.toNat r.toNat) := by
  rw [judgeTelegram_answer hk, hp]
  exact (if_neg (by simp [hm])).trans (if_pos ((inRange_iff ..).mpr ⟨h1, h3⟩))

theorem judge_answer_meter (hk : t.kind = 3#8) : judgeTelegram .meter t = .failed 4 := by
  rw [judgeTelegram_answer hk]
  exact if_pos (.inl rfl)

theorem judge_answer_range (hk : t.kind = 3#8) (hp : t.payload = [c, r]) (hm : k ≠ .meter)
    (hc : c = 0#8 ∨ 3 < c.toNat) : judgeTelegram k t = .failed 5 := by
  have hno : c.toNat = 0 ∨ 3 < c.toNat := hc.imp_left fun h0 => by rw [h0]; rfl
  have hrange : ¬ inRange 1 3 (at8 [c, r] 0) = true := by
    rw [inRange_iff, at8_cons_zero]
    omega
  rw [judgeTelegram_answer hk, hp]
  exact (if_neg (by simp [hm])).trans (if_neg hrange)

theorem judge_executed_breaker (hk : t.kind = 4#8) (hp : t.payload = [vb]) (hv : breakerOf vb.toNat = some v) :
    judgeTelegram .breaker t = .ok (.executed (.breaker v)) := by
  rw [judgeTelegram_executed hk, hp]
  simp only [judgeExecuted, List.length_cons, List.length_nil, if_true, at8_cons_zero, hv, Option.map_some]
  rfl

theorem judge_executed_platform (hk : t.kind = 4#8) (hp : t.payload = [h, l, x]) (hn : at16 [h, l] 0 ≤ 999)
    (hx : indicationOf x.toNat = some ind) : judgeTelegram .platform t =
      .ok (.executed (.platform (if at16 [h, l] 0 = 0 then none else some (at16 [h, l] 0)) (some ind))) := by
  have ho : readOccupancy (at16 [h, l, x] 0) = _ := readOccupancy_inRange hn
  rw [judgeTelegram_executed hk, hp]
  simp only [judgeExecuted, List.length_cons, List.length_nil, if_true, at8_cons_zero, at8_cons_succ, hx, ho,
    Option.bind_some, Option.map_some]
  rfl

theorem judge_executed_display (hk : t.kind = 4#8) (hp : t.payload = [h, l, a1, a2, b1, b2])
    (hn : at16 [h, l] 0 ≤ 1023) : judgeTelegram .display t =
      .ok (.executed (.display { text := at16 [h, l] 0, p1 := at16 [a1, a2] 0, p2 := at16 [b1, b2] 0 })) := by
  have hc : readContent [h, l, a1, a2, b1, b2] 0 = _ := readContent_inRange hn
  rw [judgeTelegram_executed hk, hp]
  simp only [judgeExecuted, List.length_cons, List.length_nil, if_true, hc, Option.map_some]
  rfl

end

/-! ### What each telegram does (R39 to R41, R49 to R53) -/

section
variable {s : State} {i : Nat} {t : Telegram} {f : Bool} {e : MirrorEntry}

section
variable (hf : s.mirror.find? (fun x => x.link == i && x.addr == t.addr.toNat) = some e)
include hf

theorem State.takeTelegram_failed {n : Nat} (hj : judgeTelegram e.kind t = .failed n) : s.takeTelegram i t f false =
    s.report .fieldInconsistent (some (.link i)) (some t.addr.toNat) (some n) := by
  simp only [State.takeTelegram, hf, hj, Bool.false_eq_true, if_false]
  rfl

theorem State.takeTelegram_state {a : Authority} {v : Value} (hj : judgeTelegram e.kind t = .ok (.state a v)) :
    s.takeTelegram i t f false = s.stateTelegram e a v := by
  simp only [State.takeTelegram, hf, hj, Bool.false_eq_true, if_false]

theorem State.takeTelegram_event {code train : Nat} {v : Option Value}
    (hj : judgeTelegram e.kind t = .ok (.event code train v)) :
    s.takeTelegram i t f false = s.eventTelegram e code train v f := by
  simp only [State.takeTelegram, hf, hj, Bool.false_eq_true, if_false]

theorem State.takeTelegram_answer {code reason : Nat} (hj : judgeTelegram e.kind t = .ok (.answer code reason)) :
    s.takeTelegram i t f false = s.answerTelegram e t.seq.toNat code reason := by
  simp only [State.takeTelegram, hf, hj, Bool.false_eq_true, if_false]

theorem State.takeTelegram_executed {v : Value} (hj : judgeTelegram e.kind t = .ok (.executed v)) :
    s.takeTelegram i t f false = s.executedTelegram e t.seq.toNat v := by
  simp only [State.takeTelegram, hf, hj, Bool.false_eq_true, if_false]

end

variable {a : Authority} {v : Value} {l : LinkRec} {o : Order}

theorem settledState_known {old : MirrorState} {up : Bool} (h : old ≠ .unknown ∨ up = true) :
    settledState old up a = if a = .remote then .held else .reported := by
  cases old with
  | unknown => exact if_pos (h.resolve_left fun hn => hn rfl)
  | held => rfl
  | reported => rfl
  | ordered => rfl

/-- R40: the value of an entry without an order, told with its authority. -/
theorem State.stateTelegram_settled (ho : e.out = none) (h : s.links[e.link]? = some l)
    (hk : e.state ≠ .unknown ∨ l.state = .up) {x : MirrorEntry}
    (hx : x = { e with value := some v, poll := none, authority := a,
                       state := if a = .remote then .held else .reported }) :
    s.stateTelegram e a v = (s.setEntry x).post (x.notice .state v.volts s.tick) := by
  have hstate : settledState e.state (l.state == .up) a = if a = .remote then .held else .reported :=
    settledState_known (hk.imp_right fun hu => by rw [hu]; rfl)
  have hne : (if a = .remote then MirrorState.held else .reported) ≠ .unknown := by split <;> nofun
  simp only [State.stateTelegram, ho, h, Option.any_some, State.stateSettled, hstate, hne, if_false]
  rw [hx, ← ho]

/-- R40: an UNKNOWN entry on a link that is not UP takes the value and stays UNKNOWN. -/
theorem State.stateTelegram_unknown (ho : e.out = none) (h : s.links[e.link]? = some l) (hk : e.state = .unknown)
    (hu : l.state ≠ .up) {x : MirrorEntry} (hx : x = { e with value := some v, poll := none, authority := .unknown }) :
    s.stateTelegram e a v = (s.setEntry x).post (x.notice .state v.volts s.tick) := by
  have hup : (l.state == .up) = false := beq_eq_false_iff_ne.mpr hu
  have hstate : settledState e.state (l.state == .up) a = .unknown := by rw [hk, hup]; rfl
  simp only [State.stateTelegram, ho, h, Option.any_some, State.stateSettled, hstate, if_true]
  rw [hx, ← ho, ← hk]

/-- R40: with an order under way that does not wait for a push, a REMOTE value is taken. -/
theorem State.stateTelegram_remote (ho : e.out = some o) (hst : ∀ d, o.stage ≠ .pushWait d) :
    s.stateTelegram e .remote v =
      (s.setEntry { e with value := some v, authority := .remote, poll := none }).post
        (MirrorEntry.notice { e with value := some v, authority := .remote, poll := none } .state v.volts s.tick) := by
  unfold State.stateTelegram
  rw [ho]
  dsimp only
  split
  · next d hd => exact absurd hd (hst d)
  · rw [if_pos rfl, ← ho]

/-- R40: an element that is no longer REMOTE loses its orders. -/
theorem State.stateTelegram_lost (ho : e.out = some o) (ha : a ≠ .remote) : s.stateTelegram e a v =
    s.endLost e { e with value := some v, authority := a, poll := none, state := .reported, out := none, succ := none }
      .localCtl .state := by
  unfold State.stateTelegram
  rw [ho]
  dsimp only
  split
  · exact if_pos ha
  · exact if_neg ha

theorem State.stateTelegram_push {d : Nat} (ho : e.out = some o) (hst : o.stage = .pushWait d) :
    s.stateTelegram e a v = s.push e o a v := by
  simp only [State.stateTelegram, ho, hst]

theorem State.push_met (hm : o.data.targetMet v = true) : s.push e o .remote v =
    s.endHeld { e with value := some v, authority := .remote, poll := none } o .already .state := by
  simp only [State.push, hm, ne_eq, not_true_eq_false, if_false, if_true]

/-- R51: the push offers the order again. -/
theorem State.push_taken {w : State} (hm : o.data.targetMet v = false)
    (hof : s.offer e.link (e.txEntry o.data o.token) = .taken w) : s.push e o .remote v =
      ((w.setEntry (MirrorEntry.withOrder { e with value := some v, authority := .remote, poll := none }
        o.data o.token o.defers)).kick e.link).post
        ((MirrorEntry.withOrder { e with value := some v, authority := .remote, poll := none }
          o.data o.token o.defers).notice .state [] s.tick) := by
  have hof' : s.offer e.link (MirrorEntry.txEntry { e with value := some v, authority := .remote, poll := none }
    o.data o.token) = .taken w := hof
  simp only [State.push, hm, hof', ne_eq, not_true_eq_false, if_false, Bool.false_eq_true]

theorem State.push_refused {r : Result} (hm : o.data.targetMet v = false)
    (hof : s.offer e.link (e.txEntry o.data o.token) = .refused r) : s.push e o .remote v =
      s.endHeld { e with value := some v, authority := .remote, poll := none, seq := e.nextSeq } o r .state := by
  have hof' : s.offer e.link (MirrorEntry.txEntry { e with value := some v, authority := .remote, poll := none }
    o.data o.token) = .refused r := hof
  simp only [State.push, hm, hof', ne_eq, not_true_eq_false, if_false, Bool.false_eq_true]

section
variable {code train reason q : Nat} {w : Option Value}

theorem State.eventTelegram_forwarded (hk : e.kind = .platform) : s.eventTelegram e code train w true =
    s.setEntry { e with value := eventValue e code train w } := by
  simp only [State.eventTelegram, hk, if_true]

theorem State.eventTelegram_platform (hk : e.kind = .platform) : s.eventTelegram e code train w false =
    (s.setEntry { e with value := eventValue e code train w }).posts
      ([MirrorEntry.notice { e with value := eventValue e code train w } (.event code) [] s.tick] ++
        ((s.stopOfElement e.el).map (fun k => Notice.confirmedEvent (code == 1) train k)).toList) := by
  simp only [State.eventTelegram, hk, if_true, Bool.false_eq_true, if_false]
  cases s.stopOfElement e.el with
  | none => rw [← hk]; rfl
  | some k => rw [← hk]; exact State.posts_post [_] _ _

theorem State.eventTelegram_other (hk : e.kind ≠ .platform) : s.eventTelegram e code train w f =
    (s.setEntry { e with value := eventValue e code train w }).post
      (MirrorEntry.notice { e with value := eventValue e code train w } (.event code) ((w.map Value.volts).getD [])
        s.tick) := if_neg hk

theorem State.answerTelegram_taken {d : Nat} (ho : e.out = some o) (hst : o.stage = .sent d) (hq : o.seq = q) :
    s.answerTelegram e q code reason = s.answerTaken e o code reason := by
  simp only [State.answerTelegram, ho, hst]
  exact if_pos hq

theorem State.answerTelegram_stale
    (h : e.out = none ∨ ∃ o, e.out = some o ∧ (o.seq ≠ q ∨ ∀ d, o.stage ≠ .sent d)) :
    s.answerTelegram e q code reason = s := by
  unfold State.answerTelegram
  rcases h with ho | ⟨o, ho, h⟩
  · rw [ho]
  · rw [ho]
    dsimp only
    split
    · next d hst => exact if_neg (h.resolve_right fun hn => hn d hst)
    · rfl

theorem State.executedTelegram_taken (ho : e.out = some o) (hst : (∃ d, o.stage = .sent d) ∨ ∃ d, o.stage = .executing d)
    (hq : o.seq = q) : s.executedTelegram e q v = s.executedTaken e o v := by
  rcases hst with ⟨d, hst⟩ | ⟨d, hst⟩ <;>
  · simp only [State.executedTelegram, ho, hst]
    exact if_pos hq

theorem State.executedTelegram_stale
    (h : e.out = none ∨ ∃ o, e.out = some o ∧ (o.seq ≠ q ∨ o.stage = .queued ∨ ∃ d, o.stage = .pushWait d)) :
    s.executedTelegram e q v = s := by
  unfold State.executedTelegram
  rcases h with ho | ⟨o, ho, h⟩
  · rw [ho]
  · rw [ho]
    dsimp only
    rcases h with hq | hst | ⟨d, hst⟩
    · split
      · exact if_neg hq
      · exact if_neg hq
      · rfl
      · rfl
    · rw [hst]
    · rw [hst]

/-- R49: an accepted order is being carried out. -/
theorem State.answerTaken_accepted : s.answerTaken e o 1 reason =
    s.setEntry { e with out := some { o with stage := .executing (s.tick + s.execSeconds e.kind * 1000) } } := rfl

/-- R50: a deferred order waits for the push of its element. -/
theorem State.answerTaken_deferred (hd : o.defers < 3) : s.answerTaken e o 2 reason =
    s.setEntry { e with out := some { o with defers := o.defers + 1, stage := .pushWait (s.tick + s.answerMs e.link) } } :=
  if_neg (Nat.not_le.mpr hd)

theorem State.answerTaken_deferredOut (hd : 3 ≤ o.defers) : s.answerTaken e o 2 reason =
    s.endHeld e { o with defers := o.defers + 1 } .deferredOut .order := if_pos hd

theorem State.answerTaken_rejected : s.answerTaken e o 3 reason = s.endHeld e o (.rejected reason) .order := rfl

end

end

end Sys2Proof.Machine
end

section
/-! SUPPORT. What follows the outcome of an order, the values of events, and O60. -/
namespace Sys2Proof.Machine

/-! ### Values and reports (R41, R54) -/

section
variable {e : MirrorEntry} {train : Nat}

theorem eventValue_platform {o : Option Nat} {i : Option Indication} (h : e.value = some (.platform o i)) :
    eventValue e 1 train none = some (.platform (some train) i) ∧ eventValue e 2 train none = some (.platform none i) := by
  simp only [eventValue, h, and_self]

theorem eventValue_first (h : e.value = none) :
    eventValue e 1 train none = some (.platform (some train) none) ∧
      eventValue e 2 train none = some (.platform none none) := by
  simp only [eventValue, h, and_self]

theorem eventValue_meter {load new : Nat} {vs old : List (Option Nat)} (h : e.value = some (.meter load vs)) :
    eventValue e 4 train (some (.meter new old)) =
      some (.meter new ((List.range 4).map (fun c => ((old[c]?).join).or ((vs[c]?).join)))) := by
  simp only [eventValue, h]
  rfl

variable {el : Nat} {d : OrderData} {r : Result}

theorem failReport_completion (h : r = .complete ∨ r = .already ∨ ∃ v, r = .diverged v) : failReport el d r = [] := by
  rcases h with rfl | rfl | ⟨v, rfl⟩ <;> rfl

theorem failReport_failure (h : r.failed = true) (hn : ∀ n, r ≠ .rejected n) :
    failReport el d r = [.report .orderFailed (some (.element el)) (some r.code) (some d.code)] := by
  cases r with
  | rejected n => exact absurd rfl (hn n)
  | complete => exact absurd h Bool.false_ne_true
  | already => exact absurd h Bool.false_ne_true
  | diverged v => exact absurd h Bool.false_ne_true
  | _ => rfl

end

/-! ### What follows an outcome (R42, R46) -/

section
variable {s : State} {el : Nat} {c : Cause} {d : OrderData} {r : Result} {e : MirrorEntry} {w : Waiting}

theorem follow_alone (he : s.entry? el = some e) (hs : e.succ = none) :
    follow el c d r s = s.posts ([e.notice c [] s.tick] ++ failReport e.el d r) := by
  have hel : e.el = el := by simpa using List.find?_some he
  unfold follow
  rw [he, hel]
  dsimp only
  split
  · next w _ _ hw => exact absurd (hs.symm.trans hw) nofun
  · rfl

theorem follow_successor (he : s.entry? el = some e) (hst : e.state = .held) (ho : e.out = none)
    (hs : e.succ = some w) : follow el c d r s = s.followBy e w c d r := by
  simp only [follow, he, hst, ho, hs]

theorem State.followBy_taken {u : State} (h : s.offer e.link (e.txEntry w.data w.token) = .taken u) :
    s.followBy e w c d r =
      ((u.setEntry (MirrorEntry.withOrder { e with succ := none } w.data w.token 0)).kick e.link).posts
        ([(MirrorEntry.withOrder { e with succ := none } w.data w.token 0).notice c [] s.tick] ++
          failReport e.el d r) := by
  have h' : s.offer e.link (MirrorEntry.txEntry { e with succ := none } w.data w.token) = .taken u := h
  simp only [State.followBy, h']

theorem State.followBy_refused {r' : Result} (h : s.offer e.link (e.txEntry w.data w.token) = .refused r') :
    s.followBy e w c d r = (s.setEntry { e with succ := none, seq := e.nextSeq }).posts
      ([outcomeOf e.el w.data w.token r' true,
        MirrorEntry.notice { e with succ := none, seq := e.nextSeq } c [] s.tick] ++
        failReport e.el d r ++ failReport e.el w.data r') := by
  have h' : s.offer e.link (MirrorEntry.txEntry { e with succ := none } w.data w.token) = .refused r' := h
  simp only [State.followBy, h']

end

/-! ### The head telegram taken by the mirror (R23, R39) -/

/-- The mirror finds the telegram `t` of the entry `e` at the head of link `i`, and `u` is the unit with it gone. -/
structure TakesHead (s u : State) (i : Nat) (x : LinkState) (t : Telegram) (f : Bool) (e : MirrorEntry) : Prop where
  settled : u.settled
  takes : ∀ w, u.takeTelegram i t f false = w → exec (.mirrorTakeEntry i) s = .next (settle w)
  entry : u.mirror.find? (fun e => e.link == i && e.addr == t.addr.toNat) = some e
  link : ∃ l, u.links[e.link]? = some l ∧ l.state = x

theorem takesHead_of {s : State} {i : Nat} {l : LinkRec} {t : Telegram} {f : Bool} {rest : List RxEntry} {e : MirrorEntry}
    (hs : s.settled) (hi : i < 8) (h : s.links[i]? = some l) (hg : l.congested = false)
    (hr : l.rx = .telegram t f false :: rest)
    (hf : s.mirror.find? (fun x => x.link == i && x.addr == t.addr.toNat) = some e) :
    TakesHead s (s.setLink i { l with rx := rest }) i l.state t f e := by
  have hlink : e.link = i := by
    have hp := List.find?_some hf
    simp only [Bool.and_eq_true, beq_iff_eq] at hp
    exact hp.1
  refine ⟨hs.setLink h rfl, fun w hw => ?_, hf, { l with rx := rest }, ?_, rfl⟩
  · exact exec_event_settles rfl (linkExists_of_lt hi) ((State.takeEntry_telegram h hg hr).trans hw)
  · rw [hlink]
    exact State.setLink_at h

namespace TakesHead

section
variable {s u w : State} {i : Nat} {y : LinkState} {t : Telegram} {f : Bool} {e x : MirrorEntry} {o : Order}
  {a : Authority} {v : Value}

theorem at_once (hh : TakesHead s u i y t f e) (hb : u.takeTelegram i t f false = w) (hw : w.settled) :
    exec (.mirrorTakeEntry i) s = .next w := by
  rw [hh.takes w hb, settle_settled w hw]

theorem failed {n : Nat} (hh : TakesHead s u i y t f e) (hj : judgeTelegram e.kind t = .failed n) :
    exec (.mirrorTakeEntry i) s = .next (u.report .fieldInconsistent (some (.link i)) (some t.addr.toNat) (some n)) :=
  hh.at_once (State.takeTelegram_failed hh.entry hj) (hh.settled.report _ _ _ _)

theorem state_settled (hh : TakesHead s u i y t f e) (hj : judgeTelegram e.kind t = .ok (.state a v)) (ho : e.out = none)
    (hknown : e.state ≠ .unknown ∨ y = .up →
      x = { e with value := some v, poll := none, authority := a, state := if a = .remote then .held else .reported })
    (hunknown : e.state = .unknown ∧ y ≠ .up → x = { e with value := some v, poll := none, authority := .unknown }) :
    exec (.mirrorTakeEntry i) s = .next (settle ((u.setEntry x).post (x.notice .state v.volts u.tick))) := by
  obtain ⟨l, hl, rfl⟩ := hh.link
  refine hh.takes _ ((State.takeTelegram_state hh.entry hj).trans ?_)
  by_cases hk : e.state ≠ .unknown ∨ l.state = .up
  · exact State.stateTelegram_settled ho hl hk (hknown hk)
  · obtain ⟨hst, hu⟩ := not_or.mp hk
    have hst := Classical.not_not.mp hst
    exact State.stateTelegram_unknown ho hl hst hu (hunknown ⟨hst, hu⟩)

theorem state_remote (hh : TakesHead s u i y t f e) (hj : judgeTelegram e.kind t = .ok (.state .remote v))
    (ho : e.out = some o) (hst : ∀ d, o.stage ≠ .pushWait d)
    (hx : x = { e with value := some v, authority := .remote, poll := none }) :
    exec (.mirrorTakeEntry i) s = .next (settle ((u.setEntry x).post (x.notice .state v.volts u.tick))) := by
  subst hx
  exact hh.takes _ ((State.takeTelegram_state hh.entry hj).trans (State.stateTelegram_remote ho hst))

theorem state_lost (hh : TakesHead s u i y t f e) (hj : judgeTelegram e.kind t = .ok (.state a v)) (ho : e.out = some o)
    (ha : a ≠ .remote) (hx : x = { e with value := some v, authority := a, poll := none, state := .reported, out := none,
                                          succ := none }) :
    exec (.mirrorTakeEntry i) s = .next (settle ((u.setEntry x).posts
      (e.failOutcomes .localCtl ++ [x.notice .state [] u.tick] ++ e.failReports .localCtl))) := by
  subst hx
  exact hh.takes _ ((State.takeTelegram_state hh.entry hj).trans (State.stateTelegram_lost ho ha))

section
variable {d : Nat}

theorem push_met (hh : TakesHead s u i y t f e) (hj : judgeTelegram e.kind t = .ok (.state .remote v))
    (ho : e.out = some o) (hst : o.stage = .pushWait d) (hm : o.data.targetMet v = true) :
    exec (.mirrorTakeEntry i) s = .next (settle
      (u.endHeld { e with value := some v, authority := .remote, poll := none } o .already .state)) :=
  hh.takes _ ((State.takeTelegram_state hh.entry hj).trans ((State.stateTelegram_push ho hst).trans (State.push_met hm)))

theorem push_taken (hh : TakesHead s u i y t f e) (hj : judgeTelegram e.kind t = .ok (.state .remote v))
    (ho : e.out = some o) (hst : o.stage = .pushWait d) (hm : o.data.targetMet v = false)
    (hx : x = MirrorEntry.withOrder { e with value := some v, authority := .remote, poll := none }
      o.data o.token o.defers)
    (hof : u.offer e.link (e.txEntry o.data o.token) = .taken w) :
    exec (.mirrorTakeEntry i) s =
      .next (settle (((w.setEntry x).kick e.link).post (x.notice .state [] u.tick))) := by
  subst hx
  exact hh.takes _ ((State.takeTelegram_state hh.entry hj).trans
    ((State.stateTelegram_push ho hst).trans (State.push_taken hm hof)))

theorem push_refused {r : Result} (hh : TakesHead s u i y t f e)
    (hj : judgeTelegram e.kind t = .ok (.state .remote v)) (ho : e.out = some o) (hst : o.stage = .pushWait d)
    (hm : o.data.targetMet v = false) (hof : u.offer e.link (e.txEntry o.data o.token) = .refused r) :
    exec (.mirrorTakeEntry i) s = .next (settle
      (u.endHeld { e with value := some v, authority := .remote, poll := none, seq := e.nextSeq } o r .state)) :=
  hh.takes _ ((State.takeTelegram_state hh.entry hj).trans
    ((State.stateTelegram_push ho hst).trans (State.push_refused hm hof)))

end

section
variable {code train reason d : Nat} {c : Option Value}

theorem event_forwarded (hh : TakesHead s u i y t true e) (hj : judgeTelegram e.kind t = .ok (.event code train c))
    (hk : e.kind = .platform) : exec (.mirrorTakeEntry i) s =
      .next (u.setEntry { e with value := eventValue e code train c }) :=
  hh.at_once ((State.takeTelegram_event hh.entry hj).trans (State.eventTelegram_forwarded hk)) (hh.settled.setEntry _)

theorem event_platform (hh : TakesHead s u i y t false e) (hj : judgeTelegram e.kind t = .ok (.event code train c))
    (hk : e.kind = .platform) (hx : x = { e with value := eventValue e code train c }) :
    exec (.mirrorTakeEntry i) s = .next (settle ((u.setEntry x).posts ([x.notice (.event code) [] u.tick] ++
      ((u.stopOfElement e.el).map (fun k => Notice.confirmedEvent (code == 1) train k)).toList))) := by
  subst hx
  exact hh.takes _ ((State.takeTelegram_event hh.entry hj).trans (State.eventTelegram_platform hk))

theorem event_other (hh : TakesHead s u i y t f e) (hj : judgeTelegram e.kind t = .ok (.event code train c))
    (hk : e.kind ≠ .platform) (hx : x = { e with value := eventValue e code train c }) :
    exec (.mirrorTakeEntry i) s = .next (settle ((u.setEntry x).post
      (x.notice (.event code) ((c.map Value.volts).getD []) u.tick))) := by
  subst hx
  exact hh.takes _ ((State.takeTelegram_event hh.entry hj).trans (State.eventTelegram_other hk))

/-- R49 to R52: an awaited ANSWER, by its code. -/
theorem answered (hh : TakesHead s u i y t f e) (hj : judgeTelegram e.kind t = .ok (.answer code reason))
    (ho : e.out = some o) (hst : o.stage = .sent d) (hq : o.seq = t.seq.toNat) :
    exec (.mirrorTakeEntry i) s = .next (settle (u.answerTaken e o code reason)) :=
  hh.takes _ ((State.takeTelegram_answer hh.entry hj).trans (State.answerTelegram_taken ho hst hq))

theorem answer_accepted (hh : TakesHead s u i y t f e) (hj : judgeTelegram e.kind t = .ok (.answer 1 reason))
    (ho : e.out = some o) (hst : o.stage = .sent d) (hq : o.seq = t.seq.toNat) :
    exec (.mirrorTakeEntry i) s = .next (u.setEntry
      { e with out := some { o with stage := .executing (u.tick + u.execSeconds e.kind * 1000) } }) :=
  (hh.answered hj ho hst hq).trans (congrArg _ (settle_settled _ (hh.settled.setEntry _)))

theorem answer_deferred (hh : TakesHead s u i y t f e) (hj : judgeTelegram e.kind t = .ok (.answer 2 reason))
    (ho : e.out = some o) (hst : o.stage = .sent d) (hq : o.seq = t.seq.toNat) (hd : o.defers < 3) :
    exec (.mirrorTakeEntry i) s = .next (u.setEntry
      { e with out := some { o with defers := o.defers + 1, stage := .pushWait (u.tick + u.answerMs e.link) } }) := by
  rw [hh.answered hj ho hst hq, State.answerTaken_deferred hd]
  exact congrArg _ (settle_settled _ (hh.settled.setEntry _))

theorem answer_deferredOut (hh : TakesHead s u i y t f e) (hj : judgeTelegram e.kind t = .ok (.answer 2 reason))
    (ho : e.out = some o) (hst : o.stage = .sent d) (hq : o.seq = t.seq.toNat) (hd : 3 ≤ o.defers) :
    exec (.mirrorTakeEntry i) s = .next (settle (u.endHeld e { o with defers := o.defers + 1 } .deferredOut .order)) := by
  rw [hh.answered hj ho hst hq, State.answerTaken_deferredOut hd]

theorem answer_rejected (hh : TakesHead s u i y t f e) (hj : judgeTelegram e.kind t = .ok (.answer 3 reason))
    (ho : e.out = some o) (hst : o.stage = .sent d) (hq : o.seq = t.seq.toNat) :
    exec (.mirrorTakeEntry i) s = .next (settle (u.endHeld e o (.rejected reason) .order)) :=
  hh.answered hj ho hst hq

theorem answer_stale (hh : TakesHead s u i y t f e) (hj : judgeTelegram e.kind t = .ok (.answer code reason))
    (h : e.out = none ∨ ∃ o, e.out = some o ∧ (o.seq ≠ t.seq.toNat ∨ ∀ d, o.stage ≠ .sent d)) :
    exec (.mirrorTakeEntry i) s = .next u :=
  hh.at_once ((State.takeTelegram_answer hh.entry hj).trans (State.answerTelegram_stale h)) hh.settled

theorem executed (hh : TakesHead s u i y t f e) (hj : judgeTelegram e.kind t = .ok (.executed v))
    (ho : e.out = some o) (hst : (∃ d, o.stage = .sent d) ∨ ∃ d, o.stage = .executing d) (hq : o.seq = t.seq.toNat) :
    exec (.mirrorTakeEntry i) s = .next (settle (u.executedTaken e o v)) :=
  hh.takes _ ((State.takeTelegram_executed hh.entry hj).trans (State.executedTelegram_taken ho hst hq))

theorem executed_stale (hh : TakesHead s u i y t f e) (hj : judgeTelegram e.kind t = .ok (.executed v))
    (h : e.out = none ∨ ∃ o, e.out = some o ∧ (o.seq ≠ t.seq.toNat ∨ o.stage = .queued ∨ ∃ d, o.stage = .pushWait d)) :
    exec (.mirrorTakeEntry i) s = .next u :=
  hh.at_once ((State.takeTelegram_executed hh.entry hj).trans (State.executedTelegram_stale h)) hh.settled

end

end

end TakesHead

/-- Settles O60. -/
theorem breakerTelegramsUpdateTheMirror : Obligations.BreakerTelegramsUpdateTheMirror := by
  unfold Obligations.BreakerTelegramsUpdateTheMirror
  refine ⟨?_, ?_, ⟨?_, ?_, ?_⟩, ⟨?_, ?_, ?_, ?_, ?_⟩, ?_, ?_⟩
  · rintro i l t f rest e s u hs hi h hg hr hf hk rfl vb v hv
    have hval := breakerOf_listed hv
    have hh := takesHead_of hs hi h hg hr hf
    refine ⟨fun ab a x ha hkind hp ho hknown hunknown => ?_, fun o reason ho => ⟨fun hq d hst => ⟨?_, ?_⟩, ?_, ?_⟩⟩
    · have hj : judgeTelegram e.kind t = .ok (.state a (.breaker v)) :=
        hk ▸ judge_state_breaker hkind hp (authorityOf_listed ha) hval
      have hx : (x.el, x.kind) = (e.el, e.kind) := by
        by_cases hs : e.state ≠ .unknown ∨ l.state = .up
        · rw [hknown hs]
        · rw [hunknown (by rwa [not_or, Classical.not_not] at hs)]
      obtain ⟨hel, hkind⟩ := Prod.mk.inj hx
      rw [← hel, ← hkind]
      exact hh.state_settled hj ho hknown hunknown
    · intro hkind hp
      have hj : judgeTelegram e.kind t = .ok (.answer 1 reason.toNat) :=
        judge_answer (c := 1#8) hkind hp (by rw [hk]; nofun) (by decide) (by decide)
      have hsec : s.params.breakerExec = s.execSeconds e.kind := by rw [hk]; rfl
      rw [hsec]
      exact hh.answer_accepted hj ho hst hq
    · exact fun hkind hp => hh.answer_rejected
        (judge_answer (c := 3#8) hkind hp (by rw [hk]; nofun) (by decide) (by decide)) ho hst hq
    · rintro hq ⟨d, hst⟩ hkind hp r rfl
      have hj : judgeTelegram e.kind t = .ok (.executed (.breaker v)) := hk ▸ judge_executed_breaker hkind hp hval
      exact hh.executed hj ho (hst.imp (⟨d, ·⟩) (⟨d, ·⟩)) hq
    · rintro hq (⟨hkind, hp⟩ | ⟨hkind, hp⟩)
      · exact hh.answer_stale
          (judge_answer (c := 1#8) hkind hp (by rw [hk]; nofun) (by decide) (by decide)) (.inr ⟨o, ho, .inl hq⟩)
      · exact hh.executed_stale (hk ▸ judge_executed_breaker hkind hp hval) (.inr ⟨o, ho, .inl hq⟩)
  · rintro i l t f rest e s u hs hi h hg hr hf rfl told rfl
    have hh := takesHead_of hs hi h hg hr hf
    refine ⟨fun n hj => hh.failed hj, fun a v hj => ⟨?_, ?_, ?_, ?_, ?_⟩, fun code train v x hj hx => ⟨?_, ?_, ?_⟩,
      fun reason o d hj ho hst hq => ⟨?_, ?_⟩⟩
    · exact fun x ho hknown hunknown => hh.state_settled hj ho hknown hunknown
    · rintro o ho rfl hst x hx
      exact hh.state_remote hj ho hst hx
    · exact fun o ho ha x hx => hh.state_lost hj ho ha hx
    · rintro o d ho rfl hst hm
      exact hh.push_met hj ho hst hm
    · rintro o d x q ho rfl hst hm rfl rfl
      exact ⟨fun w hof => hh.push_taken hj ho hst hm rfl hof, fun r hof => hh.push_refused hj ho hst hm hof⟩
    · rintro hk rfl
      rw [hx]
      exact hh.event_forwarded hj hk
    · rintro hk rfl
      exact hh.event_platform hj hk hx
    · exact fun hk => hh.event_other hj hk hx
    · exact fun hd => hh.answer_deferred hj ho hst hq hd
    · exact fun hd => hh.answer_deferredOut hj ho hst hq hd
  · rintro i l t f rest e s u hs hi h hg hr hf rfl
    have hh := takesHead_of hs hi h hg hr hf
    refine ⟨fun seconds reason o d hk ho hq hst => ⟨fun hj => ?_, fun hj => hh.answer_rejected hj ho hst hq⟩,
      fun v hj => ⟨?_, fun hstale => hh.executed_stale hj hstale⟩, fun code reason hj hstale => hh.answer_stale hj hstale⟩
    · have hsec : seconds = s.execSeconds e.kind := by
        simp only [List.mem_cons, Prod.mk.injEq, List.not_mem_nil, or_false] at hk
        rcases hk with ⟨hk, rfl⟩ | ⟨hk, rfl⟩ | ⟨hk, rfl⟩ <;> rw [hk] <;> rfl
      rw [hsec]
      exact hh.answer_accepted hj ho hst hq
    · rintro o d r ho hq hst rfl
      exact hh.executed hj ho (hst.imp (⟨d, ·⟩) (⟨d, ·⟩)) hq
  · exact fun t h l x a1 a2 b1 b2 hk => ⟨fun ind hp hn hx => judge_executed_platform hk hp hn (indicationOf_listed hx),
      fun hp hn => judge_executed_display hk hp hn⟩
  · exact fun train a b c x o ind => ⟨beq_iff_eq, beq_iff_eq, beq_iff_eq, beq_iff_eq⟩
  · intro k t ab a h l x ha
    have hau := authorityOf_listed ha
    refine ⟨?_, ?_, ?_⟩
    · rintro hk rfl hp hn ind hx
      exact judge_state_platform hk hp hau hn (indicationOf_listed hx)
    · rintro a1 a2 b1 b2 hk rfl hp hn
      exact judge_state_display hk hp hau hn
    · rintro v1 v2 hk rfl hp
      exact judge_state_meter hk hp hau
  · intro k t c h l hk
    refine ⟨?_, ?_, ?_, ?_⟩
    · rintro rfl hp hc h1 h999
      exact judge_event_platform hk hp hc h1 h999
    · rintro rfl hp
      exact judge_event_breaker hk hp
    · rintro rfl hp
      exact judge_event_meter hk hp
    · rintro rfl
      exact judge_event_display hk
  · intro k t c r hk hp
    refine ⟨fun hm h1 h3 => judge_answer hk hp hm h1 h3, ?_, fun hm hc => judge_answer_range hk hp hm hc⟩
    rintro rfl
    exact judge_answer_meter hk
  · exact fun k t h => judgeTelegram_other h
  · exact fun e train => ⟨fun o i h => eventValue_platform h, eventValue_first, rfl,
      fun old load vs new h _ _ => eventValue_meter h⟩
  · intro el d r
    refine ⟨failReport_completion, ?_, failReport_failure⟩
    rintro n rfl
    rfl
  · rintro el c d r e s he told rfl
    refine ⟨follow_alone he, ?_⟩
    rintro w q tx hst ho hs rfl rfl
    refine ⟨?_, fun r' hof => (follow_successor he hst ho hs).trans (State.followBy_refused hof)⟩
    rintro u x hof rfl
    exact (follow_successor he hst ho hs).trans (State.followBy_taken hof)

end Sys2Proof.Machine
end

section
/-! SUPPORT. The checks of LD_COMMIT and the records it builds, for O23. -/
namespace Sys2Proof.Machine

/-! ### First findings (R11) -/

section
variable {α β : Type} {rows : List α} {f : Nat → α → Option β}

theorem findSome?_mapIdx_none :
    (rows.mapIdx f).findSome? id = none ↔ ∀ i r, rows[i]? = some r → f i r = none := by
  simp only [List.findSome?_eq_none_iff, List.mem_mapIdx, id_eq]
  refine ⟨fun h i r hr => ?_, ?_⟩
  · obtain ⟨hi, hget⟩ := List.getElem?_eq_some_iff.mp hr
    exact hget ▸ h _ ⟨i, hi, rfl⟩
  · rintro h x ⟨i, hi, rfl⟩
    exact h i _ (List.getElem?_eq_getElem hi)

theorem findSome?_mapIdx_some {c : β} : (rows.mapIdx f).findSome? id = some c ↔
    ∃ i r, rows[i]? = some r ∧ f i r = some c ∧ ∀ j q, j < i → rows[j]? = some q → f j q = none := by
  induction rows generalizing f with
  | nil => simp
  | cons a rows ih =>
    rw [List.mapIdx_cons, List.findSome?_cons, id_eq]
    cases ha : f 0 a with
    | some x =>
      refine ⟨fun h => ⟨0, a, rfl, ha.trans h, fun j _ hj => absurd hj (Nat.not_lt_zero j)⟩, ?_⟩
      rintro ⟨i, r, hr, hc, hbefore⟩
      cases i with
      | zero =>
        obtain rfl := Option.some.inj hr
        exact ha.symm.trans hc
      | succ i => exact absurd (ha.symm.trans (hbefore 0 a (Nat.succ_pos i) rfl)) nofun
    | none =>
      refine Iff.trans ih ⟨?_, ?_⟩
      · rintro ⟨i, r, hr, hc, hbefore⟩
        refine ⟨i + 1, r, hr, hc, fun j q hj hq => ?_⟩
        cases j with
        | zero =>
          obtain rfl := Option.some.inj hq
          exact ha
        | succ j => exact hbefore j q (Nat.lt_of_succ_lt_succ hj) hq
      · rintro ⟨i, r, hr, hc, hbefore⟩
        cases i with
        | zero =>
          obtain rfl := Option.some.inj hr
          exact absurd (ha.symm.trans hc) nofun
        | succ i => exact ⟨i, r, hr, hc, fun j q hj hq => hbefore (j + 1) q (Nat.succ_lt_succ hj) hq⟩

theorem findSome?_id_cons (a : Option β) (l : List (Option β)) : (a :: l).findSome? id = a.or (l.findSome? id) := by
  cases a <;> rfl

variable {table : Nat} {check : Nat → α → Option Nat}

theorem firstOf_none_iff : firstOf table rows check = none ↔ ∀ i r, rows[i]? = some r → check i r = none := by
  simp only [firstOf, findSome?_mapIdx_none, Option.map_eq_none_iff]

theorem firstOf_some_iff {c : RefusalCode} : firstOf table rows check = some c ↔
    ∃ i k, c = .inconsistent table i k ∧ (∃ r, rows[i]? = some r ∧ check i r = some k) ∧
      ∀ j r, j < i → rows[j]? = some r → check j r = none := by
  simp only [firstOf, findSome?_mapIdx_some, Option.map_eq_some_iff, Option.map_eq_none_iff]
  constructor
  · rintro ⟨i, r, hr, ⟨k, hk, rfl⟩, hbefore⟩
    exact ⟨i, k, rfl, ⟨r, hr, hk⟩, hbefore⟩
  · rintro ⟨i, k, rfl, ⟨r, hr, hk⟩, hbefore⟩
    exact ⟨i, r, hr, ⟨k, hk, rfl⟩, hbefore⟩

theorem firstOf_at_iff {i k : Nat} : firstOf table rows check = some (.inconsistent table i k) ↔
    (∃ r, rows[i]? = some r ∧ check i r = some k) ∧ ∀ j r, j < i → rows[j]? = some r → check j r = none := by
  rw [firstOf_some_iff]
  constructor
  · rintro ⟨j, m, he, h⟩
    obtain ⟨-, rfl, rfl⟩ := RefusalCode.inconsistent.inj he
    exact h
  · exact fun h => ⟨i, k, rfl, h⟩

end

/-! ### The checks of each table (R11) -/

section
variable (s : State)

theorem State.commitCheck_loaded (h : s.lds.missing = none) : s.commitCheck =
    (firstOf 1 s.stations s.stationCheck).or (s.runsCheck.or ((firstOf 3 s.sectRows s.sectionCheck).or
      ((firstOf 4 s.subRows s.substationCheck).or ((firstOf 5 s.elemRows s.elementCheck).or s.zonesCheck)))) := by
  simp only [State.commitCheck, h, findSome?_id_cons, List.findSome?_nil, Option.or_none]

theorem State.commitCheck_missing {n : Nat} (h : s.lds.missing = some n) : s.commitCheck = some (.inconsistent n 0 1) := by
  simp only [State.commitCheck, h]

theorem twoRoles_iff (seen mine : List Nat) : twoRoles seen mine = true ↔ (∃ e ∈ mine, e ∈ seen) ∨ ¬ mine.Nodup := by
  simp [twoRoles]

theorem State.stationCheck_eq (i : Nat) (r : StationRow) : s.stationCheck i r =
    if s.sectRows.length ≤ r.sect ∨ ∃ e ∈ r.roles, s.elemRows.length ≤ e then some 2
    else if s.kindOf r.up ≠ some .platform ∨ s.kindOf r.down ≠ some .platform ∨
      (∃ e, r.display = some e ∧ s.kindOf e ≠ some .display) then some 3
    else if (∃ e ∈ r.roles, e ∈ (s.stations.take i).flatMap StationRow.roles) ∨ ¬ r.roles.Nodup then some 4
    else none := by
  unfold State.stationCheck
  refine ite_congr_iff ?_ rfl (ite_congr_iff ?_ rfl (ite_congr_iff (twoRoles_iff _ _) rfl rfl))
  · simp only [Bool.or_eq_true, decide_eq_true_eq, Bool.not_eq_true', List.all_eq_false, State.elBelow, Nat.not_lt]
    rfl
  · simp [Option.any_eq_true, or_assoc]

theorem State.runsCheck_count (h : s.runs.length + 1 ≠ s.stations.length) : s.runsCheck = some (.inconsistent 2 0 5) :=
  if_pos h

theorem State.runsCheck_rows (h : s.runs.length + 1 = s.stations.length) : s.runsCheck = firstOf 2 s.runs (fun _ r =>
    if s.sectRows.length ≤ r.sect then some 2
    else if r.upMax < r.upMin ∨ r.downMax < r.downMin then some 6 else none) := by
  refine (if_neg (not_not_intro h)).trans (congrArg (firstOf 2 s.runs) (funext fun _ => funext fun r => ?_))
  exact ite_congr_iff Iff.rfl rfl (ite_congr_iff (by simp) rfl rfl)

theorem State.isLone_iff (i : Nat) : s.isLone i = true ↔ i % 2 = 0 ∧ i + 1 = s.sectRows.length := by
  simp [State.isLone, State.sectCount]

theorem State.sectionCheck_eq (i : Nat) (r : SectionRow) : s.sectionCheck i r =
    if r.feeders = [] then some 7
    else if (∃ e ∈ r.feeders, s.elemRows.length ≤ e) ∨ (∃ e, s.pairTie i = some e ∧ s.elemRows.length ≤ e) ∨
      (∃ x, r.source = some x ∧ s.elemRows.length ≤ x.1) then some 2
    else if (∃ e ∈ r.feeders, s.kindOf e ≠ some .breaker) ∨ (∃ e, s.pairTie i = some e ∧ s.kindOf e ≠ some .breaker) ∨
      (∃ x, r.source = some x ∧ s.kindOf x.1 ≠ some .meter) then some 3
    else if (∃ e ∈ s.sectRoles i r, e ∈ s.rolesBefore i) ∨ ¬ (s.sectRoles i r).Nodup then some 4
    else if (r.chargeCheck = true ∨ r.underCheck = true) ∧ r.source = none then some 8
    else if (i % 2 = 0 ∧ i + 1 = s.sectRows.length) ∧
      (∃ p, s.pairRows[i / 2]? = some p ∧ p.mode ≠ .independent) then some 9
    else if ∃ e ∈ r.feeders, ∀ x ∈ s.subRows, e ∉ x.feeders then some 10 else none := by
  unfold State.sectionCheck
  refine ite_congr_iff List.isEmpty_iff rfl (ite_congr_iff ?_ rfl (ite_congr_iff ?_ rfl (ite_congr_iff (twoRoles_iff _ _) rfl
    (ite_congr_iff ?_ rfl (ite_congr_iff ?_ rfl (ite_congr_iff ?_ rfl rfl))))))
  · simp [State.elBelow]
  · simp [Option.any_eq_true, or_assoc]
  · simp
  · simp [State.isLone_iff, Option.any_eq_true]
  · simp [State.supplied]

theorem State.substationCheck_eq (i : Nat) (r : SubstationRow) : s.substationCheck i r =
    if s.elemRows.length ≤ r.meter ∨ (∃ e ∈ r.feeders, s.elemRows.length ≤ e) then some 2
    else if s.kindOf r.meter ≠ some .meter ∨ (∃ e ∈ r.feeders, ∀ x ∈ s.sectRows, e ∉ x.feeders) then some 3
    else if r.meter ∈ s.rolesBefore s.sectRows.length ++ (s.subRows.take i).map (·.meter) ∨
      (∃ e ∈ r.feeders, ∃ x ∈ s.subRows.take i, e ∈ x.feeders) then some 4 else none := by
  unfold State.substationCheck
  refine ite_congr_iff ?_ rfl (ite_congr_iff ?_ rfl (ite_congr_iff ?_ rfl rfl))
  · simp [State.elBelow]
  · simp [State.isFeeder]
  · simp [State.sectCount]

theorem State.elementCheck_eq (i : Nat) (r : ElementRow) : s.elementCheck i r =
    if r.kind = none then none
    else if (s.linkRows[r.link]?).join = none then some 11
    else if ∃ x ∈ s.elemRows.take i, x.kind ≠ none ∧ x.link = r.link ∧ x.addr = r.addr then some 12 else none := by
  unfold State.elementCheck
  refine ite_congr_iff Option.isNone_iff_eq_none rfl (ite_congr_iff Option.isNone_iff_eq_none rfl (ite_congr_iff ?_ rfl rfl))
  simp [Option.isSome_iff_ne_none, and_assoc]

theorem State.zoneCheck_eq (z : Nat) (l : List Nat) : s.zoneCheck z l =
    if ∃ i ∈ l, s.stations.length ≤ i then some (z, 2)
    else ((List.range s.stations.length).find? (fun i =>
      l.contains i && (s.zones.take z).any (fun x => x.contains i))).map (fun i => (i, 13)) := by
  unfold State.zoneCheck
  refine ite_congr_iff ?_ rfl rfl
  simp only [List.any_eq_true, decide_eq_true_eq]
  rfl

/-- R11: the first station that no zone lists. -/
theorem State.noZone_none : s.noZone = none ↔ ∀ i, i < s.stations.length → ∃ l ∈ s.zones, i ∈ l := by
  simp [State.noZone, State.zoneOf, State.stationCount]

theorem State.noZone_some {i : Nat} : s.noZone = some i ↔
    i < s.stations.length ∧ (∀ l ∈ s.zones, i ∉ l) ∧ ∀ j, j < i → ∃ l ∈ s.zones, j ∈ l := by
  simp [State.noZone, State.zoneOf, State.stationCount, List.find?_range_eq_some,
    and_left_comm]

theorem State.zonesCheck_some_iff {c : RefusalCode} : s.zonesCheck = some c ↔ ∃ i k, c = .inconsistent 7 i k ∧
    ((∃ z l, s.zones[z]? = some l ∧ s.zoneCheck z l = some (i, k) ∧
        ∀ y m, y < z → s.zones[y]? = some m → s.zoneCheck y m = none) ∨
      ((∀ z l, s.zones[z]? = some l → s.zoneCheck z l = none) ∧ k = 14 ∧ s.noZone = some i)) := by
  unfold State.zonesCheck
  split
  · next i k h =>
    have hfirst := findSome?_mapIdx_some.mp h
    constructor
    · rintro ⟨⟩
      exact ⟨i, k, rfl, .inl hfirst⟩
    · rintro ⟨i', k', rfl, hfirst' | ⟨hall, -⟩⟩
      · obtain ⟨rfl, rfl⟩ := Prod.mk.inj (Option.some.inj (h.symm.trans (findSome?_mapIdx_some.mpr hfirst')))
        rfl
      · obtain ⟨z, l, hl, hc, -⟩ := hfirst
        exact absurd ((hall z l hl).symm.trans hc) nofun
  · next h =>
    have hnone := findSome?_mapIdx_none.mp h
    rw [Option.map_eq_some_iff]
    constructor
    · rintro ⟨i, hi, rfl⟩
      exact ⟨i, 14, rfl, .inr ⟨hnone, rfl, hi⟩⟩
    · rintro ⟨i, k, rfl, ⟨z, l, hl, hc, -⟩ | ⟨-, rfl, hi⟩⟩
      · exact absurd ((hnone z l hl).symm.trans hc) nofun
      · exact ⟨i, hi, rfl⟩

theorem State.zonesCheck_none_iff : s.zonesCheck = none ↔ (∀ z l, s.zones[z]? = some l → s.zoneCheck z l = none) ∧
    ∀ i, i < s.stations.length → ∃ l ∈ s.zones, i ∈ l := by
  rw [← State.noZone_none, ← findSome?_mapIdx_none]
  unfold State.zonesCheck
  split
  · next i k h => simp [h]
  · next h => simp [h]

theorem State.zonesCheck_at_iff {i c : Nat} : s.zonesCheck = some (.inconsistent 7 i c) ↔
    (∃ z l, s.zones[z]? = some l ∧ s.zoneCheck z l = some (i, c) ∧
      ∀ y k, y < z → s.zones[y]? = some k → s.zoneCheck y k = none) ∨
    ((∀ z l, s.zones[z]? = some l → s.zoneCheck z l = none) ∧ c = 14 ∧ i < s.stations.length ∧
      (∀ l ∈ s.zones, i ∉ l) ∧ ∀ j, j < i → ∃ l ∈ s.zones, j ∈ l) := by
  rw [State.zonesCheck_some_iff, ← State.noZone_some]
  constructor
  · rintro ⟨j, k, he, h⟩
    obtain ⟨-, rfl, rfl⟩ := RefusalCode.inconsistent.inj he
    exact h
  · exact fun h => ⟨i, c, rfl, h⟩

/-- R11: every finding of the checks names a table, a place and a check. -/
theorem State.commitCheck_inconsistent {c : RefusalCode} (h : s.commitCheck = some c) :
    ∃ table index check, c = .inconsistent table index check := by
  have hfirst {α : Type} {table : Nat} {rows : List α} {check : Nat → α → Option Nat}
      (hf : firstOf table rows check = some c) : ∃ table index check, c = .inconsistent table index check := by
    obtain ⟨i, k, he, -⟩ := firstOf_some_iff.mp hf
    exact ⟨table, i, k, he⟩
  cases hm : s.lds.missing with
  | some n => exact ⟨n, 0, 1, (Option.some.inj ((s.commitCheck_missing hm).symm.trans h)).symm⟩
  | none =>
    simp only [s.commitCheck_loaded hm, Option.or_eq_some_iff] at h
    rcases h with h | ⟨-, h | ⟨-, h | ⟨-, h | ⟨-, h | ⟨-, h⟩⟩⟩⟩⟩
    · exact hfirst h
    · by_cases hr : s.runs.length + 1 = s.stations.length
      · exact hfirst ((s.runsCheck_rows hr).symm.trans h)
      · exact ⟨2, 0, 5, (Option.some.inj ((s.runsCheck_count hr).symm.trans h)).symm⟩
    · exact hfirst h
    · exact hfirst h
    · exact hfirst h
    · obtain ⟨i, k, he, -⟩ := s.zonesCheck_some_iff.mp h
      exact ⟨7, i, k, he⟩

end

/-! ### The records built (R37, R110, R111, R152) -/

section
variable (s : State)

theorem State.mem_builtMirror {e : MirrorEntry} : e ∈ s.builtMirror ↔
    ∃ r k, s.elemRows[e.el]? = some r ∧ r.kind = some k ∧ e = MirrorEntry.built e.el k r.link r.addr := by
  simp only [State.builtMirror, List.mem_filterMap, List.mem_mapIdx, id_eq]
  constructor
  · rintro ⟨_, ⟨i, hi, rfl⟩, h⟩
    obtain ⟨k, hk, rfl⟩ := Option.map_eq_some_iff.mp h
    exact ⟨s.elemRows[i], k, List.getElem?_eq_getElem hi, hk, rfl⟩
  · rintro ⟨r, k, hr, hk, he⟩
    obtain ⟨hi, hget⟩ := List.getElem?_eq_some_iff.mp hr
    refine ⟨_, ⟨e.el, hi, rfl⟩, ?_⟩
    rw [hget, hk, he]
    rfl

theorem State.builtSupervisor_pair {m : Nat} {p : PairRow} (h : s.pairRows[m]? = some p) :
    s.builtSupervisor.pairs[m]? = some (if 2 * m + 1 < s.sectRows.length then { mode := p.mode, tie := p.tie }
      else { mode := .independent, tie := none }) := by
  simp only [State.builtSupervisor, pairsBuilt, List.getElem?_mapIdx, h, Option.map_some]
  rfl

theorem State.builtPublisher_station {i z : Nat} {r : StationRow} (h : s.stations[i]? = some r) (hz : s.zoneOf i = some z) :
    s.builtPublisher.stations[i]? = some (StationRec.built r.display z) := by
  simp only [State.builtPublisher, List.getElem?_mapIdx, h, Option.map_some, hz, Option.getD_some]

theorem freshStatus_eq (display : Option Nat) :
    freshStatus display = if display = none then .noDisplay else .neverSent := by
  cases display <;> rfl

theorem State.builtWindow_eq : s.builtWindow = { entries := [], last := List.replicate (2 * s.stations.length) none } := rfl

end

/-! ### The judging of the request (R11) -/

section
variable {s : State} {tag : Byte}

theorem reqLdCommit_configured (h : s.lds.service = .configured) : reqLdCommit tag [] s = s.done tag [] := by
  simp only [reqLdCommit, h, List.length_nil, ne_eq, not_true_eq_false, if_false]

theorem reqLdCommit_refused {c : RefusalCode} (h : s.lds.service = .unconfigured) (hc : s.commitCheck = some c) :
    reqLdCommit tag [] s = s.refuse tag c := by
  simp only [reqLdCommit, h, hc, List.length_nil, ne_eq, not_true_eq_false, if_false]

theorem reqLdCommit_accepted (h : s.lds.service = .unconfigured) (hc : s.commitCheck = none) :
    reqLdCommit tag [] s = s.commit tag := by
  simp only [reqLdCommit, h, hc, List.length_nil, ne_eq, not_true_eq_false, if_false]

end

end Sys2Proof.Machine
end

section
/-! SUPPORT. Running out a list of notices, and the links that move together at LD_COMMIT and WARM_RESTART. -/
namespace Sys2Proof.Machine

/-! ### A list of notices that runs out -/

/-- From `u` the notices `ns`, and all they bring about, run out within `k` notices and leave `v`. -/
def State.takes (ns : List Notice) (u v : State) (k : Nat) : Prop :=
  u.agenda = [] ∧ v.agenda = [] ∧ ∀ m rest, (u.posts (ns ++ rest)).run (m + k) = (v.posts rest).run m

section
variable {u v w : State} {n : Notice} {ns ms : List Notice} {k j : Nat}

theorem State.takes.refl (hu : u.agenda = []) : State.takes [] u u 0 := ⟨hu, hu, fun _ _ => rfl⟩

theorem State.takes.append (h : State.takes ns u v k) (h' : State.takes ms v w j) :
    State.takes (ns ++ ms) u w (j + k) := by
  refine ⟨h.1, h'.2.1, fun m rest => ?_⟩
  rw [List.append_assoc, ← Nat.add_assoc, h.2.2, h'.2.2]

/-- A notice and what it posts. -/
theorem State.takes.one (hu : u.agenda = []) (ha : (handle n u).agenda = ms)
    (h : State.takes ms ((handle n u).setAgenda []).latch v k) : State.takes [n] u v (k + 1) := by
  refine ⟨hu, h.2.1, fun m rest => ?_⟩
  have hagenda : (u.posts ([n] ++ rest)).agenda = n :: rest := by
    rw [State.posts, hu]
    rfl
  have hself : (u.posts ([n] ++ rest)).setAgenda [] = u := by
    simp only [State.posts, State.setAgenda]
    rw [← hu]
  have hstep : (u.posts ([n] ++ rest)).takeNotice n rest = (((handle n u).setAgenda []).latch).posts (ms ++ rest) := by
    rw [State.takeNotice, hself, ← ha]
    rfl
  rw [← Nat.add_assoc, State.run_cons _ _ n rest hagenda, hstep, h.2.2]

/-- A notice that posts nothing. -/
theorem State.takes.quiet (hu : u.agenda = []) (ha : (handle n u).agenda = []) :
    State.takes [n] u (handle n u).latch 1 := by
  have hself : (handle n u).setAgenda [] = handle n u := by
    simp only [State.setAgenda]
    rw [← ha]
  refine State.takes.one (k := 0) hu ha ?_
  rw [hself]
  exact State.takes.refl ha

/-- A notice that changes nothing. -/
theorem State.takes.idle (hu : u.agenda = []) (hc : u.hpt.causes = u.causesNow) (hn : handle n u = u) :
    State.takes [n] u u 1 := by
  have h := State.takes.quiet (n := n) hu (by rw [hn]; exact hu)
  rwa [hn, State.latch_current u hc] at h

theorem State.takes.idle_all (hu : u.agenda = []) (hc : u.hpt.causes = u.causesNow)
    (hn : ∀ n ∈ ns, handle n u = u) : State.takes ns u u ns.length := by
  induction ns with
  | nil => exact State.takes.refl hu
  | cons n ns ih =>
    exact (State.takes.idle hu hc (hn n List.mem_cons_self)).append (ih fun m hm => hn m (List.mem_cons_of_mem _ hm))

theorem settle_of_takes (h : State.takes ns u.latch v k) (hk : k ≤ 100000) : settle (u.posts ns) = v := by
  have hrun : (u.latch.posts ns).run 100000 = v := by
    have hm := h.2.2 (100000 - k) []
    rw [Nat.sub_add_cancel hk, List.append_nil, State.posts_nil, State.run_quiet _ _ h.2.1] at hm
    exact hm
  have hset : settle (u.posts ns) = ((u.latch.posts ns).run 100000).setAgenda [] := rfl
  rw [hset, hrun, State.setAgenda, ← h.2.1]

end

/-! ### Changes of links and sequences alone (R36, R43) -/

/-- An entry but for its sequence. -/
def MirrorEntry.unsequenced (e : MirrorEntry) : MirrorEntry := { e with seq := 0 }

/-- `t` is `s` but for link `i` and the sequences of the mirror. -/
structure LineOnly (i : Nat) (s t : State) : Prop where
  same : t = { s with links := t.links, mirror := t.mirror }
  mirror : t.mirror.map MirrorEntry.unsequenced = s.mirror.map MirrorEntry.unsequenced
  other : ∀ j, j ≠ i → t.links[j]? = s.links[j]?

theorem els_of_unsequenced {l m : List MirrorEntry} (h : l.map MirrorEntry.unsequenced = m.map MirrorEntry.unsequenced) :
    l.map (·.el) = m.map (·.el) := by
  have hel := congrArg (List.map MirrorEntry.el) h
  rwa [List.map_map, List.map_map] at hel

section
variable {s t u : State} {i el : Nat} {l : LinkRec} {e : MirrorEntry}

theorem LineOnly.refl (i : Nat) (s : State) : LineOnly i s s := ⟨rfl, rfl, fun _ _ => rfl⟩

theorem LineOnly.trans (h : LineOnly i s t) (h' : LineOnly i t u) : LineOnly i s u := by
  refine ⟨?_, h'.mirror.trans h.mirror, fun j hj => (h'.other j hj).trans (h.other j hj)⟩
  rw [h'.same, h.same]

theorem LineOnly.nodup (h : LineOnly i s t) (hn : (s.mirror.map (·.el)).Nodup) : (t.mirror.map (·.el)).Nodup :=
  els_of_unsequenced h.mirror ▸ hn

theorem LineOnly.setLink (i : Nat) (l : LinkRec) (s : State) : LineOnly i s (s.setLink i l) :=
  ⟨rfl, rfl, fun _ hj => State.setLink_other (Ne.symm hj)⟩

theorem State.entry?_of_mem (hn : (s.mirror.map (·.el)).Nodup) (he : e ∈ s.mirror) : s.entry? e.el = some e := by
  refine List.find?_eq_some_iff_append.mpr ⟨beq_self_eq_true _, ?_⟩
  obtain ⟨pre, post, hsplit⟩ := List.append_of_mem he
  refine ⟨pre, post, hsplit, fun x hx => ?_⟩
  rw [hsplit, List.map_append, List.map_cons, List.nodup_append] at hn
  obtain ⟨-, -, hdis⟩ := hn
  simpa using hdis x.el (List.mem_map_of_mem hx) e.el List.mem_cons_self

theorem LineOnly.setSeq (i q : Nat) (hn : (s.mirror.map (·.el)).Nodup) (he : e ∈ s.mirror) :
    LineOnly i s (s.setEntry { e with seq := q }) := by
  refine ⟨rfl, ?_, fun _ _ => rfl⟩
  simp only [State.setEntry, List.map_map]
  refine List.map_congr_left fun x hx => ?_
  simp only [Function.comp_apply]
  split
  · next hel =>
    have hsame : x = e := Option.some.inj
      ((State.entry?_of_mem hn hx).symm.trans ((congrArg s.entry? hel).trans (State.entry?_of_mem hn he)))
    rw [hsame]
    rfl
  · rfl

theorem State.mem_of_entry? (h : s.entry? el = some e) : e ∈ s.mirror := List.mem_of_find?_eq_some h

theorem LineOnly.choose (hn : (s.mirror.map (·.el)).Nodup) (i : Nat) (l : LinkRec) : LineOnly i s (s.choose i l) := by
  unfold State.choose
  split
  · exact .setLink ..
  · split
    · exact .setLink ..
    · split
      · split
        · next he => exact (LineOnly.setSeq i _ hn (State.mem_of_entry? he)).trans (.setLink ..)
        · exact .setLink ..
      · split
        · exact .refl ..
        · split
          · exact .setLink ..
          · exact .refl ..

theorem LineOnly.kick (hn : (s.mirror.map (·.el)).Nodup) (i : Nat) : LineOnly i s (s.kick i) := by
  unfold State.kick
  split
  · exact .refl ..
  · split
    · exact .choose hn ..
    · exact .refl ..

theorem LineOnly.poll (hn : (s.mirror.map (·.el)).Nodup) (i el : Nat) : LineOnly i s (s.poll i el) := by
  unfold State.poll
  split
  · exact .refl ..
  · split
    · exact (LineOnly.setLink i _ s).trans (.kick (s := s.setLink i _) hn i)
    · exact .refl ..

theorem LineOnly.pollSweep (hn : (s.mirror.map (·.el)).Nodup) (i : Nat) : LineOnly i s (s.pollSweep i) :=
  foldl_preserves (P := LineOnly i s) (fun _ el h => h.trans (.poll (h.nodup hn) i el)) _ (.refl ..)

end

/-! ### The polls of a link that becomes UP (R30, R36) -/

/-- R36: a link `base` whose elements in `es` have been polled: each awaits its poll or is being polled. -/
def LinkRec.swept (es : List MirrorEntry) (base x : LinkRec) : Prop :=
  { x with polls := [], sender := none } = base ∧
    ∀ e ∈ es, e.el ∈ x.polls ∨ ∃ q left, x.sender = some { what := .poll e.el e.addr q, left := left }

section
variable {s : State} {i : Nat} {l : LinkRec}

theorem State.setLink_self (h : s.links[i]? = some l) : s.setLink i l = s := by
  obtain ⟨hlt, hget⟩ := List.getElem?_eq_some_iff.mp h
  rw [State.setLink, ← hget, List.set_getElem_self]

/-- R30: while the transmitter is busy the polls only gather. -/
theorem State.foldl_poll_busy {els : List Nat} (h : s.links[i]? = some l) (ho : l.open) (hb : l.sender ≠ none)
    (hn : (l.polls ++ els).Nodup) :
    els.foldl (fun s el => s.poll i el) s = s.setLink i { l with polls := l.polls ++ els } := by
  induction els generalizing s l with
  | nil =>
    rw [List.append_nil]
    exact (State.setLink_self h).symm
  | cons el els ih =>
    have hel : el ∉ l.polls := fun hin => (List.nodup_append.mp hn).2.2 el hin el List.mem_cons_self rfl
    have hstep : s.poll i el = s.setLink i { l with polls := l.polls ++ [el] } :=
      (State.poll_appends h ho hel).trans (State.kick_setLink_busy (m := { l with polls := l.polls ++ [el] }) hb s)
    rw [List.foldl_cons, hstep, ih (l := { l with polls := l.polls ++ [el] }) (State.setLink_at h) ho hb
      (by rwa [List.append_assoc]), State.setLink_setLink]
    simp only [List.append_assoc, List.cons_append, List.nil_append]

/-- R30: an idle link takes its first poll at once. -/
theorem State.poll_idle {e : MirrorEntry} (h : s.links[i]? = some l) (ho : l.open) (hs : l.sender = none)
    (hp : l.polls = []) (ht : l.tx = []) (he : s.entry? e.el = some e) : ∃ (u : State) (q : Nat) (left : List Byte),
      u.links = s.links ∧
        s.poll i e.el = u.setLink i { l with sender := some { what := .poll e.el e.addr q, left := left } } := by
  have hsafety : takeClass .safety l.tx = none := by rw [ht]; rfl
  have hcontrol : takeClass .control l.tx = none := by rw [ht]; rfl
  have hadds : s.poll i e.el = (s.setLink i { l with polls := [e.el] }).kick i := by
    rw [State.poll_appends h ho (by rw [hp]; exact List.not_mem_nil), hp, List.nil_append]
  have hkick := State.kick_chooses (l := { l with polls := [e.el] }) (State.setLink_at h) hs ho
  have hchoose := State.choose_poll (s := s.setLink i { l with polls := [e.el] }) (i := i)
    (l := { l with polls := [e.el] }) hsafety hcontrol rfl he
  refine ⟨s.setEntry { e with seq := (e.seq + 1) % 256 }, (e.seq + 1) % 256,
    (Sending.poll e.el e.addr ((e.seq + 1) % 256)).telegram.characters, rfl, ?_⟩
  rw [hadds, hkick, hchoose]
  simp only [State.setLink, State.setEntry, List.set_set, hp]

/-- R36: an idle link that has just opened polls every one of its elements. -/
theorem State.pollSweep_swept (h : s.links[i]? = some l) (ho : l.open) (hs : l.sender = none) (hp : l.polls = [])
    (ht : l.tx = []) (hn : (s.mirror.map (·.el)).Nodup) : ∃ x, (s.pollSweep i).links[i]? = some x ∧
      LinkRec.swept (s.mirror.filter (fun e => e.link == i)) l x := by
  have hbase : { l with polls := [], sender := none } = l := by rw [← hs, ← hp]
  unfold State.pollSweep
  cases hm : s.mirror.filter (fun e => e.link == i) with
  | nil => exact ⟨l, h, hbase, fun e he => absurd he List.not_mem_nil⟩
  | cons e rest =>
    have he : e ∈ s.mirror := (List.mem_filter.mp (hm ▸ List.mem_cons_self)).1
    obtain ⟨u, q, left, hu, hfirst⟩ := State.poll_idle h ho hs hp ht (State.entry?_of_mem hn he)
    have hat : (s.poll i e.el).links[i]? =
        some { l with sender := some { what := .poll e.el e.addr q, left := left } } := by
      rw [hfirst]
      exact State.setLink_at (hu ▸ h)
    have hsub : (rest.map (·.el)).Sublist (s.mirror.map (·.el)) := by
      refine List.Sublist.map _ ?_
      exact (List.sublist_cons_self e rest).trans (hm ▸ List.filter_sublist)
    have hrest := State.foldl_poll_busy (els := rest.map (·.el)) hat ho (Option.some_ne_none _)
      (by rw [hp, List.nil_append]; exact hn.sublist hsub)
    rw [List.map_cons, List.foldl_cons, hrest]
    refine ⟨_, State.setLink_at hat, hbase, fun x hx => ?_⟩
    rcases List.mem_cons.mp hx with rfl | hx
    · exact .inr ⟨q, left, rfl⟩
    · exact .inl (List.mem_append_right _ (List.mem_map_of_mem hx))

end

/-! ### All links move (R36) -/

/-- `t` is `s` with the links `is` moved as `r` says, the notices `ns` posted, and the sequences of the mirror used. -/
structure LinesMove (r : Nat → Option LinkRec → Option LinkRec → Prop) (is : List Nat) (ns : List Notice)
    (s t : State) : Prop where
  same : t = { s with links := t.links, mirror := t.mirror, agenda := s.agenda ++ ns }
  mirror : t.mirror.map MirrorEntry.unsequenced = s.mirror.map MirrorEntry.unsequenced
  other : ∀ j, j ∉ is → t.links[j]? = s.links[j]?
  moved : ∀ i ∈ is, r i s.links[i]? t.links[i]?

section
variable {r : Nat → Option LinkRec → Option LinkRec → Prop} {act : State → Nat → State} {s t u : State} {i : Nat}
  {is : List Nat} {ns ms : List Notice}

theorem LinesMove.refl (r : Nat → Option LinkRec → Option LinkRec → Prop) (s : State) : LinesMove r [] [] s s := by
  refine ⟨?_, rfl, fun _ _ => rfl, nofun⟩
  rw [List.append_nil]

theorem LinesMove.of_line (h : LineOnly i (s.posts ns) t) (hr : r i s.links[i]? t.links[i]?) : LinesMove r [i] ns s t := by
  refine ⟨?_, h.mirror, fun j hj => h.other j (by simpa using hj), fun j hj => ?_⟩
  · rw [h.same]
    rfl
  · obtain rfl := List.mem_singleton.mp hj
    exact hr

theorem LinesMove.cons (h : LinesMove r [i] ns s t) (h' : LinesMove r is ms t u) (hi : i ∉ is) :
    LinesMove r (i :: is) (ns ++ ms) s u := by
  refine ⟨?_, h'.mirror.trans h.mirror, fun j hj => ?_, fun j hj => ?_⟩
  · rw [h'.same, h.same, ← List.append_assoc]
  · obtain ⟨hji, hjs⟩ := not_or.mp fun h => hj (List.mem_cons.mpr h)
    exact (h'.other j hjs).trans (h.other j (by simpa using hji))
  · rcases List.mem_cons.mp hj with rfl | hj
    · rw [h'.other _ hi]
      exact h.moved _ List.mem_cons_self
    · have hne : j ∉ [i] := by
        rw [List.mem_singleton]
        exact fun hji => hi (hji ▸ hj)
      rw [← h.other j hne]
      exact h'.moved j hj

/-- Each link moves by itself, so a pass over the links moves them all. -/
theorem LinesMove.pass {note : Nat → Option LinkRec → List Notice} {m : List MirrorEntry}
    (hact : ∀ (s : State) (i : Nat), s.mirror.map MirrorEntry.unsequenced = m → s.lds = u.lds →
      LinesMove r [i] (note i s.links[i]?) s (act s i))
    (hn : is.Nodup) (hm : s.mirror.map MirrorEntry.unsequenced = m) (hl : s.lds = u.lds) :
    LinesMove r is (is.flatMap (fun i => note i s.links[i]?)) s (is.foldl act s) := by
  induction is generalizing s with
  | nil => exact .refl ..
  | cons i is ih =>
    obtain ⟨hi, hn⟩ := List.nodup_cons.mp hn
    have hstep := hact s i hm hl
    have hlds : (act s i).lds = u.lds := (congrArg State.lds hstep.same).trans hl
    have hrest := ih hn (hstep.mirror.trans hm) hlds
    have hnote : is.flatMap (fun j => note j (act s i).links[j]?) = is.flatMap (fun j => note j s.links[j]?) := by
      refine flatMap_congr_mem fun j hj => ?_
      have hne : j ∉ [i] := by
        rw [List.mem_singleton]
        exact fun hji => hi (hji ▸ hj)
      rw [hstep.other j hne]
    rw [hnote] at hrest
    exact hstep.cons hrest hi

end

end Sys2Proof.Machine
end

section
/-! SUPPORT. The link losses raised at LD_COMMIT and WARM_RESTART. -/
namespace Sys2Proof.Machine

/-! ### Incidents that hand nothing over (R146 to R149) -/

/-- An incident that neither holds, isolates nor spans a station. -/
def Incident.silent (x : Incident) : Prop := x.hold = false ∧ x.isolate = false ∧ x.span = none

section
variable {s b : State} {autos : List Incident} {next i : Nat} {h : HostPort}

theorem State.effectiveAt_silent {x : Incident} (hx : x.silent) : s.effectiveAt x i = false := by
  obtain ⟨-, -, hspan⟩ := hx
  simp only [State.effectiveAt, hspan]

/-- The unit with more incidents in its table. -/
def State.withAutos (b : State) (autos : List Incident) (next : Nat) (h : HostPort) : State :=
  { b with inc := { b.inc with table := b.inc.table ++ autos, next := next }, hpt := h }

theorem State.withAutos_heldSet (ha : ∀ x ∈ autos, x.silent) : (b.withAutos autos next h).heldSet = b.heldSet := by
  refine congrArg (numbersBelow b.stationCount) (funext fun i => ?_)
  have hnone : autos.any (fun x => x.standing && x.hold && (b.withAutos autos next h).effectiveAt x i) = false := by
    rw [List.any_eq_false]
    intro x hx
    rw [State.effectiveAt_silent (ha x hx), Bool.and_false]
    exact Bool.false_ne_true
  exact (List.any_append ..).trans (by rw [hnone, Bool.or_false]; rfl)

theorem State.withAutos_demandSet (ha : ∀ x ∈ autos, x.silent) : (b.withAutos autos next h).demandSet = b.demandSet := by
  refine congrArg (numbersBelow b.sectCount) (funext fun i => ?_)
  have hnone : autos.any (fun x => x.standing && x.isolate && x.sects.contains i) = false := by
    rw [List.any_eq_false]
    intro x hx
    obtain ⟨-, hisolate, -⟩ := ha x hx
    rw [hisolate, Bool.and_false, Bool.false_and]
    exact Bool.false_ne_true
  exact (List.any_append ..).trans (by rw [hnone, Bool.or_false])

theorem State.withAutos_incidentLayer (ha : ∀ x ∈ autos, x.silent) (i : Nat) :
    (b.withAutos autos next h).incidentLayer i = b.incidentLayer i := by
  have hnone : autos.filter
      (fun x => x.standing && x.ann.isSome && (b.withAutos autos next h).effectiveAt x i) = [] := by
    rw [List.filter_eq_nil_iff]
    intro x hx
    rw [State.effectiveAt_silent (ha x hx), Bool.and_false]
    exact Bool.false_ne_true
  refine congrArg (fun l => (chooseIncident l).bind (·.ann)) ?_
  exact (List.filter_append ..).trans (by rw [hnone, List.append_nil]; rfl)

theorem State.withAutos_handOvers (ha : ∀ x ∈ autos, x.silent) :
    (b.withAutos autos next h).handOvers = b.handOvers := by
  unfold State.handOvers
  rw [State.withAutos_heldSet ha, State.withAutos_demandSet ha]
  simp only [State.withAutos_incidentLayer ha]
  rfl

end

/-! ### The host port while link states are reported and link losses are raised (R176, R178) -/

/-- R178: the causes are judged again and the flags take what has appeared. -/
theorem State.latch_open {u : State} {old : Causes} {f : Conditions} (hl : u.causesNow.linkFault = old.linkFault)
    (hp : u.causesNow.powerAlert = old.powerAlert) : f.latch old u.causesNow =
      { f with incidentOpen := f.incidentOpen || (u.causesNow.incidentOpen && !old.incidentOpen) } := by
  simp only [Conditions.latch, hl, hp, Bool.and_not_self, Bool.or_false]

/-- What a report does to the host port. -/
theorem State.report_cases (k : ReportKind) (x : Option Subject) (d1 d2 : Option Nat) (s : State) :
    (s.hpt.classMask ≠ ClassMask.none ∧ s.report k x d1 d2 = s) ∨
    (s.hpt.reports.length < 64 ∧ s.report k x d1 d2 = { s with hpt := { s.hpt with reports := s.hpt.reports ++
      [{ kind := k, time := s.clock.time, subject := x, detail1 := d1, detail2 := d2 }] } }) ∨
    (64 ≤ s.hpt.reports.length ∧
      s.report k x d1 d2 = { s with hpt := { s.hpt with flags := { s.hpt.flags with reportOverflow := true } } }) := by
  by_cases hm : s.hpt.classMask.masks k = true
  · refine .inl ⟨fun hn => ?_, State.report_masked k x d1 d2 s hm⟩
    rw [hn] at hm
    cases k <;> exact absurd hm Bool.false_ne_true
  · refine .inr ?_
    unfold State.report
    rw [if_neg hm]
    by_cases hl : s.hpt.reports.length < 64
    · exact .inl ⟨hl, if_pos hl⟩
    · exact .inr ⟨Nat.not_lt.mp hl, if_neg hl⟩

section
variable (k : ReportKind) (x : Option Subject) (d1 d2 : Option Nat) (s : State)

theorem State.report_onlyHost : s.report k x d1 d2 = { s with hpt := (s.report k x d1 d2).hpt } := by
  rcases State.report_cases k x d1 d2 s with ⟨-, he⟩ | ⟨-, he⟩ | ⟨-, he⟩ <;> rw [he]

theorem State.report_judged : (s.report k x d1 d2).hpt.causes = s.hpt.causes ∧
    (s.report k x d1 d2).hpt.flags.incidentOpen = s.hpt.flags.incidentOpen := by
  rcases State.report_cases k x d1 d2 s with ⟨-, he⟩ | ⟨-, he⟩ | ⟨-, he⟩ <;> rw [he] <;> exact ⟨rfl, rfl⟩

end

/-- A report kind of this pass: LINK_STATE, or INCIDENT_RAISED. -/
def ReportKind.ofPass (k : ReportKind) : Prop := k = .linkState ∨ k = .incidentRaised

/-- The LINK_STATE reports of a queue. -/
def linkStates (l : List Report) : List Report := l.filter (fun r => r.kind == .linkState)

/-- `h` is `b` with at most `n` more reports, the LINK_STATE reports `rs` among them; `q` says that the incident table has
had room. -/
structure HostGrown (b h : HostPort) (rs : List Report) (n : Nat) (q : Prop) : Prop where
  same : h = { b with reports := h.reports, flags := h.flags, causes := h.causes }
  reports : ∃ rest, h.reports = b.reports ++ rest ∧ rest.length ≤ n ∧ (∀ r ∈ rest, r.kind.ofPass) ∧
    (linkStates rest).Sublist rs ∧ (b.classMask = ClassMask.none → b.reports.length + n ≤ 64 → linkStates rest = rs)
  flags : b.reports.length + n ≤ 64 → q → h.flags = { b.flags with incidentOpen := h.flags.incidentOpen }

section
variable {b h : HostPort} {rs : List Report} {n : Nat} {q : Prop}

theorem HostGrown.refl (b : HostPort) (q : Prop) : HostGrown b b [] 0 q where
  same := rfl
  reports :=
    ⟨[], (List.append_nil _).symm, Nat.le_refl _, fun _ hx => absurd hx List.not_mem_nil, .refl _, fun _ _ => rfl⟩
  flags := fun _ _ => rfl

theorem HostGrown.weaken {q' : Prop} (hg : HostGrown b h rs n q) (hq : q' → q) : HostGrown b h rs n q' :=
  ⟨hg.same, hg.reports, fun hn hq' => hg.flags hn (hq hq')⟩

/-- R178: the incident cause and its flag may change. -/
theorem HostGrown.judged (hg : HostGrown b h rs n q) (o : Bool) (c : Causes) :
    HostGrown b { h with flags := { h.flags with incidentOpen := o }, causes := c } rs n q := by
  refine ⟨?_, hg.reports, fun hn hq => ?_⟩
  · rw [hg.same]
  · simp only
    rw [hg.flags hn hq]

theorem HostGrown.later (hg : HostGrown b h rs n q) : HostGrown b h rs (n + 1) q := by
  obtain ⟨rest, hrest, hlen, hkinds, hsub, hall⟩ := hg.reports
  exact ⟨hg.same, ⟨rest, hrest, Nat.le_succ_of_le hlen, hkinds, hsub, fun hm hn => hall hm (Nat.le_of_succ_le hn)⟩,
    fun hn => hg.flags (Nat.le_of_succ_le hn)⟩

/-- R134: an incident that finds no room is flagged. -/
theorem HostGrown.overflowed (hg : HostGrown b h rs n q) {q' : Prop} (hq : ¬ q') :
    HostGrown b { h with flags := { h.flags with incidentOverflow := true } } rs n q' := by
  refine ⟨?_, hg.reports, fun _ hq' => absurd hq' hq⟩
  rw [hg.same]

theorem linkStates_append (l m : List Report) : linkStates (l ++ m) = linkStates l ++ linkStates m := List.filter_append ..

/-- R176: one more report of the pass. -/
theorem HostGrown.report {u : State} {k : ReportKind} {x : Option Subject} {d1 d2 : Option Nat}
    (hg : HostGrown b u.hpt rs n q) (hk : k.ofPass) : HostGrown b (u.report k x d1 d2).hpt
      (rs ++ linkStates [{ kind := k, time := u.clock.time, subject := x, detail1 := d1, detail2 := d2 }]) (n + 1) q := by
  obtain ⟨rest, hrest, hlen, hkinds, hsub, hall⟩ := hg.reports
  have hmask : u.hpt.classMask = b.classMask := by rw [hg.same]
  have htotal : u.hpt.reports.length = b.reports.length + rest.length := by rw [hrest, List.length_append]
  have hnarrow {m : Nat} (hm : m + (n + 1) ≤ 64) : m + n ≤ 64 := by omega
  rcases State.report_cases k x d1 d2 u with ⟨hmasked, he⟩ | ⟨-, he⟩ | ⟨hfull, he⟩
  · rw [he]
    refine ⟨hg.same, ⟨rest, hrest, Nat.le_succ_of_le hlen, hkinds, hsub.trans (List.sublist_append_left ..),
      fun hnone => absurd (hmask.trans hnone) hmasked⟩, fun hn => hg.flags (hnarrow hn)⟩
  · rw [he]
    refine ⟨?_, ⟨rest ++ [_], (congrArg (· ++ [_]) hrest).trans (List.append_assoc ..), ?_, ?_, ?_, ?_⟩,
      fun hn => hg.flags (hnarrow hn)⟩
    · simp only
      rw [hg.same]
    · rw [List.length_append]
      exact Nat.succ_le_succ hlen
    · intro r hr
      rcases List.mem_append.mp hr with hr | hr
      · exact hkinds r hr
      · obtain rfl := List.mem_singleton.mp hr
        exact hk
    · rw [linkStates_append]
      exact hsub.append (.refl _)
    · intro hnone hn
      rw [linkStates_append, hall hnone (hnarrow hn)]
  · rw [he]
    have hover : ¬ b.reports.length + (n + 1) ≤ 64 := by omega
    refine ⟨?_, ⟨rest, hrest, Nat.le_succ_of_le hlen, hkinds, hsub.trans (List.sublist_append_left ..),
      fun _ hn => absurd hn hover⟩, fun hn => absurd hn hover⟩
    simp only
    rw [hg.same]

theorem HostGrown.raised {u : State} {x : Option Subject} {d1 d2 : Option Nat} (hg : HostGrown b u.hpt rs n q) :
    HostGrown b (u.report .incidentRaised x d1 d2).hpt rs (n + 1) q := by
  have h := hg.report (k := .incidentRaised) (x := x) (d1 := d1) (d2 := d2) (.inr rfl)
  rwa [linkStates, List.filter_cons_of_neg (by nofun), List.filter_nil, List.append_nil] at h

end

/-! ### The state after some link losses have been raised (R136, R137) -/

/-- How an incident of a link loss is read: its kind, its link and that it is open. -/
def Incident.mark (x : Incident) : IncKind × Option Nat × IncState := (x.kind, x.key, x.state)

/-- The mark of the loss of link `k`. -/
def lossMark (k : Nat) : IncKind × Option Nat × IncState := (.linkLoss, some k, .opened)

/-- `u` is `b` with the losses of the links `ks` raised and the LINK_STATE reports `rs` made, by `n` notices. -/
structure LossesRaised (b u : State) (ks : List Nat) (rs : List Report) (n : Nat) : Prop where
  same : ∃ autos, u = b.withAutos autos u.inc.next u.hpt ∧
    (∀ x ∈ autos, x.silent ∧ ∃ k ∈ ks, x.mark = lossMark k) ∧
    (b.inc.table.length + ks.length ≤ 32 → autos.map Incident.mark = ks.map lossMark)
  next : ks = [] → u.inc.next = b.inc.next
  host : HostGrown b.hpt u.hpt rs n (b.inc.table.length + ks.length ≤ 32)
  causes : u.hpt.causes = u.causesNow
  opened : b.hpt.flags.incidentOpen = b.hpt.causes.incidentOpen →
    u.hpt.flags.incidentOpen = u.hpt.causes.incidentOpen

section
variable {b u : State} {ks : List Nat} {rs : List Report} {n k : Nat}

theorem State.withAutos_setHost {autos : List Incident} (h : u = b.withAutos autos u.inc.next u.hpt) (p : HostPort) :
    { u with hpt := p } = b.withAutos autos u.inc.next p := congrArg (fun s : State => { s with hpt := p }) h

theorem LossesRaised.refl (hc : b.hpt.causes = b.causesNow) : LossesRaised b b [] [] 0 where
  same := by
    refine ⟨[], ?_, fun x hx => absurd hx List.not_mem_nil, fun _ => rfl⟩
    rw [State.withAutos, List.append_nil]
  next := fun _ => rfl
  host := .refl ..
  causes := hc
  opened := id

theorem LossesRaised.agenda (h : LossesRaised b u ks rs n) (hb : b.agenda = []) : u.agenda = [] := by
  obtain ⟨autos, hsame, -⟩ := h.same
  exact (congrArg State.agenda hsame).trans hb

/-- A LINK_STATE report on the way. -/
theorem LossesRaised.report {x : Option Subject} {d1 d2 : Option Nat} (h : LossesRaised b u ks rs n) :
    LossesRaised b (u.report .linkState x d1 d2) ks
      (rs ++ [{ kind := .linkState, time := u.clock.time, subject := x, detail1 := d1, detail2 := d2 }]) (n + 1) := by
  obtain ⟨autos, hsame, hautos, hmarks⟩ := h.same
  have hhost := h.host.report (u := u) (x := x) (d1 := d1) (d2 := d2) (.inl rfl : ReportKind.linkState.ofPass)
  have hincs := State.report_onlyHost .linkState x d1 d2 u
  obtain ⟨hcauses, hopen⟩ := State.report_judged .linkState x d1 d2 u
  refine ⟨⟨autos, ?_, hautos, hmarks⟩, ?_, hhost, ?_, ?_⟩
  · rw [hincs]
    exact State.withAutos_setHost hsame _
  · rw [hincs]
    exact h.next
  · rw [hcauses, h.causes, hincs]
    rfl
  · rw [hcauses, hopen]
    exact h.opened

/-- R178: before the causes are judged again, `u` as the losses `ks` leave it. -/
theorem LossesRaised.judge {v : State} {autos : List Incident} (hsame : v = b.withAutos autos v.inc.next v.hpt)
    (hautos : ∀ x ∈ autos, x.silent ∧ ∃ k ∈ ks, x.mark = lossMark k)
    (hmarks : b.inc.table.length + ks.length ≤ 32 → autos.map Incident.mark = ks.map lossMark)
    (hnext : ks = [] → v.inc.next = b.inc.next)
    (hhost : HostGrown b.hpt v.hpt rs n (b.inc.table.length + ks.length ≤ 32))
    (hfault : v.causesNow.linkFault = v.hpt.causes.linkFault) (hpower : v.causesNow.powerAlert = v.hpt.causes.powerAlert)
    (hopen : v.causesNow.incidentOpen = true)
    (hopened : b.hpt.flags.incidentOpen = b.hpt.causes.incidentOpen →
      v.hpt.flags.incidentOpen = v.hpt.causes.incidentOpen) : LossesRaised b v.latch ks rs n := by
  have hflags := State.latch_open (f := v.hpt.flags) hfault hpower
  refine ⟨⟨autos, State.withAutos_setHost hsame _, hautos, hmarks⟩, hnext, ?_, rfl, fun hb => ?_⟩
  · rw [State.latch_hpt, hflags]
    exact hhost.judged _ _
  · have hold := hopened hb
    rw [State.latch_hpt]
    simp only [hflags, hold, hopen, Bool.true_and]
    cases v.hpt.causes.incidentOpen <;> rfl

theorem State.autoFind_none {key : Nat} (h : ∀ x ∈ u.inc.table, x.kind ≠ .linkLoss ∨ x.key ≠ some key) :
    u.autoFind .linkLoss key = none := by
  refine List.find?_eq_none.mpr fun x hx hfound => ?_
  simp only [Bool.and_eq_true, beq_iff_eq] at hfound
  exact (h x hx).elim (fun hk => hk hfound.1) (fun hk => hk hfound.2)

/-- R137: one more link loss is raised; it hands nothing over. -/
theorem LossesRaised.loses (h : LossesRaised b u ks rs n) (hb : b.agenda = [])
    (hhost : ∀ x ∈ b.inc.table, x.kind ≠ .linkLoss) (hover : b.handOvers = []) (hk : k ∉ ks) :
    ∃ v j, State.takes [.raise .linkLoss k] u v j ∧ j ≤ 2 ∧ LossesRaised b v (ks ++ [k]) rs (n + 1) := by
  obtain ⟨autos, hsame, hautos, hmarks⟩ := h.same
  have hagenda := h.agenda hb
  have htable : u.inc.table = b.inc.table ++ autos := congrArg (fun s : State => s.inc.table) hsame
  have hfind : u.autoFind .linkLoss k = none := by
    refine State.autoFind_none fun x hx => ?_
    rw [htable] at hx
    rcases List.mem_append.mp hx with hx | hx
    · exact .inl (hhost x hx)
    · obtain ⟨-, k', hk', hmark⟩ := hautos x hx
      refine .inr fun hkey => hk ?_
      have hkk : some k' = some k := (congrArg (·.2.1) hmark).symm.trans hkey
      exact Option.some.inj hkk ▸ hk'
  have hmore : b.inc.table.length + (ks ++ [k]).length ≤ 32 → b.inc.table.length + ks.length ≤ 31 := by
    rw [List.length_append, List.length_singleton]
    omega
  have hsilent {xs : List Incident} (hxs : ∀ x ∈ xs, x.silent ∧ x.mark = lossMark k) :
      ∀ x ∈ autos ++ xs, x.silent ∧ ∃ j ∈ ks ++ [k], x.mark = lossMark j := by
    intro x hx
    rcases List.mem_append.mp hx with hx | hx
    · obtain ⟨hs, j, hj, hm⟩ := hautos x hx
      exact ⟨hs, j, List.mem_append_left _ hj, hm⟩
    · obtain ⟨hs, hm⟩ := hxs x hx
      exact ⟨hs, k, by simp, hm⟩
  by_cases hroom : u.inc.table.length < 32
  · let x := u.autoIncident .linkLoss k
    let v := (u.enter x).report .incidentRaised (some (.incident u.newNumber)) (some IncKind.linkLoss.code)
      (some IncKind.linkLoss.severity)
    have hraise : raise .linkLoss k u = v.post .deriveEffects := raise_enters hfind hroom
    have hhostOnly : v = { u.enter x with hpt := v.hpt } := State.report_onlyHost ..
    obtain ⟨hcauses, hopen⟩ : v.hpt.causes = u.hpt.causes ∧ v.hpt.flags.incidentOpen = u.hpt.flags.incidentOpen :=
      State.report_judged .incidentRaised _ _ _ (u.enter x)
    have hvagenda : v.agenda = [] := (congrArg State.agenda hhostOnly).trans hagenda
    have henter : u.enter x = b.withAutos (autos ++ [x]) (succNumber x.number) u.hpt :=
      (congrArg (State.enter x) hsame).trans (by simp only [State.enter, State.withAutos, List.append_assoc])
    have hvnext : v.inc.next = succNumber x.number := congrArg (fun s : State => s.inc.next) hhostOnly
    have hvtable : v.inc.table = u.inc.table ++ [x] := congrArg (fun s : State => s.inc.table) hhostOnly
    have hvsame : v = b.withAutos (autos ++ [x]) v.inc.next v.hpt := by
      rw [hvnext]
      exact hhostOnly.trans (congrArg (fun s : State => { s with hpt := v.hpt }) henter)
    have hall := hsilent (xs := [x]) fun y hy => by
      obtain rfl := List.mem_singleton.mp hy
      exact ⟨⟨rfl, rfl, rfl⟩, rfl⟩
    have hgrown : HostGrown b.hpt v.hpt rs (n + 1) (b.inc.table.length + (ks ++ [k]).length ≤ 32) :=
      (h.host.raised (u := u.enter x)).weaken fun hn => Nat.le_succ_of_le (hmore hn)
    have hjudged : LossesRaised b v.latch (ks ++ [k]) rs (n + 1) := by
      refine LossesRaised.judge hvsame hall (fun hn => ?_) (fun hn => absurd hn (by simp)) hgrown ?_ ?_ ?_ ?_
      · rw [List.map_append, List.map_append, hmarks (Nat.le_succ_of_le (hmore hn))]
        rfl
      · rw [hcauses, h.causes]
        exact (congrArg (fun s : State => s.links.any LinkRec.anyError) hhostOnly).trans rfl
      · rw [hcauses, h.causes]
        exact (congrArg (fun s : State => s.tsv.sects.any SectRec.alert) hhostOnly).trans rfl
      · refine List.any_eq_true.mpr ⟨x, ?_, rfl⟩
        rw [hvtable]
        exact List.mem_append_right _ List.mem_cons_self
      · rw [hcauses, hopen]
        exact h.opened
    have hposted : (handle (.raise .linkLoss k) u).agenda = [.deriveEffects] := by
      rw [handle, hraise, State.post_agenda, hvagenda]
      rfl
    have hcleared : ((handle (.raise .linkLoss k) u).setAgenda []).latch = v.latch := by
      rw [handle, hraise, State.post, State.setAgenda, ← hvagenda]
    have hidle : handle .deriveEffects v.latch = v.latch := by
      obtain ⟨autos', hsame', hautos', -⟩ := hjudged.same
      have hnothing : v.latch.handOvers = [] := by
        rw [hsame', State.withAutos_handOvers fun y hy => (hautos' y hy).1]
        exact hover
      rw [handle, deriveEffects, hnothing, State.posts_nil]
    refine ⟨v.latch, 2, State.takes.one hagenda hposted ?_, Nat.le_refl 2, hjudged⟩
    rw [hcleared]
    exact State.takes.idle (u := v.latch) hvagenda rfl hidle
  · have hfull : ¬ b.inc.table.length + (ks ++ [k]).length ≤ 32 := by
      intro hn
      have hlen := congrArg List.length (hmarks (by have := hmore hn; omega))
      rw [List.length_map, List.length_map] at hlen
      rw [htable, List.length_append, hlen] at hroom
      have := hmore hn
      omega
    have hraise : raise .linkLoss k u = u.flagIncidentOverflow := raise_full _ _ u hfind (Nat.not_lt.mp hroom)
    have htake := State.takes.quiet (n := .raise .linkLoss k) (u := u) hagenda (by
      rw [handle, hraise]
      exact hagenda)
    have hself : (handle (.raise .linkLoss k) u).latch = u.flagIncidentOverflow := by
      rw [handle, hraise]
      exact State.latch_current _ h.causes
    rw [hself] at htake
    refine ⟨_, 1, htake, by omega, ⟨autos, State.withAutos_setHost hsame _, ?_, fun hn => absurd hn hfull⟩,
      fun hn => absurd hn (by simp), ?_, h.causes, h.opened⟩
    · have hall := hsilent (xs := []) (fun x hx => absurd hx List.not_mem_nil)
      rwa [List.append_nil] at hall
    · exact h.host.later.overflowed hfull

/-- A notice of this pass. -/
def Notice.ofPass (n : Notice) : Prop := (∃ i old new, n = linkReport i old new) ∨ ∃ i, n = .raise .linkLoss i

/-- The links whose losses a list of notices raises. -/
def lossKeys (ns : List Notice) : List Nat :=
  ns.filterMap fun n => match n with
    | .raise _ k => some k
    | _ => none

/-- The LINK_STATE reports a list of notices makes at a line time. -/
def stateReports (time : Nat) (ns : List Notice) : List Report :=
  ns.filterMap fun n => match n with
    | .report k x d1 d2 => some { kind := k, time := time, subject := x, detail1 := d1, detail2 := d2 }
    | _ => none

/-- Every notice of the pass is taken, in order. -/
theorem LossesRaised.pass {ns : List Notice} (h : LossesRaised b u ks rs n) (hb : b.agenda = [])
    (hhost : ∀ x ∈ b.inc.table, x.kind ≠ .linkLoss) (hover : b.handOvers = []) (hns : ∀ m ∈ ns, m.ofPass)
    (hnodup : (ks ++ lossKeys ns).Nodup) : ∃ v j, State.takes ns u v j ∧ j ≤ 2 * ns.length ∧
      LossesRaised b v (ks ++ lossKeys ns) (rs ++ stateReports b.clock.time ns) (n + ns.length) := by
  induction ns generalizing u ks rs n with
  | nil =>
    refine ⟨u, 0, State.takes.refl (h.agenda hb), Nat.le_refl 0, ?_⟩
    rwa [lossKeys, stateReports, List.filterMap_nil, List.filterMap_nil, List.append_nil, List.append_nil]
  | cons m ns ih =>
    have hrest := fun x hx => hns x (List.mem_cons_of_mem _ hx)
    have hcount : n + (m :: ns).length = n + 1 + ns.length := by rw [List.length_cons]; omega
    rcases hns m List.mem_cons_self with ⟨i, old, new, rfl⟩ | ⟨i, rfl⟩
    · have hstep := h.report (x := some (.link i)) (d1 := some old.code) (d2 := some new.code)
      have htake := State.takes.quiet (n := linkReport i old new) (h.agenda hb) (hstep.agenda hb)
      have hself : (handle (linkReport i old new) u).latch = handle (linkReport i old new) u :=
        State.latch_current _ hstep.causes
      have htime : u.clock.time = b.clock.time := by
        obtain ⟨autos, hsame, -⟩ := h.same
        exact (congrArg (fun s : State => s.clock.time) hsame).trans rfl
      rw [hself] at htake
      obtain ⟨v, j, hv, hj, hl⟩ := ih hstep hrest hnodup
      refine ⟨v, j + 1, htake.append hv, by rw [List.length_cons]; omega, ?_⟩
      rw [hcount]
      rw [List.append_assoc, htime] at hl
      exact hl
    · have hk : i ∉ ks := fun hin => (List.nodup_append.mp hnodup).2.2 i hin i List.mem_cons_self rfl
      obtain ⟨w, j', hw, hj', hl'⟩ := h.loses hb hhost hover hk
      have hnodup' : ((ks ++ [i]) ++ lossKeys ns).Nodup := by
        rw [List.append_assoc]
        exact hnodup
      obtain ⟨v, j, hv, hj, hl⟩ := ih hl' hrest hnodup'
      refine ⟨v, j + j', hw.append hv, by rw [List.length_cons]; omega, ?_⟩
      rw [hcount]
      rw [List.append_assoc] at hl
      exact hl

end

end Sys2Proof.Machine
end

section
/-! SUPPORT. LD_COMMIT taken to its end: O23. -/
namespace Sys2Proof.Machine

/-! ### The links at a commit (R36) -/

/-- R36: what a used link posts at a commit: its move, and the loss of a link without carrier. -/
def commitNotes (rows : List (Option LinkCfg)) (i : Nat) (old : Option LinkRec) : List Notice :=
  match old, (rows[i]?).join with
  | some l, some _ =>
    if l.carrier then [linkReport i l.state .up] else [linkReport i l.state .down, .raise .linkLoss i]
  | _, _ => []

/-- R36: a link before and after a commit that builds the mirror `m`. -/
def commitMoves (rows : List (Option LinkCfg)) (m : List MirrorEntry) (i : Nat) (old new : Option LinkRec) : Prop :=
  ((rows[i]?).join = none → new = old) ∧
  ∀ c b, (rows[i]?).join = some c → old = some (LinkRec.reset b) → ∃ x, new = some x ∧
    LinkRec.swept (if b = true then m.filter (fun e => e.link == i) else [])
      { LinkRec.reset b with cfg := some c, state := if b = true then .up else .down } x ∧
    (b = false → x.polls = [] ∧ x.sender = none)

section
variable {rows : List (Option LinkCfg)} {m : List MirrorEntry} {s : State} {i : Nat} {l : LinkRec} {c : LinkCfg}

theorem commitNotes_unused (h : (rows[i]?).join = none) (old : Option LinkRec) : commitNotes rows i old = [] := by
  cases old <;> simp only [commitNotes, h]

theorem commitNotes_carrier (h : (rows[i]?).join = some c) (hc : l.carrier = true) :
    commitNotes rows i (some l) = [linkReport i l.state .up] := by
  simp only [commitNotes, h, hc, if_true]

theorem commitNotes_lost (h : (rows[i]?).join = some c) (hc : l.carrier = false) :
    commitNotes rows i (some l) = [linkReport i l.state .down, .raise .linkLoss i] := by
  simp only [commitNotes, h, hc, Bool.false_eq_true, if_false]

theorem State.commitLink_idle (h : s.links[i]? = none ∨ (s.linkRows[i]?).join = none) : s.commitLink i = s := by
  unfold State.commitLink
  split
  · next hl hr =>
    rcases h with h | h
    · exact absurd (h.symm.trans hl) nofun
    · exact absurd (h.symm.trans hr) nofun
  · rfl

theorem State.commitLink_carrier (h : s.links[i]? = some l) (hr : (s.linkRows[i]?).join = some c) (hc : l.carrier = true) :
    s.commitLink i =
      ((s.setLink i { l with cfg := some c, state := .up }).posts [linkReport i l.state .up]).pollSweep i := by
  simp only [State.commitLink, h, hr, hc, if_true]
  rfl

theorem State.commitLink_lost (h : s.links[i]? = some l) (hr : (s.linkRows[i]?).join = some c) (hc : l.carrier = false) :
    s.commitLink i = (s.setLink i { l with cfg := some c, state := .down }).posts
      [linkReport i l.state .down, .raise .linkLoss i] := by
  simp only [State.commitLink, h, hr, hc, Bool.false_eq_true, if_false]

/-- The sweep of a link in terms of the mirror without its sequences. -/
theorem LinkRec.swept.unsequenced {x y : LinkRec} (h : LinkRec.swept (s.mirror.filter (fun e => e.link == i)) x y)
    (hm : s.mirror.map MirrorEntry.unsequenced = m) : LinkRec.swept (m.filter (fun e => e.link == i)) x y := by
  obtain ⟨hbase, hpolled⟩ := h
  refine ⟨hbase, fun e he => ?_⟩
  obtain ⟨hmem, hlink⟩ := List.mem_filter.mp he
  rw [← hm] at hmem
  obtain ⟨e', he', rfl⟩ := List.mem_map.mp hmem
  exact hpolled e' (List.mem_filter.mpr ⟨he', hlink⟩)

theorem State.commitLink_moves (hm : s.mirror.map MirrorEntry.unsequenced = m) (hr : s.linkRows = rows)
    (hn : (m.map (·.el)).Nodup) :
    LinesMove (commitMoves rows m) [i] (commitNotes rows i s.links[i]?) s (s.commitLink i) := by
  have hnodup : (s.mirror.map (·.el)).Nodup := by
    have hels := congrArg (List.map MirrorEntry.el) hm
    rw [List.map_map] at hels
    exact hels ▸ hn
  subst hr
  cases hrow : (s.linkRows[i]?).join with
  | none =>
    rw [State.commitLink_idle (.inr hrow), commitNotes_unused hrow]
    refine LinesMove.of_line (ns := []) ?_ ⟨fun _ => rfl, fun c b h => absurd (hrow.symm.trans h) nofun⟩
    rw [State.posts_nil]
    exact .refl ..
  | some c =>
    cases hl : s.links[i]? with
    | none =>
      rw [State.commitLink_idle (.inl hl)]
      refine LinesMove.of_line (ns := []) ?_ ⟨fun _ => rfl, fun c b _ h => absurd (hl.symm.trans h) nofun⟩
      rw [State.posts_nil]
      exact .refl ..
    | some l =>
      cases hc : l.carrier with
      | true =>
        rw [commitNotes_carrier hrow hc, State.commitLink_carrier hl hrow hc]
        let u := (s.setLink i { l with cfg := some c, state := .up }).posts [linkReport i l.state .up]
        have hat : u.links[i]? = some { l with cfg := some c, state := .up } := State.setLink_at hl
        have hline : LineOnly i (s.posts [linkReport i l.state .up]) u :=
          LineOnly.setLink i _ (s.posts [linkReport i l.state .up])
        refine LinesMove.of_line (hline.trans (.pollSweep (s := u) hnodup i)) ⟨fun h => absurd (hrow.symm.trans h) nofun, ?_⟩
        intro c' b hrow' hold
        obtain rfl := Option.some.inj (hrow.symm.trans hrow')
        obtain rfl := Option.some.inj (hl.symm.trans hold)
        obtain rfl : b = true := hc
        obtain ⟨x, hx, hswept⟩ := State.pollSweep_swept hat (.inl rfl) rfl rfl rfl hnodup
        exact ⟨x, hx, hswept.unsequenced hm, nofun⟩
      | false =>
        rw [commitNotes_lost hrow hc, State.commitLink_lost hl hrow hc]
        let ns : List Notice := [linkReport i l.state .down, .raise .linkLoss i]
        have hat : ((s.setLink i { l with cfg := some c, state := .down }).posts ns).links[i]? =
            some { l with cfg := some c, state := .down } := State.setLink_at hl
        have hline : LineOnly i (s.posts ns) ((s.setLink i { l with cfg := some c, state := .down }).posts ns) :=
          LineOnly.setLink i _ (s.posts ns)
        refine LinesMove.of_line hline ⟨fun h => absurd (hrow.symm.trans h) nofun, ?_⟩
        intro c' b hrow' hold
        obtain rfl := Option.some.inj (hrow.symm.trans hrow')
        obtain rfl := Option.some.inj (hl.symm.trans hold)
        obtain rfl : b = false := hc
        exact ⟨_, hat, ⟨rfl, fun e he => absurd he List.not_mem_nil⟩, fun _ => ⟨rfl, rfl⟩⟩

end

/-! ### What the links post, all together -/

section
variable {rows : List (Option LinkCfg)} {old : Option LinkRec} {i : Nat}

theorem commitNotes_ofPass : ∀ n ∈ commitNotes rows i old, n.ofPass := by
  unfold commitNotes
  split
  · split
    · simp only [List.mem_cons, List.not_mem_nil, or_false, forall_eq]
      exact .inl ⟨i, _, _, rfl⟩
    · simp only [List.mem_cons, List.not_mem_nil, or_false, forall_eq_or_imp, forall_eq]
      exact ⟨.inl ⟨i, _, _, rfl⟩, .inr ⟨i, rfl⟩⟩
  · exact fun n hn => absurd hn List.not_mem_nil

theorem commitNotes_length : (commitNotes rows i old).length ≤ 2 := by
  unfold commitNotes
  split
  · split <;> simp
  · simp

/-- R36: the links that a commit leaves without carrier. -/
theorem lossKeys_commitNotes : lossKeys (commitNotes rows i old) =
    (Option.guard (fun i => ((rows[i]?).join).isSome && old.any (fun l => !l.carrier)) i).toList := by
  cases old with
  | none => simp [commitNotes, lossKeys, Option.guard]
  | some l =>
    cases hr : (rows[i]?).join with
    | none => simp [commitNotes, lossKeys, Option.guard, hr]
    | some c =>
      cases hc : l.carrier with
      | true => rw [commitNotes_carrier hr hc]; simp [Option.guard, hr, hc]; rfl
      | false => rw [commitNotes_lost hr hc]; simp [Option.guard, hr, hc]; rfl

theorem lossKeys_flatMap (f : Nat → List Notice) (is : List Nat) :
    lossKeys (is.flatMap f) = is.flatMap (fun i => lossKeys (f i)) := List.filterMap_flatMap

theorem stateReports_flatMap (time : Nat) (f : Nat → List Notice) (is : List Nat) :
    stateReports time (is.flatMap f) = is.flatMap (fun i => stateReports time (f i)) := List.filterMap_flatMap

theorem flatMap_guard_toList (p : Nat → Bool) (is : List Nat) :
    is.flatMap (fun i => (Option.guard p i).toList) = is.filter p := by
  rw [← filterMap_eq_flatMap, ← List.filterMap_eq_filter]

theorem length_flatMap_le {f : Nat → List Notice} {m : Nat} (h : ∀ i, (f i).length ≤ m) (is : List Nat) :
    (is.flatMap f).length ≤ m * is.length := by
  induction is with
  | nil => simp
  | cons i is ih =>
    rw [List.flatMap_cons, List.length_append, List.length_cons, Nat.mul_succ]
    have := h i
    omega

end

/-! ### The derivation of sections with unknown breakers (R112) -/

section
variable {s : State} {j el : Nat}

theorem State.breaker?_unknown (h : ∀ e ∈ s.mirror, e.state = .unknown) (el : Nat) : s.breaker? el = none := by
  unfold State.breaker?
  split
  · next e he => rw [if_pos (h e (State.mem_of_entry? he))]
  · rfl

theorem State.values_unknown {els : List Nat} (h : ∀ e ∈ s.mirror, e.state = .unknown) (hne : els ≠ []) :
    s.values els = none := by
  obtain ⟨el, els, rfl⟩ := List.exists_cons_of_ne_nil hne
  rw [State.values, List.mapM_cons, State.breaker?_unknown h]
  rfl

theorem State.feedersOf_ne (hf : ∀ r ∈ s.tsv.sects, r.feeders ≠ []) (hj : j < s.tsv.sects.length) :
    s.feedersOf j ≠ [] := by
  have hsect : s.sect? j = some s.tsv.sects[j] := List.getElem?_eq_getElem hj
  rw [State.feedersOf, hsect]
  exact hf _ (List.getElem_mem hj)

/-- R112: with every breaker unknown nothing is derived. -/
theorem derive_unknown (h : ∀ e ∈ s.mirror, e.state = .unknown) (hf : ∀ r ∈ s.tsv.sects, r.feeders ≠ [])
    (hj : j < s.tsv.sects.length) : derive j s = s := by
  have heven : evenOf j < s.tsv.sects.length := Nat.lt_of_le_of_lt (Nat.mul_div_le j 2) hj
  have hnone : s.derived j = none := by
    unfold State.derived
    split
    · rw [State.values_unknown h (State.feedersOf_ne hf hj)]
      rfl
    · rw [State.values_unknown h (State.feedersOf_ne hf heven)]
      rfl
  unfold derive
  split
  · rw [hnone]
  · rfl

end

end Sys2Proof.Machine
end

section
/-! SUPPORT. O23: LD_COMMIT. -/
namespace Sys2Proof.Machine

/-! ### The unit as a commit builds it (R11) -/

/-- R11: the unit once every block but the links has built its records. -/
def State.commitBase (s : State) : State :=
  ((s.setLds { s.lds with service := .configured, committed := true }).serviceReport .unconfigured
    .configured).buildBlocks

/-- R11: what the host port holds once the commit has been reported. -/
def State.commitHost (s : State) : HostPort :=
  ((s.setLds { s.lds with service := .configured, committed := true }).serviceReport .unconfigured .configured).hpt

section
variable (s : State)

theorem State.commitBase_eq : s.commitBase =
    { s with lds := { s.lds with service := .configured, committed := true }, mirror := s.builtMirror,
             window := s.builtWindow,
             rgl := Regulator.cleared (some s.params.beta) (some s.params.threshold) s.sectCount,
             tsv := s.builtSupervisor, inc := IncidentMgr.cleared s.inc.next, anp := s.builtPublisher,
             hpt := s.commitHost } := by
  unfold State.commitBase State.commitHost State.serviceReport
  rw [State.report_onlyHost]
  rfl

theorem State.commitHost_replies : s.commitHost.replies = s.hpt.replies := State.report_hpt_replies ..

theorem State.commitHost_reports (hm : s.hpt.classMask = ClassMask.none) (hl : s.hpt.reports.length ≤ 47) :
    s.commitHost.classMask = ClassMask.none ∧ s.commitHost.reports = s.hpt.reports ++
      [{ kind := .serviceState, time := s.clock.time, subject := none, detail1 := some 0, detail2 := some 1 }] := by
  let u := s.setLds { s.lds with service := .configured, committed := true }
  have hmask : u.hpt.classMask = ClassMask.none := hm
  have hlen : u.hpt.reports.length ≤ 47 := hl
  unfold State.commitHost State.serviceReport
  rcases State.report_cases .serviceState none (some ServiceState.unconfigured.code) (some ServiceState.configured.code) u
    with ⟨hno, -⟩ | ⟨-, he⟩ | ⟨hfull, -⟩
  · exact absurd hmask hno
  · rw [he]
    exact ⟨hmask, rfl⟩
  · omega

/-- The notices of a commit's links. -/
def State.commitLinkNotes : List Notice := (List.range 8).flatMap (fun i => commitNotes s.linkRows i s.links[i]?)

theorem State.commitLinkNotes_ofPass : ∀ n ∈ s.commitLinkNotes, n.ofPass := by
  intro n hn
  obtain ⟨i, -, hi⟩ := List.mem_flatMap.mp hn
  exact commitNotes_ofPass n hi

theorem State.commitLinkNotes_length : s.commitLinkNotes.length ≤ 16 :=
  length_flatMap_le (fun _ => commitNotes_length) (List.range 8)

/-- R36: the links that a commit finds without carrier. -/
theorem State.lossKeys_commitLinkNotes : lossKeys s.commitLinkNotes = (List.range 8).filter
    (fun i => ((s.linkRows[i]?).join).isSome && (s.links[i]?).any (fun l => !l.carrier)) := by
  rw [State.commitLinkNotes, lossKeys_flatMap]
  simp only [lossKeys_commitNotes]
  exact flatMap_guard_toList _ _

/-- The unit once the links have moved, before their notices are taken. -/
def State.withLines (s t : State) : State := { s with links := t.links, mirror := t.mirror }

end

/-! ### The commit runs out -/

section
variable {s : State} {tag : Byte}

theorem numbersBelow_none {n : Nat} {p : Nat → Bool} (h : ∀ i, p i = false) : numbersBelow n p = [] := by
  rw [numbersBelow, List.filter_eq_nil_iff]
  intro i _
  rw [h i]
  exact Bool.false_ne_true

/-- R146: an empty table hands nothing over. -/
theorem State.handOvers_cleared {n : Nat} (h : s.inc = IncidentMgr.cleared n) : s.handOvers = [] := by
  have hheld : s.heldSet = s.inc.lastHeld := by rw [State.heldSet, h]; exact numbersBelow_none fun _ => rfl
  have hdemand : s.demandSet = s.inc.lastDemand := by rw [State.demandSet, h]; exact numbersBelow_none fun _ => rfl
  have hlayer (i : Nat) : (s.incidentLayer i != s.lastContent i) = false := by
    rw [State.incidentLayer, State.lastContent, h]
    rfl
  rw [State.handOvers, if_pos hheld, if_pos hdemand, List.filter_eq_nil_iff.mpr]
  · rfl
  · intro i _
    rw [hlayer i]
    exact Bool.false_ne_true

/-- A LINK_STATE pass followed by derivations that find nothing. -/
theorem LossesRaised.run {u : State} {ns : List Notice} (hu : u.agenda = []) (hover : u.latch.handOvers = [])
    (hhost : ∀ x ∈ u.inc.table, x.kind ≠ .linkLoss) (hns : ∀ n ∈ ns, n.ofPass) (hn : (lossKeys ns).Nodup)
    (hlen : ns.length ≤ 16) (hm : ∀ e ∈ u.mirror, e.state = .unknown) (hf : ∀ r ∈ u.tsv.sects, r.feeders ≠ [])
    (hsects : u.tsv.sects.length ≤ 24) : ∃ v k,
      LossesRaised u.latch v (lossKeys ns) (stateReports u.clock.time ns) ns.length ∧
      State.takes (ns ++ (List.range u.tsv.sects.length).map .derive) u.latch v k ∧ k ≤ 100 := by
  have hstart := LossesRaised.refl (b := u.latch) rfl
  obtain ⟨v, j, hv, hj, hl⟩ := hstart.pass hu hhost hover hns (by rwa [List.nil_append])
  rw [List.nil_append, List.nil_append, Nat.zero_add] at hl
  obtain ⟨autos, hsame, -⟩ := hl.same
  have hmirror : v.mirror = u.mirror := (congrArg State.mirror hsame).trans rfl
  have htsv : v.tsv = u.tsv := (congrArg State.tsv hsame).trans rfl
  have hidle := State.takes.idle_all (ns := (List.range u.tsv.sects.length).map .derive) (hl.agenda hu) hl.causes
    fun n hn => by
      obtain ⟨j, hj, rfl⟩ := List.mem_map.mp hn
      exact derive_unknown (hmirror ▸ hm) (htsv ▸ hf) (htsv ▸ List.mem_range.mp hj)
  refine ⟨v, _, hl, hv.append hidle, ?_⟩
  rw [List.length_map, List.length_range]
  omega

/-- R36: the links move at a commit. -/
theorem State.commit_moves (s : State) :
    LinesMove (commitMoves s.linkRows (s.builtMirror.map MirrorEntry.unsequenced)) (List.range 8) s.commitLinkNotes
      s.commitBase ((List.range 8).foldl State.commitLink s.commitBase) := by
  have hbase := s.commitBase_eq
  have hnodup : ((s.builtMirror.map MirrorEntry.unsequenced).map (·.el)).Nodup := by
    rw [List.map_map]
    exact (builtMirror_els s).imp Nat.ne_of_lt
  have hrows : s.commitBase.linkRows = s.linkRows := by rw [hbase]; rfl
  have hpass := LinesMove.pass (r := commitMoves s.linkRows (s.builtMirror.map MirrorEntry.unsequenced))
    (act := State.commitLink) (s := s.commitBase) (u := s.commitBase) (note := commitNotes s.linkRows)
    (m := s.builtMirror.map MirrorEntry.unsequenced) (is := List.range 8)
    (fun t i hm hl => State.commitLink_moves hm ((congrArg (fun l : Lds => l.links.getD []) hl).trans hrows) hnodup)
    List.nodup_range (by rw [hbase]) rfl
  have hlinks : s.commitBase.links = s.links := by rw [hbase]
  rwa [hlinks] at hpass

/-- What the notices of a commit find: the unit as built, with its links moved. -/
theorem State.commit_found {C : State} {ns : List Notice} {r : Nat → Option LinkRec → Option LinkRec → Prop}
    {is : List Nat} (hmoves : LinesMove r is ns s.commitBase C) (hc : s.commitCheck = none) :
    (∀ e ∈ C.mirror, e.state = .unknown) ∧ ∀ r ∈ s.commitBase.tsv.sects, r.feeders ≠ [] := by
  have hbase := s.commitBase_eq
  constructor
  · intro e he
    have hmem : e.unsequenced ∈ s.commitBase.mirror.map MirrorEntry.unsequenced :=
      hmoves.mirror ▸ List.mem_map_of_mem he
    obtain ⟨e', he', heq⟩ := List.mem_map.mp hmem
    rw [hbase] at he'
    obtain ⟨r, k, -, -, hbuilt⟩ := s.mem_builtMirror.mp he'
    have hstate : e'.unsequenced.state = e.unsequenced.state := congrArg MirrorEntry.state heq
    have hunknown : e'.state = .unknown := by
      rw [hbuilt]
      rfl
    exact hstate.symm.trans hunknown
  · rw [hbase]
    intro r hr
    obtain ⟨row, hrow, rfl⟩ := List.mem_map.mp hr
    exact State.commitCheck_feeders hc row hrow

/-- The derivations, with their answer, behind what the links have posted. -/
theorem State.deriveAll_posts {C u : State} {ns : List Notice} (hC : C = u.posts ns) (n : Notice) :
    C.deriveAll.post n = u.posts ((ns ++ (List.range u.tsv.sects.length).map .derive) ++ [n]) := by
  rw [hC, State.deriveAll, State.posts_posts, State.posts_post]
  rfl

/-- R11, R36: a commit runs out: the links move, their losses are raised, and no section derives a state. -/
theorem State.commit_runs (ha : s.agenda = []) (hsects : s.sectCount ≤ 24) (hc : s.commitCheck = none) :
    ∃ C v : State,
      LinesMove (commitMoves s.linkRows (s.builtMirror.map MirrorEntry.unsequenced)) (List.range 8) s.commitLinkNotes
        s.commitBase C ∧
      LossesRaised (s.commitBase.withLines C).latch v (lossKeys s.commitLinkNotes)
        (stateReports s.clock.time s.commitLinkNotes) s.commitLinkNotes.length ∧
      settle (s.commit tag) = v.done tag [] := by
  have hbase := s.commitBase_eq
  have hmoves := s.commit_moves
  have hsettle : settle (s.commit tag) =
      settle ((((List.range 8).foldl State.commitLink s.commitBase).deriveAll).post (.answer tag (.done []))) := rfl
  generalize (List.range 8).foldl State.commitLink s.commitBase = C at hmoves hsettle
  obtain ⟨hunknown, hfeeders⟩ := State.commit_found hmoves hc
  have hagenda : s.commitBase.agenda = [] := by rw [hbase]; exact ha
  have hinc : s.commitBase.inc = IncidentMgr.cleared s.inc.next := by rw [hbase]
  have htime : s.commitBase.clock.time = s.clock.time := by rw [hbase]
  have hcount : s.commitBase.tsv.sects.length ≤ 24 := by
    rw [hbase]
    exact Nat.le_trans (Nat.le_of_eq (List.length_map ..)) hsects
  have hnodup : (lossKeys s.commitLinkNotes).Nodup := by
    rw [s.lossKeys_commitLinkNotes]
    exact List.nodup_range.filter _
  have hnone : ∀ x ∈ (s.commitBase.withLines C).inc.table, x.kind ≠ .linkLoss := by
    intro x hx
    have htable : (s.commitBase.withLines C).inc.table = [] := congrArg IncidentMgr.table hinc
    exact absurd (htable ▸ hx) List.not_mem_nil
  obtain ⟨v, k, hl, htakes, hk⟩ := LossesRaised.run (u := s.commitBase.withLines C) hagenda
    (State.handOvers_cleared (s := (s.commitBase.withLines C).latch) hinc) hnone s.commitLinkNotes_ofPass hnodup
    s.commitLinkNotes_length hunknown hfeeders hcount
  have hva := hl.agenda hagenda
  have hdone : (v.done tag []).latch = v.done tag [] := State.latch_current _ hl.causes
  have hrun := htakes.append (State.takes.quiet (n := .answer tag (.done [])) (u := v) hva hva)
  refine ⟨C, v, hmoves, htime ▸ hl, ?_⟩
  rw [hsettle, State.deriveAll_posts (u := s.commitBase.withLines C) hmoves.same, settle_of_takes hrun (by omega)]
  exact hdone

end

/-! ### The links and reports of a commit -/

section
variable {s C : State} {i : Nat} {c : LinkCfg} {b : Bool} {rows : List (Option LinkCfg)}

/-- R36: a link that was reset before the commit, as it stands behind it. -/
theorem commitMoves.reset {new : Option LinkRec}
    (h : commitMoves rows (s.builtMirror.map MirrorEntry.unsequenced) i (some (LinkRec.reset b)) new)
    (hr : (rows[i]?).join = some c) : ∃ x, new = some x ∧
      { x with polls := [], sender := none } =
        { LinkRec.reset b with cfg := some c, state := if b = true then .up else .down } ∧
      (b = false → x.polls = [] ∧ x.sender = none) ∧
      (b = true → ∀ e ∈ s.builtMirror, e.link = i →
        e.el ∈ x.polls ∨ ∃ q left, x.sender = some { what := .poll e.el e.addr q, left := left }) := by
  obtain ⟨x, hx, ⟨hbase, hpolled⟩, hlost⟩ := h.2 c b hr rfl
  refine ⟨x, hx, hbase, hlost, ?_⟩
  rintro rfl e he hlink
  exact hpolled e.unsequenced (List.mem_filter.mpr ⟨List.mem_map_of_mem he, beq_iff_eq.mpr hlink⟩)

/-- R36: the LINK_STATE report of a used link at a commit. -/
theorem stateReports_commitNotes_used {time : Nat} {l : LinkRec} (hr : (rows[i]?).join = some c) :
    stateReports time (commitNotes rows i (some l)) =
      [{ kind := .linkState, time := time, subject := some (.link i), detail1 := some l.state.code,
         detail2 := some (if l.carrier then 2 else 1) }] := by
  cases hc : l.carrier with
  | true => rw [commitNotes_carrier hr hc]; rfl
  | false => rw [commitNotes_lost hr hc]; rfl

end

/-- Settles O23. -/
theorem commitIsJudgedAndBuildsTheRecords : Obligations.CommitIsJudgedAndBuildsTheRecords := by
  unfold Obligations.CommitIsJudgedAndBuildsTheRecords
  refine ⟨?_, ?_, ?_, ?_⟩
  · intro tag s hs
    refine ⟨fun hv => exec_done (kind := 0x17#8) rfl (by simp) hs (reqLdCommit_configured hv), fun hv => ?_⟩
    have hrefuse {c : RefusalCode} (hc : s.commitCheck = some c) :
        exec (.ldCommit tag []) s = .next (s.framed.refuse tag c) :=
      exec_refuse (kind := 0x17#8) rfl (by simp) hs (reqLdCommit_refused (s := s.framed) hv hc)
    exact ⟨fun n hn => hrefuse (s.commitCheck_missing hn), fun table index check _ hc => hrefuse hc,
      fun c hc => s.commitCheck_inconsistent hc⟩
  · intro s
    exact ⟨s.commitCheck_loaded, fun α table rows check => ⟨firstOf_none_iff, fun i c => firstOf_at_iff⟩,
      s.stationCheck_eq, s.runsCheck_count, s.runsCheck_rows, s.sectionCheck_eq, s.substationCheck_eq, s.elementCheck_eq,
      s.zoneCheck_eq, s.zonesCheck_none_iff, fun i c => s.zonesCheck_at_iff⟩
  · intro tag s hs hlinks htables hv hc
    obtain ⟨-, hsects, -⟩ := htables
    have hbase := s.framed.commitBase_eq
    obtain ⟨C, v, hmoves, hl, hsettle⟩ := State.commit_runs (s := s.framed) (tag := tag) hs.1.framed.1 hsects hc
    obtain ⟨autos, hsame, -, hmarks⟩ := hl.same
    have hexec : exec (.ldCommit tag []) s = .next (v.done tag []) := by
      rw [exec_settles (kind := 0x17#8) rfl (by simp) hs (reqLdCommit_accepted (s := s.framed) hv hc), hsettle]
    have hvlinks : v.links = C.links := (congrArg State.links hsame).trans rfl
    have hvmirror : v.mirror = C.mirror := (congrArg State.mirror hsame).trans rfl
    have hblinks : s.framed.commitBase.links = s.links := by rw [hbase]; rfl
    have hbhost : s.framed.commitBase.hpt = s.framed.commitHost := by rw [hbase]
    have hmoved (i : Nat) (hi : i < 8) := hmoves.moved i (List.mem_range.mpr hi)
    rw [hblinks] at hmoved
    refine ⟨v.done tag [], hexec, ?_, ?_, ?_, ?_, ?_, ?_, ?_, ?_, ?_, ?_, ?_, ?_⟩
    · exact (congrArg State.lds hsame).trans (congrArg State.lds hbase)
    · have hclock : s.framed.commitBase.clock = s.clock := by rw [hbase]; rfl
      exact (congrArg State.clock hsame).trans hclock
    · have hkept : v.hpt.replies = s.hpt.replies := by
        rw [hl.host.same]
        exact (congrArg HostPort.replies hbhost).trans s.framed.commitHost_replies
      exact congrArg (· ++ [_]) hkept
    · have hbuilt : s.framed.commitBase.mirror = s.builtMirror := congrArg State.mirror hbase
      have hmirror : v.mirror.map MirrorEntry.unsequenced = s.builtMirror.map MirrorEntry.unsequenced := by
        rw [hvmirror, hmoves.mirror, hbuilt]
      refine hmirror.trans ((List.map_congr_left (g := id) fun e he => ?_).trans (List.map_id _))
      obtain ⟨r, k, -, -, hbuilt⟩ := s.mem_builtMirror.mp he
      rw [hbuilt]
      rfl
    · exact (congrArg State.window hsame).trans (congrArg State.window hbase)
    · exact (congrArg State.rgl hsame).trans (congrArg State.rgl hbase)
    · exact (congrArg State.tsv hsame).trans (congrArg State.tsv hbase)
    · exact (congrArg State.anp hsame).trans (congrArg State.anp hbase)
    · intro i hi hr
      exact (congrArg (·[i]?) hvlinks).trans ((hmoved i hi).1 hr)
    · intro i c b hr hold
      have hcount : s.links.length = 8 := hlinks.1
      have hi : i < 8 := hcount ▸ (List.getElem?_eq_some_iff.mp hold).1
      have hm := hmoved i hi
      rw [hold, ← hvlinks] at hm
      exact commitMoves.reset (s := s) hm hr
    · have hempty : s.framed.commitBase.inc.table = [] := by rw [hbase]; rfl
      have htable : v.inc.table = autos :=
        (congrArg (fun s : State => s.inc.table) hsame).trans (congrArg (· ++ autos) hempty)
      have hroom : (s.framed.commitBase.withLines C).latch.inc.table.length +
          (lossKeys s.framed.commitLinkNotes).length ≤ 32 := by
        have hzero : (s.framed.commitBase.withLines C).latch.inc.table.length = 0 := by
          have h := congrArg List.length hempty
          exact h
        have hkeys : (lossKeys s.framed.commitLinkNotes).length ≤ (List.range 8).length := by
          rw [s.framed.lossKeys_commitLinkNotes]
          exact List.length_filter_le ..
        rw [List.length_range] at hkeys
        omega
      have hkeys := s.framed.lossKeys_commitLinkNotes
      calc v.inc.table.map Incident.mark
        _ = (lossKeys s.framed.commitLinkNotes).map lossMark := by rw [htable, hmarks hroom]
        _ = _ := by rw [hkeys]; rfl
    · intro hmask hlen
      obtain ⟨hcmask, hcreports⟩ := s.framed.commitHost_reports hmask hlen
      obtain ⟨rest, hrest, -, -, -, hall⟩ := hl.host.reports
      have hbreports : (s.framed.commitBase.withLines C).latch.hpt.reports = s.framed.commitHost.reports := by
        have h := congrArg HostPort.reports hbhost
        exact h
      have hbmask : (s.framed.commitBase.withLines C).latch.hpt.classMask = ClassMask.none := by
        have h := congrArg HostPort.classMask hbhost
        exact h.trans hcmask
      refine ⟨rest, ?_, (hall hbmask ?_).trans ?_⟩
      · refine hrest.trans ?_
        rw [hbreports, hcreports, List.append_assoc]
        rfl
      · have hnotes := s.framed.commitLinkNotes_length
        rw [hbreports, hcreports, List.length_append, List.length_singleton]
        have : s.framed.hpt.reports.length ≤ 47 := hlen
        omega
      · rw [filterMap_eq_flatMap, State.commitLinkNotes, stateReports_flatMap]
        refine flatMap_congr_mem fun i _ => ?_
        change stateReports s.clock.time (commitNotes s.linkRows i s.links[i]?) = _
        cases hold : s.links[i]? with
        | none => rfl
        | some l =>
          cases hr : (s.linkRows[i]?).join with
          | none => rw [commitNotes_unused hr]; rfl
          | some c => exact stateReports_commitNotes_used hr
  · intro s
    refine ⟨fun e => s.mem_builtMirror, builtMirror_els s, rfl, fun m p => s.builtSupervisor_pair, List.length_mapIdx ..,
      rfl, rfl, rfl, rfl, rfl, rfl, List.length_mapIdx .., fun i r z hr hz => ?_, rfl, fun _ _ _ => rfl⟩
    rw [s.builtPublisher_station hr hz, StationRec.built, freshStatus_eq]

end Sys2Proof.Machine
end

section
/-! SUPPORT. What a warm restart makes of the lines and the blocks, for O26. -/
namespace Sys2Proof.Machine

/-! ### Operations on the lines alone -/

/-- `t` is `s` but for its links and its mirror. -/
def State.linesOnly (s t : State) : Prop := t = { s with links := t.links, mirror := t.mirror }

section
variable {s t u : State} {i : Nat}

theorem State.linesOnly.trans (h : s.linesOnly t) (h' : t.linesOnly u) : s.linesOnly u := by
  unfold State.linesOnly at *
  rw [h', h]

theorem State.choose_linesOnly (i : Nat) (l : LinkRec) (s : State) : s.linesOnly (s.choose i l) := by
  unfold State.choose
  split
  · rfl
  · split
    · rfl
    · split
      · split <;> rfl
      · split
        · rfl
        · split <;> rfl

theorem State.kick_linesOnly (i : Nat) (s : State) : s.linesOnly (s.kick i) := by
  unfold State.kick
  split
  · rfl
  · split
    · exact State.choose_linesOnly ..
    · rfl

theorem State.poll_linesOnly (i el : Nat) (s : State) : s.linesOnly (s.poll i el) := by
  unfold State.poll
  split
  · rfl
  · next l _ =>
    split
    · have hset : s.linesOnly (s.setLink i { l with polls := l.polls ++ [el] }) := rfl
      exact hset.trans (State.kick_linesOnly ..)
    · rfl

theorem State.pollSweep_linesOnly (i : Nat) (s : State) : s.linesOnly (s.pollSweep i) :=
  foldl_preserves (P := s.linesOnly) (fun _ el h => h.trans (State.poll_linesOnly i el _)) _ rfl

end

/-! ### The abandoned lines (R22, R36) -/

/-- `t` is `s` with up to `n` telegrams under way abandoned: each may have joined its queue and been reported. -/
structure Abandoned (s t : State) (n : Nat) : Prop where
  same : t = { s with links := t.links, hpt := { s.hpt with reports := t.hpt.reports, flags := t.hpt.flags } }
  links : t.links.map LinkRec.restarted = s.links.map LinkRec.restarted
  reports : t.hpt.reports.length ≤ s.hpt.reports.length + n
  flags : s.hpt.reports.length + n ≤ 64 → t.hpt.flags = s.hpt.flags
  hunting : (∀ l ∈ s.links, l.asm = .hunting) → t = s

section
variable {s t u : State} {i n m : Nat} {l x : LinkRec}

theorem Abandoned.refl (s : State) : Abandoned s s 0 := ⟨rfl, rfl, Nat.le_refl _, fun _ => rfl, fun _ => rfl⟩

theorem Abandoned.trans (h : Abandoned s t n) (h' : Abandoned t u m) : Abandoned s u (n + m) := by
  have hreports := h.reports
  have hreports' := h'.reports
  refine ⟨?_, h'.links.trans h.links, by omega,
    fun hn => (h'.flags (by omega)).trans (h.flags (by omega)), fun hh => ?_⟩
  · have hsame := h'.same
    rw [h.same] at hsame
    exact hsame
  · have hts := h.hunting hh
    rw [← hts] at hh ⊢
    exact h'.hunting hh

theorem State.report_grows (k : ReportKind) (y : Option Subject) (d1 d2 : Option Nat) (s : State) :
    (s.report k y d1 d2).hpt.reports.length ≤ s.hpt.reports.length + 1 ∧
      (s.hpt.reports.length + 1 ≤ 64 → (s.report k y d1 d2).hpt.flags = s.hpt.flags) := by
  rcases State.report_cases k y d1 d2 s with ⟨-, he⟩ | ⟨-, he⟩ | ⟨hfull, he⟩
  · rw [he]
    exact ⟨Nat.le_succ _, fun _ => rfl⟩
  · rw [he]
    exact ⟨Nat.le_of_eq (List.length_append ..), fun _ => rfl⟩
  · rw [he]
    exact ⟨Nat.le_succ _, fun hn => absurd hn (by omega)⟩

theorem map_restarted_setLink (h : s.links[i]? = some l) (hx : x.restarted = l.restarted) :
    (s.setLink i x).links.map LinkRec.restarted = s.links.map LinkRec.restarted := by
  obtain ⟨hlt, hget⟩ := List.getElem?_eq_some_iff.mp h
  have hsame : (s.links.map LinkRec.restarted)[i]'(by simpa using hlt) = x.restarted := by
    rw [List.getElem_map, hget, hx]
  rw [State.setLink_links, List.map_set, ← hsame, List.set_getElem_self]

theorem State.abandonLine_abandoned (i : Nat) (s : State) : Abandoned s (s.abandonLine i) 1 := by
  unfold State.abandonLine
  cases hl : s.links[i]? with
  | none => exact ⟨rfl, rfl, Nat.le_succ _, fun _ => rfl, fun _ => rfl⟩
  | some l =>
    cases ha : l.asm with
    | hunting => simp only [ha]; exact ⟨rfl, rfl, Nat.le_succ _, fun _ => rfl, fun _ => rfl⟩
    | busy bytes d lead last =>
      simp only [ha]
      have hbusy : ¬ ∀ l ∈ s.links, l.asm = .hunting := fun hh =>
        absurd (ha.symm.trans (hh l (List.mem_of_getElem? hl))) nofun
      have hset {x : LinkRec} (hx : x.restarted = l.restarted) : Abandoned s (s.setLink i x) 1 :=
        ⟨rfl, map_restarted_setLink hl hx, Nat.le_succ _, fun _ => rfl, fun hh => absurd hh hbusy⟩
      unfold State.rxAnnotate State.rxJoin
      rw [hl]
      dsimp only
      split
      · exact hset rfl
      · split
        · refine ⟨?_, ?_, ?_, fun hn => ?_, fun hh => absurd hh hbusy⟩
          · obtain ⟨r, f, he⟩ := State.report_eq (s := s.setLink i _) (k := .linkCongested) (x := some (.link i))
              (a := some _) (b := none)
            rw [he]
            rfl
          · rw [State.report_links]
            exact map_restarted_setLink hl rfl
          · exact (State.report_grows ..).1
          · exact (State.report_grows ..).2 hn
        · exact hset rfl

theorem State.abandonLines_abandoned (is : List Nat) (s : State) :
    Abandoned s (is.foldl (fun s i => s.abandonLine i) s) is.length := by
  induction is generalizing s with
  | nil => exact .refl s
  | cons i is ih =>
    rw [List.length_cons, Nat.add_comm]
    exact (s.abandonLine_abandoned i).trans (ih _)

end

/-! ### The blocks and the links of a restart (R16, R36) -/

/-- The unit with its lines abandoned, its reports dropped and its flags those of a restart. -/
def State.restartLines (s : State) : State :=
  (List.range Config.linkCount).foldl (fun s i => s.abandonLine i) { s with hpt := s.hpt.restarted }

/-- R16: the unit with every block at its restart values, before the links move. -/
def State.restartBase (s : State) : State := s.restartLines.restartBlocks

/-- The unit once the links have moved. -/
def State.restartMoved (s : State) : State :=
  (List.range 8).foldl State.restartLink (s.restartBase.post .deriveEffects)

section
variable (s : State)

theorem State.restart_eq : s.restart = s.restartMoved.deriveAll := rfl

theorem State.restartLines_abandoned : Abandoned { s with hpt := s.hpt.restarted } s.restartLines 8 :=
  State.abandonLines_abandoned (List.range 8) _

/-- R16: every block at its restart values, in terms of the unit before. -/
theorem State.restartBase_eq : s.restartBase =
    { s with
      lds := { s.lds with service := if s.lds.committed then .configured else .unconfigured }
      links := s.links.map LinkRec.restarted
      mirror := s.mirror.map MirrorEntry.toUnknown
      window := if s.lds.committed then s.builtWindow else Window.empty
      reg := Register.empty
      rgl := Regulator.cleared s.rgl.beta s.rgl.threshold (if s.lds.committed then s.sectCount else 0)
      tsv := s.tsv.restarted
      inc := s.inc.restarted s.tick
      anp := s.anp.restarted
      hpt := { s.hpt with reports := s.restartLines.hpt.reports, flags := s.restartLines.hpt.flags,
                          causes := Causes.none } } := by
  have hlines := s.restartLines_abandoned
  have hlinks := hlines.links
  unfold State.restartBase State.restartBlocks
  rw [hlinks]
  generalize s.restartLines = t at hlines
  rw [hlines.same]
  rfl

theorem State.restartBase_flags : s.restartLines.hpt.flags = Conditions.restart :=
  s.restartLines_abandoned.flags (by decide : 0 + 8 ≤ 64)

theorem State.restartLines_reports : s.restartLines.hpt.reports.length ≤ 8 :=
  Nat.le_trans s.restartLines_abandoned.reports (by simp [HostPort.restarted])

theorem State.restartLines_hunting (h : ∀ l ∈ s.links, l.asm = .hunting) : s.restartLines.hpt.reports = [] := by
  rw [s.restartLines_abandoned.hunting h]
  rfl

/-- What the links of a restart leave of the other blocks. -/
theorem State.restartLink_keeps (i : Nat) : ∃ ns, s.restartLink i =
    { s with links := (s.restartLink i).links, mirror := (s.restartLink i).mirror, agenda := s.agenda ++ ns } := by
  unfold State.restartLink
  split
  · exact ⟨[], by rw [List.append_nil]⟩
  · next l _ =>
    split
    · exact ⟨[], by rw [List.append_nil]⟩
    · split
      · have hset : s.linesOnly (s.setLink i { l with state := .up }) := rfl
        have hall := hset.trans (State.pollSweep_linesOnly i _)
        refine ⟨[], ?_⟩
        rw [List.append_nil]
        exact hall
      · exact ⟨[.raise .linkLoss i], rfl⟩

theorem State.restartLinks_keep (is : List Nat) : ∃ ns, is.foldl State.restartLink s =
    { s with links := (is.foldl State.restartLink s).links, mirror := (is.foldl State.restartLink s).mirror,
             agenda := s.agenda ++ ns } := by
  induction is generalizing s with
  | nil => exact ⟨[], by rw [List.append_nil]; rfl⟩
  | cons i is ih =>
    obtain ⟨ns, hi⟩ := s.restartLink_keeps i
    obtain ⟨ms, his⟩ := ih (s.restartLink i)
    refine ⟨ns ++ ms, ?_⟩
    rw [List.foldl_cons]
    generalize is.foldl State.restartLink (s.restartLink i) = t at his
    generalize s.restartLink i = u at hi his
    rw [his, hi, List.append_assoc]

/-- The blocks a restart leaves as their restart values: all but the links and the mirror. -/
theorem State.restart_blocks : s.restart.reg = Register.empty ∧ s.restart.hpt = s.restartBase.hpt ∧
    s.restart.rgl = s.restartBase.rgl := by
  have hbase : s.restartBase.reg = Register.empty := by rw [s.restartBase_eq]
  obtain ⟨ns, h⟩ := (s.restartBase.post .deriveEffects).restartLinks_keep (List.range 8)
  rw [State.restart_eq, State.restartMoved, ← hbase]
  generalize s.restartBase = B at h ⊢
  generalize (List.range 8).foldl State.restartLink (B.post .deriveEffects) = C at h ⊢
  rw [h]
  exact ⟨rfl, rfl, rfl⟩

end

end Sys2Proof.Machine
end

section
/-! SUPPORT. The links of a warm restart, and the derived effects handed over behind it, for O26. -/
namespace Sys2Proof.Machine

/-! ### The links at a restart (R36) -/

/-- R36: what a link posts at a restart: the loss of a used link without carrier. -/
def restartNotes (i : Nat) (old : Option LinkRec) : List Notice :=
  if old.any (fun l => l.cfg.isSome && !l.carrier) then [.raise .linkLoss i] else []

/-- R36: a link at its restart values before and after it moves by its carrier, with the mirror `m`. -/
def restartMoves (m : List MirrorEntry) (i : Nat) (old new : Option LinkRec) : Prop :=
  ∀ l, old = some l → l.restarted = l →
    (l.cfg = none → new = some l) ∧
    (l.cfg ≠ none → ∃ x, new = some x ∧
      LinkRec.swept (if l.carrier = true then m.filter (fun e => e.link == i) else [])
        { l with state := if l.carrier = true then .up else .down } x ∧
      (l.carrier = false → x.polls = [] ∧ x.sender = none))

section
variable {m : List MirrorEntry} {s : State} {i : Nat} {l : LinkRec}

theorem State.restartLink_none (h : s.links[i]? = none) : s.restartLink i = s := by
  simp only [State.restartLink, h]

theorem State.restartLink_unused (h : s.links[i]? = some l) (hc : l.cfg = none) : s.restartLink i = s := by
  simp only [State.restartLink, h, hc, Option.isNone_none, if_true]

theorem State.restartLink_carrier (h : s.links[i]? = some l) (hc : l.cfg ≠ none) (hca : l.carrier = true) :
    s.restartLink i = (s.setLink i { l with state := .up }).pollSweep i := by
  have hn : l.cfg.isNone = false := Option.isNone_eq_false_iff.mpr (Option.isSome_iff_ne_none.mpr hc)
  simp only [State.restartLink, h, hn, hca, Bool.false_eq_true, if_false, if_true]

theorem State.restartLink_lost (h : s.links[i]? = some l) (hc : l.cfg ≠ none) (hca : l.carrier = false) :
    s.restartLink i = (s.setLink i { l with state := .down }).post (.raise .linkLoss i) := by
  have hn : l.cfg.isNone = false := Option.isNone_eq_false_iff.mpr (Option.isSome_iff_ne_none.mpr hc)
  simp only [State.restartLink, h, hn, hca, Bool.false_eq_true, if_false]

theorem restartNotes_none : restartNotes i none = [] := rfl

theorem restartNotes_quiet (h : l.cfg = none ∨ l.carrier = true) : restartNotes i (some l) = [] := by
  rcases h with h | h <;> simp [restartNotes, h]

theorem restartNotes_lost (hc : l.cfg ≠ none) (hca : l.carrier = false) :
    restartNotes i (some l) = [.raise .linkLoss i] := by
  simp [restartNotes, hca, Option.isSome_iff_ne_none.mpr hc]

theorem State.restartLink_moves (hm : s.mirror.map MirrorEntry.unsequenced = m) (hn : (m.map (·.el)).Nodup) :
    LinesMove (restartMoves m) [i] (restartNotes i s.links[i]?) s (s.restartLink i) := by
  have hnodup : (s.mirror.map (·.el)).Nodup := by
    have hels := congrArg (List.map MirrorEntry.el) hm
    rw [List.map_map] at hels
    exact hels ▸ hn
  have hstay (hr : restartMoves m i s.links[i]? s.links[i]?) : LinesMove (restartMoves m) [i] [] s s := by
    refine LinesMove.of_line (ns := []) ?_ hr
    rw [State.posts_nil]
    exact .refl ..
  cases hl : s.links[i]? with
  | none =>
    rw [State.restartLink_none hl, restartNotes_none]
    exact hstay fun l h => absurd (hl.symm.trans h) nofun
  | some l =>
    by_cases hc : l.cfg = none
    · rw [State.restartLink_unused hl hc, restartNotes_quiet (.inl hc)]
      refine hstay fun l' h _ => ?_
      obtain rfl := Option.some.inj (hl.symm.trans h)
      exact ⟨fun _ => hl, fun hn => absurd hc hn⟩
    · cases hca : l.carrier with
      | true =>
        rw [restartNotes_quiet (.inr hca), State.restartLink_carrier hl hc hca]
        have hat : (s.setLink i { l with state := .up }).links[i]? = some { l with state := .up } := State.setLink_at hl
        have hline : LineOnly i (s.posts []) (s.setLink i { l with state := .up }) := by
          rw [State.posts_nil]
          exact .setLink ..
        refine LinesMove.of_line (hline.trans (.pollSweep (s := s.setLink i _) hnodup i)) fun l' h hre => ?_
        obtain rfl := Option.some.inj (hl.symm.trans h)
        have hidle : l.sender = none ∧ l.polls = [] ∧ l.tx = [] := by
          rw [← hre]
          exact ⟨rfl, rfl, rfl⟩
        obtain ⟨x, hx, hswept⟩ := State.pollSweep_swept hat (.inl rfl) hidle.1 hidle.2.1 hidle.2.2 hnodup
        refine ⟨fun hn => absurd hn hc, fun _ => ⟨x, hx, ?_, fun hf => absurd (hca.symm.trans hf) nofun⟩⟩
        rw [if_pos hca, if_pos hca]
        exact hswept.unsequenced (s := s.setLink i _) hm
      | false =>
        rw [restartNotes_lost hc hca, State.restartLink_lost hl hc hca, State.post_eq_posts]
        have hat : ((s.setLink i { l with state := .down }).posts [.raise .linkLoss i]).links[i]? =
            some { l with state := .down } := State.setLink_at hl
        refine LinesMove.of_line (LineOnly.setLink i _ (s.posts [.raise .linkLoss i])) fun l' h hre => ?_
        obtain rfl := Option.some.inj (hl.symm.trans h)
        have hidle : l.sender = none ∧ l.polls = [] := by
          rw [← hre]
          exact ⟨rfl, rfl⟩
        refine ⟨fun hn => absurd hn hc, fun _ => ⟨_, hat, ?_, fun _ => ⟨hidle.2, hidle.1⟩⟩⟩
        have hno : ¬ l.carrier = true := fun hyes => absurd (hca.symm.trans hyes) Bool.false_ne_true
        rw [if_neg hno, if_neg hno]
        refine ⟨?_, fun e he => absurd he List.not_mem_nil⟩
        rw [← hidle.1, ← hidle.2]

end

/-! ### The derived outputs handed over (R146 to R149) -/

/-- A notice whose effect leaves the causes as they are, with what it posts. -/
theorem State.takes.posts {u v x : State} {n : Notice} {ms : List Notice} {k : Nat} (hu : u.agenda = [])
    (hn : handle n u = x.posts ms) (hx : x.agenda = []) (hc : x.hpt.causes = x.causesNow) (h : State.takes ms x v k) :
    State.takes [n] u v (k + 1) := by
  have hself : (x.posts ms).setAgenda [] = x := by
    simp only [State.posts, State.setAgenda]
    rw [← hx]
  refine State.takes.one (ms := ms) hu ?_ ?_
  · rw [hn, State.posts, hx]
    rfl
  · rw [hn, hself, State.latch_current x hc]
    exact h

section
variable {w : State}

/-- R147: the unit with its held stations handed to the regulator. -/
def State.withHeld (w : State) : State :=
  { w with inc := { w.inc with lastHeld := w.heldSet }, rgl := { w.rgl with heldStations := w.heldSet } }

/-- R148: the section records with the demands of a set. -/
def demanded (set : List Nat) (l : List SectRec) : List SectRec :=
  l.mapIdx (fun i r => { r with demand := set.contains i })

/-- R148: the unit with its demanded sections handed to the supervisor. -/
def State.withDemand (w : State) : State :=
  { w with inc := { w.inc with lastDemand := w.demandSet },
           tsv := { w.tsv with sects := demanded w.demandSet w.tsv.sects } }

theorem heldStations_quiet {s : State} (hs : ∀ st ∈ s.rgl.stands, st = none) (set : List Nat) :
    heldStations set s = s.viewHeld set := State.eachStand_none hs

theorem handHeld_takes (ha : w.agenda = []) (hc : w.hpt.causes = w.causesNow) (hs : ∀ st ∈ w.rgl.stands, st = none)
    (hne : w.heldSet ≠ w.inc.lastHeld) : State.takes [.handHeld] w w.withHeld 2 := by
  refine State.takes.posts (x := w.noteHeld w.heldSet) ha (if_neg hne) ha hc ?_
  have hview : handle (.heldStations w.heldSet) (w.noteHeld w.heldSet) = w.withHeld :=
    heldStations_quiet (s := w.noteHeld w.heldSet) hs _
  have htake := State.takes.quiet (n := .heldStations w.heldSet) (u := w.noteHeld w.heldSet) ha (by rw [hview]; exact ha)
  rwa [hview, State.latch_current w.withHeld hc] at htake

theorem State.withHeld_same (h : w.heldSet = w.inc.lastHeld) (hr : w.rgl.heldStations = w.inc.lastHeld) :
    w.withHeld = w := by
  have hinc : { w.inc with lastHeld := w.heldSet } = w.inc := by rw [h]
  have hrgl : { w.rgl with heldStations := w.heldSet } = w.rgl := by rw [h, ← hr]
  rw [State.withHeld, hinc, hrgl]

theorem alert_demanded (set : List Nat) (l : List SectRec) :
    (demanded set l).any SectRec.alert = l.any SectRec.alert := by
  have hmap : (demanded set l).map SectRec.alert = l.map SectRec.alert := by
    refine List.ext_getElem? fun i => ?_
    rw [demanded, List.getElem?_map, List.getElem?_map, List.getElem?_mapIdx, Option.map_map]
    rfl
  have hany (l : List SectRec) : l.any SectRec.alert = (l.map SectRec.alert).any id := by
    rw [List.any_map]
    rfl
  rw [hany, hmap, ← hany]

theorem State.withDemand_causesNow (w : State) : w.withDemand.causesNow = w.causesNow := by
  have halert := alert_demanded w.demandSet w.tsv.sects
  change { w.causesNow with powerAlert := (demanded w.demandSet w.tsv.sects).any SectRec.alert } = w.causesNow
  rw [halert]
  rfl

theorem State.withDemand_same (h : w.demandSet = w.inc.lastDemand)
    (hd : demanded w.inc.lastDemand w.tsv.sects = w.tsv.sects) : w.withDemand = w := by
  have hinc : { w.inc with lastDemand := w.demandSet } = w.inc := by rw [h]
  rw [State.withDemand, hinc, h, hd]

theorem demanded_demanded (set : List Nat) (l : List SectRec) : demanded set (demanded set l) = demanded set l := by
  refine List.ext_getElem? fun i => ?_
  simp only [demanded, List.getElem?_mapIdx, Option.map_map]
  rfl

theorem demanded_nil {l : List SectRec} (h : ∀ r ∈ l, r.demand = false) : demanded [] l = l := by
  refine List.ext_getElem? fun i => ?_
  rw [demanded, List.getElem?_mapIdx]
  cases hr : l[i]? with
  | none => rfl
  | some r => rw [Option.map_some, List.contains_nil, ← h r (List.mem_of_getElem? hr)]

/-- A demand changes nothing else of a section. -/
theorem mem_demanded {set : List Nat} {l : List SectRec} {r : SectRec} (h : r ∈ demanded set l) :
    ∃ r' ∈ l, r = { r' with demand := r.demand } := by
  obtain ⟨i, hi, rfl⟩ := List.mem_mapIdx.mp h
  exact ⟨l[i], List.getElem_mem hi, rfl⟩

theorem demandAct_unknown {s : State} (h : ∀ r ∈ s.tsv.sects, r.state = .unknown) (j : Nat) : demandAct j s = s := by
  unfold demandAct
  split
  · rfl
  · next r hr =>
    split
    · rfl
    · rw [h r (List.mem_of_getElem? hr)]

theorem demanded_unknown {l : List SectRec} (h : ∀ r ∈ l, r.state = .unknown) (set : List Nat) :
    ∀ r ∈ demanded set l, r.state = .unknown := by
  intro r hr
  obtain ⟨r', hr', heq⟩ := mem_demanded hr
  rw [heq]
  exact h r' hr'

theorem handDemands_takes (ha : w.agenda = []) (hc : w.hpt.causes = w.causesNow)
    (hs : ∀ r ∈ w.tsv.sects, r.state = .unknown) (hn : w.tsv.sects.length ≤ 24)
    (hne : w.demandSet ≠ w.inc.lastDemand) : ∃ k, k ≤ 26 ∧ State.takes [.handDemands] w w.withDemand k := by
  have hcurrent : w.withDemand.hpt.causes = w.withDemand.causesNow := hc.trans w.withDemand_causesNow.symm
  let acts := (numbersBelow w.tsv.sects.length (fun i =>
    w.demandSet.contains i && !((w.sect? i).any (·.demand)))).map Notice.demandAct
  have hidle := State.takes.idle_all (ns := acts) (u := w.withDemand) ha hcurrent fun n hn => by
    obtain ⟨j, -, rfl⟩ := List.mem_map.mp hn
    exact demandAct_unknown (demanded_unknown hs _) j
  have hlen : acts.length ≤ 24 := by
    rw [List.length_map]
    exact Nat.le_trans (Nat.le_trans (List.length_filter_le ..) (Nat.le_of_eq (List.length_range ..))) hn
  have hset := State.takes.posts (n := .demands w.demandSet) (u := w.noteDemand w.demandSet) ha rfl ha hcurrent hidle
  exact ⟨_, by omega, State.takes.posts (x := w.noteDemand w.demandSet) ha (if_neg hne) ha hc hset⟩

end

/-! ### The announcements handed over (R149, R161) -/

/-- `x` is `w` with the INCIDENT contents of the stations `done` handed to the publisher. -/
structure ContentsHanded (w x : State) (done : List Nat) : Prop where
  same : x = { w with inc := { w.inc with lastContent := x.inc.lastContent },
                      anp := { w.anp with stations := x.anp.stations } }
  content : ∀ i, i < w.stationCount → x.lastContent i = if i ∈ done then w.incidentLayer i else w.lastContent i
  station : ∀ i, x.station? i = if i ∈ done then (w.station? i).map (fun r => { r with incident := w.incidentLayer i })
    else w.station? i

section
variable {w x : State} {done : List Nat} {i : Nat}

theorem ContentsHanded.refl (w : State) : ContentsHanded w w [] := ⟨rfl, fun _ _ => rfl, fun _ => rfl⟩

theorem State.noteContent_lastContent {c : Option Content} {j : Nat} (hj : j < x.stationCount) :
    (x.noteContent i c).lastContent j = if j = i then c else x.lastContent j := by
  rw [State.lastContent]
  change ((((List.range x.stationCount).map (fun j => if j = i then c else x.lastContent j)))[j]?).join = _
  rw [List.getElem?_map, List.getElem?_range hj, Option.map_some]
  rfl

/-- R161: the unit with a station's INCIDENT content written. -/
def State.withContent (i : Nat) (c : Option Content) (s : State) : State :=
  { s with anp := { s.anp with stations := s.anp.stations.modify i (fun r => { r with incident := c }) } }

theorem State.withContent_station? (i : Nat) (c : Option Content) (s : State) (j : Nat) :
    (s.withContent i c).station? j = if j = i then (s.station? j).map (fun r => { r with incident := c })
      else s.station? j := by
  change (s.anp.stations.modify i (fun r => { r with incident := c }))[j]? = _
  rw [List.getElem?_modify]
  by_cases hj : j = i
  · subst hj
    rw [if_pos rfl]
    simp only [if_true]
    rfl
  · rw [if_neg hj]
    have hij : ¬ i = j := fun h => hj h.symm
    simp only [hij, if_false]
    exact congrFun Option.map_id _

/-- R161: in CONFIGURED a hand-over is written and nothing is sent. -/
theorem incidentContent_takes {s : State} {c : Option Content} (ha : s.agenda = []) (hc : s.hpt.causes = s.causesNow)
    (hv : s.lds.service.active = false) :
    ∃ k, k ≤ 2 ∧ State.takes [.incidentContent i c] s (s.withContent i c) k := by
  cases hst : s.station? i with
  | none =>
    have hsame : s.withContent i c = s := by
      have hget : s.anp.stations[i]? = none := hst
      rw [State.withContent, modify_eq_self hget]
    have hidle : handle (.incidentContent i c) s = s := by
      rw [handle, incidentContent, hst]
    rw [hsame]
    exact ⟨1, by omega, State.takes.idle ha hc hidle⟩
  | some r =>
    have hset : s.withContent i c = s.setStation i { r with incident := c } := by
      have hget : s.anp.stations[i]? = some r := hst
      rw [State.withContent, modify_eq_set hget]
      rfl
    have hwrites : handle (.incidentContent i c) s = (s.withContent i c).posts [.judge i] := by
      rw [handle, incidentContent, hst, hset]
      rfl
    have hjudge := State.takes.idle (n := .judge i) (u := s.withContent i c) ha hc (judge_inactive i _ hv)
    exact ⟨2, Nat.le_refl 2, State.takes.posts ha hwrites ha hc hjudge⟩

theorem State.noteContent_same {c : Option Content} {last : List (Option Content)} {stations : List StationRec}
    (h : x = { w with inc := { w.inc with lastContent := last }, anp := { w.anp with stations := stations } }) :
    (x.noteContent i c).withContent i c = { w with
      inc := { w.inc with lastContent := ((x.noteContent i c).withContent i c).inc.lastContent }
      anp := { w.anp with stations := ((x.noteContent i c).withContent i c).anp.stations } } := by
  rw [h]
  rfl

theorem ContentsHanded.hand (h : ContentsHanded w x done) (ha : w.agenda = []) (hc : w.hpt.causes = w.causesNow)
    (hv : w.lds.service.active = false) (hi : i < w.stationCount) (hnew : i ∉ done)
    (hne : w.incidentLayer i ≠ w.lastContent i) :
    ∃ y k, k ≤ 3 ∧ State.takes [.handContent i] x y k ∧ ContentsHanded w y (i :: done) := by
  have hxa : x.agenda = [] := (congrArg State.agenda h.same).trans ha
  have hxc : x.hpt.causes = x.causesNow := by
    rw [h.same]
    exact hc
  have hxv : x.lds.service.active = false := by
    rw [h.same]
    exact hv
  have hxcount : x.stationCount = w.stationCount := by
    rw [h.same]
    rfl
  have hlayer : x.incidentLayer i = w.incidentLayer i := by
    rw [h.same]
    rfl
  have hlast : x.lastContent i = w.lastContent i := (h.content i hi).trans (if_neg hnew)
  have hdiffers : x.incidentLayer i ≠ x.lastContent i := by
    rw [hlayer, hlast]
    exact hne
  have hhand : handle (.handContent i) x =
      (x.noteContent i (w.incidentLayer i)).posts [.incidentContent i (w.incidentLayer i)] := by
    rw [← hlayer]
    exact if_neg hdiffers
  obtain ⟨k, hk, htakes⟩ := incidentContent_takes (i := i) (c := w.incidentLayer i)
    (s := x.noteContent i (w.incidentLayer i)) hxa hxc hxv
  refine ⟨_, k + 1, by omega, State.takes.posts hxa hhand hxa hxc htakes, ?_, fun j hj => ?_, fun j => ?_⟩
  · exact State.noteContent_same h.same
  · refine (State.noteContent_lastContent (hxcount ▸ hj)).trans ?_
    by_cases hji : j = i
    · rw [if_pos hji, if_pos (hji ▸ List.mem_cons_self), hji]
    · rw [if_neg hji, h.content j hj]
      simp only [List.mem_cons, hji, false_or]
  · rw [State.withContent_station?]
    by_cases hji : j = i
    · have hold : x.station? i = w.station? i := (h.station i).trans (if_neg hnew)
      rw [if_pos hji, if_pos (hji ▸ List.mem_cons_self), hji]
      exact congrArg (Option.map _) hold
    · rw [if_neg hji]
      refine (h.station j).trans ?_
      simp only [List.mem_cons, hji, false_or]

/-- R146: the stations of a list are handed their contents, in order. -/
theorem ContentsHanded.handAll {is : List Nat} (h : ContentsHanded w x done) (ha : w.agenda = [])
    (hc : w.hpt.causes = w.causesNow) (hv : w.lds.service.active = false) (hn : is.Nodup) (hnew : ∀ i ∈ is, i ∉ done)
    (his : ∀ i ∈ is, i < w.stationCount ∧ w.incidentLayer i ≠ w.lastContent i) :
    ∃ y k, k ≤ 3 * is.length ∧ State.takes (is.map .handContent) x y k ∧
      ∃ done', ContentsHanded w y done' ∧ ∀ i, i ∈ done' ↔ i ∈ done ∨ i ∈ is := by
  induction is generalizing x done with
  | nil =>
    have hxa : x.agenda = [] := (congrArg State.agenda h.same).trans ha
    exact ⟨x, 0, Nat.le_refl 0, State.takes.refl hxa, done, h, fun i => by simp⟩
  | cons i is ih =>
    obtain ⟨hi, hne⟩ := his i List.mem_cons_self
    obtain ⟨hin, hn⟩ := List.nodup_cons.mp hn
    obtain ⟨y, k, hk, htakes, hy⟩ := h.hand ha hc hv hi (hnew i List.mem_cons_self) hne
    obtain ⟨z, j, hj, htakes', done', hz, hdone'⟩ := ih hy hn
      (fun m hm hd => (List.mem_cons.mp hd).elim (fun hmi => hin (hmi ▸ hm)) (hnew m (List.mem_cons_of_mem _ hm)))
      (fun m hm => his m (List.mem_cons_of_mem _ hm))
    refine ⟨z, j + k, by rw [List.length_cons]; omega, htakes.append htakes', done', hz, fun m => ?_⟩
    rw [hdone', List.mem_cons, List.mem_cons, or_assoc, or_left_comm]

end

end Sys2Proof.Machine
end

section
/-! SUPPORT. A warm restart taken to its end, for O26. -/
namespace Sys2Proof.Machine

/-! ### All derived outputs handed over (R146) -/

/-- The derived outputs during a restart: the blocks know what has been handed over, no announcement has been, and no
block acts on what it is handed. -/
structure State.Restarting (w : State) : Prop where
  agenda : w.agenda = []
  causes : w.hpt.causes = w.causesNow
  inactive : w.lds.service.active = false
  stands : ∀ st ∈ w.rgl.stands, st = none
  held : w.rgl.heldStations = w.inc.lastHeld
  lastContent : w.inc.lastContent = []
  demands : demanded w.inc.lastDemand w.tsv.sects = w.tsv.sects
  unknown : ∀ r ∈ w.tsv.sects, r.state = .unknown
  contents : ∀ r ∈ w.anp.stations, r.incident = none

/-- `v` is `w` with its held stations, its demanded sections and its announcements handed over. -/
structure Handed (w v : State) : Prop where
  same : v = { w with
    inc := { w.inc with lastHeld := w.heldSet, lastDemand := w.demandSet, lastContent := v.inc.lastContent }
    rgl := { w.rgl with heldStations := w.heldSet }
    tsv := { w.tsv with sects := demanded w.demandSet w.tsv.sects }
    anp := { w.anp with stations := v.anp.stations } }
  content : ∀ i, i < w.stationCount → v.lastContent i = w.incidentLayer i
  station : ∀ i, i < w.stationCount →
    v.station? i = (w.station? i).map (fun r => { r with incident := w.incidentLayer i })

section
variable {w v : State}

theorem Handed.heldSet (h : Handed w v) : v.heldSet = w.heldSet := by
  rw [h.same]
  rfl

theorem Handed.demandSet (h : Handed w v) : v.demandSet = w.demandSet := by
  rw [h.same]
  rfl

theorem Handed.incidentLayer (h : Handed w v) (i : Nat) : v.incidentLayer i = w.incidentLayer i := by
  rw [h.same]
  rfl

theorem Handed.causesNow (h : Handed w v) : v.causesNow = w.causesNow := by
  rw [h.same]
  exact w.withDemand_causesNow

/-- R146: what has been handed over is not handed over again. -/
theorem Handed.handOvers (h : Handed w v) : v.handOvers = [] := by
  have hheld : v.heldSet = v.inc.lastHeld := h.heldSet.trans (congrArg (fun s : State => s.inc.lastHeld) h.same).symm
  have hdemand : v.demandSet = v.inc.lastDemand :=
    h.demandSet.trans (congrArg (fun s : State => s.inc.lastDemand) h.same).symm
  have hcount : v.stationCount = w.stationCount := by
    rw [h.same]
    rfl
  rw [State.handOvers, if_pos hheld, if_pos hdemand, List.filter_eq_nil_iff.mpr]
  · rfl
  · intro i hi
    have hlt : i < w.stationCount := hcount ▸ List.mem_range.mp hi
    rw [h.incidentLayer, h.content i hlt, bne_self_eq_false]
    exact Bool.false_ne_true

theorem State.Restarting.lastContent_none (h : w.Restarting) (i : Nat) : w.lastContent i = none := by
  rw [State.lastContent, h.lastContent]
  rfl

theorem State.Restarting.withHeld (h : w.Restarting) : ∃ k, k ≤ 2 ∧
    State.takes (if w.heldSet = w.inc.lastHeld then [] else [.handHeld]) w w.withHeld k := by
  split
  · next hheld =>
    rw [State.withHeld_same hheld h.held]
    exact ⟨0, by omega, .refl h.agenda⟩
  · next hheld => exact ⟨2, Nat.le_refl 2, handHeld_takes h.agenda h.causes h.stands hheld⟩

theorem State.Restarting.withDemand (h : w.Restarting) (hn : w.tsv.sects.length ≤ 24) : ∃ k, k ≤ 26 ∧
    State.takes (if w.demandSet = w.inc.lastDemand then [] else [.handDemands]) w w.withDemand k := by
  split
  · next hdemand =>
    rw [State.withDemand_same hdemand h.demands]
    exact ⟨0, by omega, .refl h.agenda⟩
  · next hdemand => exact handDemands_takes h.agenda h.causes h.unknown hn hdemand

/-- R149: a station that has nothing to show is not handed anything, and shows nothing. -/
theorem State.Restarting.station (h : w.Restarting) {i : Nat} (hi : w.incidentLayer i = none) :
    (w.station? i).map (fun r => { r with incident := w.incidentLayer i }) = w.station? i := by
  cases hr : w.station? i with
  | none => rfl
  | some r =>
    have hnone := h.contents r (List.mem_of_getElem? hr)
    rw [Option.map_some, hi, ← hnone]

theorem State.Restarting.handContents (h : w.Restarting) : ∃ v k, k ≤ 3 * w.stationCount ∧
    State.takes (((List.range w.stationCount).filter (fun i => w.incidentLayer i != w.lastContent i)).map .handContent)
      w v k ∧
    v = { w with inc := { w.inc with lastContent := v.inc.lastContent },
                 anp := { w.anp with stations := v.anp.stations } } ∧
    ∀ i, i < w.stationCount → v.lastContent i = w.incidentLayer i ∧
      v.station? i = (w.station? i).map (fun r => { r with incident := w.incidentLayer i }) := by
  obtain ⟨v, k, hk, htakes, done, hhanded, hdone⟩ := (ContentsHanded.refl w).handAll
    (is := (List.range w.stationCount).filter (fun i => w.incidentLayer i != w.lastContent i))
    h.agenda h.causes h.inactive (List.nodup_range.filter _) (fun i _ => List.not_mem_nil) fun i hi => by
      obtain ⟨hlt, hne⟩ := List.mem_filter.mp hi
      exact ⟨List.mem_range.mp hlt, bne_iff_ne.mp hne⟩
  refine ⟨v, k, Nat.le_trans hk (Nat.mul_le_mul_left 3 ?_), htakes, hhanded.same, fun i hi => ?_⟩
  · exact Nat.le_trans (List.length_filter_le ..) (Nat.le_of_eq (List.length_range ..))
  · rw [hhanded.content i hi, hhanded.station i]
    by_cases hin : i ∈ done
    · rw [if_pos hin, if_pos hin]
      exact ⟨rfl, rfl⟩
    · have hsame : w.incidentLayer i = w.lastContent i := by
        refine Classical.byContradiction fun hne => ?_
        exact hin ((hdone i).mpr (.inr (List.mem_filter.mpr ⟨List.mem_range.mpr hi, bne_iff_ne.mpr hne⟩)))
      have hnone := hsame.trans (h.lastContent_none i)
      rw [if_neg hin, if_neg hin, h.station hnone]
      exact ⟨hsame.symm, rfl⟩

theorem State.Restarting.afterHeld (h : w.Restarting) : w.withHeld.Restarting :=
  { h with held := rfl }

theorem State.Restarting.afterDemand (h : w.Restarting) : w.withDemand.Restarting :=
  { h with
    causes := h.causes.trans w.withDemand_causesNow.symm
    demands := demanded_demanded ..
    unknown := demanded_unknown h.unknown _ }

/-- R146: a restart hands over the held stations, the demands and the announcements. -/
theorem State.Restarting.handOver (h : w.Restarting) (hsects : w.tsv.sects.length ≤ 24) :
    ∃ v k, k ≤ 29 + 3 * w.stationCount ∧ State.takes [.deriveEffects] w v k ∧ Handed w v := by
  obtain ⟨k1, hk1, hheld⟩ := h.withHeld
  obtain ⟨k2, hk2, hdemand⟩ := h.afterHeld.withDemand hsects
  obtain ⟨v, k3, hk3, hcontent, hsame, hstations⟩ := h.afterHeld.afterDemand.handContents
  have hall := (hheld.append hdemand).append hcontent
  have hcount : w.withHeld.withDemand.stationCount = w.stationCount := rfl
  refine ⟨v, _, ?_, State.takes.posts h.agenda rfl h.agenda h.causes hall, ?_, fun i hi => (hstations i hi).1,
    fun i hi => (hstations i hi).2⟩
  · omega
  · exact hsame

end

end Sys2Proof.Machine
end

section
/-! SUPPORT. O26: WARM_RESTART. -/
namespace Sys2Proof.Machine

/-! ### What the links post at a restart (R36) -/

/-- R36: the losses that the links of a restart raise. -/
def State.restartLinkNotes (s : State) : List Notice := (List.range 8).flatMap (fun i => restartNotes i s.links[i]?)

section
variable (s : State)

theorem restartNotes_restarted (i : Nat) (old : Option LinkRec) :
    restartNotes i (old.map LinkRec.restarted) = restartNotes i old := by
  cases old <;> rfl

theorem restartNotes_ofPass {i : Nat} {old : Option LinkRec} : ∀ n ∈ restartNotes i old, n.ofPass := by
  unfold restartNotes
  split
  · simp only [List.mem_singleton, forall_eq]
    exact .inr ⟨i, rfl⟩
  · exact fun n hn => absurd hn List.not_mem_nil

theorem restartNotes_length {i : Nat} {old : Option LinkRec} : (restartNotes i old).length ≤ 1 := by
  unfold restartNotes
  split <;> simp

theorem lossKeys_restartNotes {i : Nat} {old : Nat → Option LinkRec} : lossKeys (restartNotes i (old i)) =
    (Option.guard (fun i => (old i).any (fun l => l.cfg.isSome && !l.carrier)) i).toList := by
  unfold restartNotes
  split
  · next h =>
    simp only [Option.guard, h, if_true]
    rfl
  · next h =>
    simp only [Option.guard, h, Bool.false_eq_true, if_false]
    rfl

theorem stateReports_restartNotes {time i : Nat} {old : Option LinkRec} : stateReports time (restartNotes i old) = [] := by
  unfold restartNotes
  split <;> rfl

theorem State.restartLinkNotes_ofPass : ∀ n ∈ s.restartLinkNotes, n.ofPass := by
  intro n hn
  obtain ⟨i, -, hi⟩ := List.mem_flatMap.mp hn
  exact restartNotes_ofPass n hi

theorem State.restartLinkNotes_length : s.restartLinkNotes.length ≤ 8 :=
  length_flatMap_le (fun _ => restartNotes_length) (List.range 8)

theorem State.lossKeys_restartLinkNotes : lossKeys s.restartLinkNotes =
    (List.range 8).filter (fun i => (s.links[i]?).any (fun l => l.cfg.isSome && !l.carrier)) := by
  rw [State.restartLinkNotes, lossKeys_flatMap, ← flatMap_guard_toList]
  exact flatMap_congr_mem fun i _ => lossKeys_restartNotes (old := fun i => s.links[i]?)

theorem State.stateReports_restartLinkNotes (time : Nat) : stateReports time s.restartLinkNotes = [] := by
  rw [State.restartLinkNotes, stateReports_flatMap]
  exact List.flatMap_eq_nil_iff.mpr fun i _ => stateReports_restartNotes

/-- R36: used links that all have carrier raise no loss. -/
theorem State.restartLinkNotes_nil (h : ∀ l ∈ s.links, l.cfg ≠ none → l.carrier = true) : s.restartLinkNotes = [] := by
  refine List.flatMap_eq_nil_iff.mpr fun i _ => ?_
  cases hl : s.links[i]? with
  | none => exact restartNotes_none
  | some l =>
    refine restartNotes_quiet (Decidable.or_iff_not_imp_left.mpr fun hc => ?_)
    exact h l (List.mem_of_getElem? hl) hc

/-! ### The restart runs out -/

/-- R36: the links move at a restart. -/
theorem State.restart_moves (hn : (s.mirror.map (·.el)).Nodup) :
    LinesMove (restartMoves (s.restartBase.mirror.map MirrorEntry.unsequenced)) (List.range 8) s.restartLinkNotes
      (s.restartBase.post .deriveEffects) s.restartMoved := by
  have hbase := s.restartBase_eq
  have hnodup : ((s.restartBase.mirror.map MirrorEntry.unsequenced).map (·.el)).Nodup := by
    rw [hbase, List.map_map, List.map_map]
    exact hn
  have hpass := LinesMove.pass (r := restartMoves (s.restartBase.mirror.map MirrorEntry.unsequenced))
    (act := State.restartLink) (s := s.restartBase.post .deriveEffects) (u := s.restartBase.post .deriveEffects)
    (note := restartNotes) (is := List.range 8)
    (fun t i hm _ => State.restartLink_moves hm hnodup) List.nodup_range rfl rfl
  have hnotes : (List.range 8).flatMap (fun i => restartNotes i (s.restartBase.post .deriveEffects).links[i]?) =
      s.restartLinkNotes := by
    refine flatMap_congr_mem fun i _ => ?_
    have hlinks : (s.restartBase.post .deriveEffects).links[i]? = (s.links[i]?).map LinkRec.restarted := by
      rw [State.post_links, hbase, List.getElem?_map]
    rw [hlinks, restartNotes_restarted]
  rw [hnotes] at hpass
  exact hpass

/-- What the notices of a restart find: the unit at its restart values, with its links moved. -/
def State.restartFound (s : State) : State := (s.restartBase.withLines s.restartMoved).latch

/-- R16: the derived outputs are as at the start in the records of a restart. -/
theorem State.restartBase_restarting (ha : s.agenda = []) :
    { s.restartBase with hpt := { s.restartBase.hpt with causes := s.restartBase.causesNow } }.Restarting := by
  rw [s.restartBase_eq]
  generalize s.restartLines.hpt = h
  refine ⟨ha, rfl, ?_, fun st hst => List.eq_of_mem_replicate hst, rfl, rfl, demanded_nil fun r hr => ?_, fun r hr => ?_,
    fun r hr => ?_⟩
  · change (if s.lds.committed = true then ServiceState.configured else .unconfigured).active = false
    cases s.lds.committed <;> rfl
  · obtain ⟨r', -, rfl⟩ := List.mem_map.mp hr
    rfl
  · obtain ⟨r', -, rfl⟩ := List.mem_map.mp hr
    rfl
  · obtain ⟨r', -, rfl⟩ := List.mem_map.mp hr
    rfl

theorem State.restartFound_restarting (ha : s.agenda = []) : s.restartFound.Restarting := by
  have hbase := s.restartBase_restarting ha
  unfold State.restartFound
  generalize s.restartBase = B at hbase
  generalize s.restartMoved = C
  exact { hbase with causes := rfl }

/-- R139: the incidents that outlast a restart are the host's. -/
theorem State.restartBase_table : s.restartBase.inc.table =
    (s.inc.table.filter (fun x => x.kind.isHost)).map (Incident.kept s.tick) := by
  rw [s.restartBase_eq]
  rfl

theorem State.restartBase_isHost : ∀ x ∈ s.restartBase.inc.table, x.kind.isHost = true := by
  rw [s.restartBase_table]
  intro x hx
  obtain ⟨y, hy, rfl⟩ := List.mem_map.mp hx
  exact (List.mem_filter.mp hy).2

/-- What the losses of a restart find: the records as restarted, and the host's incidents. -/
theorem Handed.restarted {v : State} (h : Handed s.restartFound v) (ht : s.tablesBounded) :
    v.agenda = s.agenda ∧ v.hpt.causes = v.causesNow ∧ v.tsv.sects.length = s.tsv.sects.length ∧
      (∀ e ∈ v.mirror, e.state = .unknown) ∧ (∀ r ∈ v.tsv.sects, r.feeders ≠ []) ∧
      (∀ x ∈ v.inc.table, x.kind ≠ .linkLoss) := by
  obtain ⟨-, -, -, -, hfeeders, hnodup⟩ := ht
  have hbase := s.restartBase_eq
  have hmoves := s.restart_moves hnodup
  have hosts := s.restartBase_isHost
  have hfound : s.restartFound = (s.restartBase.withLines s.restartMoved).latch := rfl
  have hcauses := h.causesNow
  have hsame := h.same
  generalize s.restartFound = w at *
  generalize s.restartBase = B at *
  generalize s.restartMoved = C at *
  have hsects : v.tsv.sects = demanded w.demandSet w.tsv.sects := congrArg (fun t : State => t.tsv.sects) hsame
  have hrestarted : w.tsv.sects = s.tsv.sects.map SectRec.restarted := by
    rw [hfound, hbase]
    rfl
  have hmirror : v.mirror = C.mirror := by
    rw [hsame, hfound]
    rfl
  have htable : v.inc.table = B.inc.table := by
    rw [hsame, hfound]
    rfl
  refine ⟨?_, ?_, ?_, fun e he => ?_, fun r hr => ?_, fun x hx hk => ?_⟩
  · rw [hsame, hfound, hbase]
    rfl
  · rw [hcauses, hsame, hfound]
    rfl
  · rw [hsects, demanded, List.length_mapIdx, hrestarted, List.length_map]
  · rw [hmirror] at he
    have hmem : e.unsequenced ∈ (B.post .deriveEffects).mirror.map MirrorEntry.unsequenced :=
      hmoves.mirror ▸ List.mem_map_of_mem he
    obtain ⟨e', he', heq⟩ := List.mem_map.mp hmem
    rw [State.post_mirror, hbase] at he'
    obtain ⟨e'', -, rfl⟩ := List.mem_map.mp he'
    exact (congrArg MirrorEntry.state heq).symm
  · rw [hsects] at hr
    obtain ⟨r', hr', heq⟩ := mem_demanded hr
    rw [hrestarted] at hr'
    obtain ⟨r'', hr'', rfl⟩ := List.mem_map.mp hr'
    rw [heq]
    exact hfeeders r'' hr''
  · rw [htable] at hx
    have hhost := hosts x hx
    rw [hk] at hhost
    exact absurd hhost Bool.false_ne_true

/-- The notices of a restart, in order. -/
theorem State.restart_posts (hn : (s.mirror.map (·.el)).Nodup) :
    s.restart = (s.restartBase.withLines s.restartMoved).posts
      ([.deriveEffects] ++ (s.restartLinkNotes ++ (List.range s.tsv.sects.length).map .derive)) := by
  have hsame := (s.restart_moves hn).same
  have hcount : s.restartBase.tsv.sects.length = s.tsv.sects.length := by
    rw [s.restartBase_eq]
    exact List.length_map ..
  rw [s.restart_eq, ← hcount]
  generalize s.restartBase = B at hsame
  generalize s.restartMoved = C at hsame
  have hposted : C = (B.withLines C).posts ([.deriveEffects] ++ s.restartLinkNotes) := by
    rw [← State.posts_posts]
    exact hsame
  rw [State.deriveAll, ← List.append_assoc, ← State.posts_posts, ← hposted]
  rw [hsame]
  rfl

/-- R16, R36: a restart runs out: what the host's incidents ask for is handed over, then the losses are raised. -/
theorem State.restart_runs (ha : s.agenda = []) (ht : s.tablesBounded) : ∃ v : State, Handed s.restartFound v ∧
    LossesRaised v (settle s.restart) (lossKeys s.restartLinkNotes) [] s.restartLinkNotes.length := by
  obtain ⟨hstations, -, hsects, -, -, hnodup⟩ := id ht
  have hmoves := s.restart_moves hnodup
  have hrestarting := s.restartFound_restarting ha
  have hcounts : s.restartFound.tsv.sects.length = s.tsv.sects.length ∧ s.restartFound.stationCount = s.stationCount := by
    have hbase := s.restartBase_eq
    have hfound : s.restartFound = (s.restartBase.withLines s.restartMoved).latch := rfl
    generalize s.restartBase = B at hbase hfound
    rw [hfound, hbase]
    exact ⟨List.length_map .., rfl⟩
  obtain ⟨v, k, hk, htakes, hhanded⟩ := hrestarting.handOver (Nat.le_trans (Nat.le_of_eq hcounts.1) hsects)
  obtain ⟨hva, hvc, hvcount, hvmirror, hvfeeders, hvhost⟩ := hhanded.restarted s ht
  have hvlatch : v.latch = v := State.latch_current v hvc
  have hkeys : (lossKeys s.restartLinkNotes).Nodup := by
    rw [s.lossKeys_restartLinkNotes]
    exact List.nodup_range.filter _
  obtain ⟨t, j, hl, hlosses, hj⟩ := LossesRaised.run (u := v) (ns := s.restartLinkNotes) (hva.trans ha)
    (hvlatch.symm ▸ hhanded.handOvers) hvhost s.restartLinkNotes_ofPass hkeys
    (Nat.le_trans s.restartLinkNotes_length (by decide)) hvmirror hvfeeders (Nat.le_trans (Nat.le_of_eq hvcount) hsects)
  rw [hvlatch, s.stateReports_restartLinkNotes] at hl
  rw [hvlatch, hvcount] at hlosses
  have hsettle : settle s.restart = t := by
    rw [s.restart_posts hnodup]
    have hbound : s.stationCount ≤ 32 := hstations
    exact settle_of_takes (htakes.append hlosses) (by omega)
  refine ⟨v, hhanded, ?_⟩
  rwa [hsettle]

end

end Sys2Proof.Machine
end

section
/-! SUPPORT. O26: the records, the links and the reports behind a warm restart. -/
namespace Sys2Proof.Machine

/-! ### What a restart keeps (R16) -/

section
variable (s : State)

theorem State.restart_lds : (settle s.restart).lds =
    { s.lds with service := if s.lds.committed then .configured else .unconfigured } := by
  obtain ⟨t, ht, hr⟩ := s.restart_fixed_eq
  rw [lds_of_fixed ((settle_fixed _).trans hr), ← lds_of_fixed ht]
  rfl

theorem State.restart_clock : (settle s.restart).clock = s.clock := by
  obtain ⟨t, ht, hr⟩ := s.restart_fixed_eq
  rw [clock_of_fixed ((settle_fixed _).trans hr), ← clock_of_fixed ht]
  rfl

theorem State.restart_triggers : (settle s.restart).anp.triggers = s.anp.triggers := by
  obtain ⟨t, ht, hr⟩ := s.restart_fixed_eq
  rw [triggers_of_fixed ((settle_fixed _).trans hr), ← triggers_of_fixed ht]
  rfl

end

/-! ### The unit behind a restart -/

section
variable {s v t : State}

/-- R16: the unit behind a restart, but for its reports, its flags and what it has handed over. -/
theorem Handed.ends {ks : List Nat} {rs : List Report} {n : Nat} (h : Handed s.restartFound v)
    (hl : LossesRaised v t ks rs n) : t.heldSet = s.restartFound.heldSet ∧ t.demandSet = s.restartFound.demandSet ∧
      (∀ i, t.incidentLayer i = s.restartFound.incidentLayer i) ∧ t.causesNow.powerAlert = v.causesNow.powerAlert ∧
      ∃ autos,
        (∀ x ∈ autos, x.silent ∧ ∃ k ∈ ks, x.mark = lossMark k) ∧
        (v.inc.table.length + ks.length ≤ 32 → autos.map Incident.mark = ks.map lossMark) ∧
        t = { s.restartBase with
          links := s.restartMoved.links
          mirror := s.restartMoved.mirror
          inc := { s.restartBase.inc with table := s.restartBase.inc.table ++ autos, next := t.inc.next,
                                          lastHeld := t.heldSet, lastDemand := t.demandSet,
                                          lastContent := v.inc.lastContent }
          rgl := { s.restartBase.rgl with heldStations := t.heldSet }
          tsv := { s.restartBase.tsv with sects := demanded t.demandSet s.restartBase.tsv.sects }
          anp := { s.restartBase.anp with stations := v.anp.stations }
          hpt := t.hpt } := by
  obtain ⟨autos, hsame, hautos, hmarks⟩ := hl.same
  have hsilent := fun x hx => (hautos x hx).1
  have hheld : t.heldSet = s.restartFound.heldSet := by
    rw [hsame, State.withAutos_heldSet hsilent, h.heldSet]
  have hdemand : t.demandSet = s.restartFound.demandSet := by
    rw [hsame, State.withAutos_demandSet hsilent, h.demandSet]
  refine ⟨hheld, hdemand, fun i => ?_, ?_, autos, hautos, hmarks, ?_⟩
  · rw [hsame, State.withAutos_incidentLayer hsilent, h.incidentLayer]
  · rw [hsame]
    rfl
  · have hvsame := h.same
    have hfound : s.restartFound = (s.restartBase.withLines s.restartMoved).latch := rfl
    rw [hheld, hdemand]
    refine hsame.trans ?_
    generalize s.restartFound.heldSet = held at hvsame
    generalize s.restartFound.demandSet = demand at hvsame
    generalize v.inc.lastContent = contents at hvsame
    generalize v.anp.stations = stations at hvsame
    rw [hvsame, hfound]
    generalize s.restartBase = B
    generalize s.restartMoved = C
    rfl

/-! ### The links of a restart -/

/-- R36: the links behind a restart, each as it moves by its carrier. -/
theorem State.restartMoved_link (hn : (s.mirror.map (·.el)).Nodup) {i : Nat} {l : LinkRec} (hi : i < 8)
    (hl : s.links[i]? = some l) :
    (l.cfg = none → s.restartMoved.links[i]? = some (LinkRec.reset l.carrier)) ∧
    (l.cfg ≠ none → ∃ x, s.restartMoved.links[i]? = some x ∧
      { x with polls := [], sender := none } =
        { LinkRec.reset l.carrier with cfg := l.cfg, state := if l.carrier = true then .up else .down } ∧
      (l.carrier = false → x.polls = [] ∧ x.sender = none) ∧
      (l.carrier = true → ∀ e ∈ s.mirror, e.link = i →
        e.el ∈ x.polls ∨ ∃ q left, x.sender = some { what := .poll e.el e.addr q, left := left })) := by
  have hmoved := (s.restart_moves hn).moved i (List.mem_range.mpr hi)
  have hold : (s.restartBase.post .deriveEffects).links[i]? = some l.restarted := by
    rw [State.post_links, s.restartBase_eq, List.getElem?_map, hl]
    rfl
  obtain ⟨hunused, hused⟩ := hmoved l.restarted hold rfl
  refine ⟨fun hc => ?_, fun hc => ?_⟩
  · rw [hunused hc, LinkRec.restarted, hc]
    rfl
  · obtain ⟨x, hx, ⟨hbase, hpolled⟩, hlost⟩ := hused hc
    refine ⟨x, hx, hbase, hlost, fun hca e he hlink => ?_⟩
    have hmem : e.toUnknown.unsequenced ∈ s.restartBase.mirror.map MirrorEntry.unsequenced := by
      rw [s.restartBase_eq]
      exact List.mem_map_of_mem (List.mem_map_of_mem he)
    have hcarrier : l.restarted.carrier = true := hca
    rw [if_pos hcarrier] at hpolled
    exact hpolled e.toUnknown.unsequenced (List.mem_filter.mpr ⟨hmem, beq_iff_eq.mpr hlink⟩)

/-- R35: a restart clears the error marks of every link. -/
theorem State.restartMoved_anyError (hn : (s.mirror.map (·.el)).Nodup) (h8 : s.links.length = 8) :
    s.restartMoved.links.any LinkRec.anyError = false := by
  rw [List.any_eq_false]
  intro x hx
  obtain ⟨i, hi⟩ := List.mem_iff_getElem?.mp hx
  by_cases hlt : i < 8
  · have hget : s.links[i]? = some (s.links[i]'(h8 ▸ hlt)) := List.getElem?_eq_getElem _
    generalize s.links[i]'(h8 ▸ hlt) = l at hget
    obtain ⟨hunused, hused⟩ := State.restartMoved_link hn hlt hget
    by_cases hc : l.cfg = none
    · obtain rfl := Option.some.inj (hi.symm.trans (hunused hc))
      exact Bool.false_ne_true
    · obtain ⟨y, hy, hbase, -⟩ := hused hc
      obtain rfl := Option.some.inj (hi.symm.trans hy)
      have herr := congrArg LinkRec.anyError hbase
      exact fun ht => Bool.false_ne_true (herr.symm.trans ht)
  · have hnone : s.restartMoved.links[i]? = none := by
      refine ((s.restart_moves hn).other i (by simpa using hlt)).trans ?_
      rw [State.post_links, s.restartBase_eq]
      exact List.getElem?_eq_none (by rw [List.length_map]; omega)
    exact absurd (hi.symm.trans hnone) nofun

/-- R36: the mirror behind a restart, but for its sequences. -/
theorem State.restartMoved_mirror (hn : (s.mirror.map (·.el)).Nodup) :
    s.restartMoved.mirror.map MirrorEntry.unsequenced = s.mirror.map (fun e => e.toUnknown.unsequenced) := by
  rw [(s.restart_moves hn).mirror, State.post_mirror, s.restartBase_eq, List.map_map]
  rfl

/-! ### The host port behind a restart (R176, R178) -/

theorem State.restartBase_hpt : s.restartBase.hpt =
    { s.hpt with reports := s.restartLines.hpt.reports, flags := Conditions.restart, causes := Causes.none } := by
  rw [s.restartBase_eq, s.restartBase_flags]

theorem State.restartFound_hpt : s.restartFound.hpt =
    { s.hpt with reports := s.restartLines.hpt.reports
                 flags := Conditions.restart.latch Causes.none s.restartFound.causesNow
                 causes := s.restartFound.causesNow } := by
  have hhpt := s.restartBase_hpt
  have hfound : s.restartFound = (s.restartBase.withLines s.restartMoved).latch := rfl
  generalize s.restartFound = w at hfound ⊢
  rw [hfound]
  generalize s.restartBase = B at hhpt ⊢
  generalize s.restartMoved = C
  rw [State.latch_hpt, State.withLines, hhpt]
  rfl

theorem State.restartFound_linkFault :
    s.restartFound.causesNow.linkFault = s.restartMoved.links.any LinkRec.anyError := by
  have hfound : s.restartFound = (s.restartBase.withLines s.restartMoved).latch := rfl
  generalize s.restartFound = w at hfound ⊢
  rw [hfound]
  generalize s.restartBase = B
  generalize s.restartMoved = C
  rfl

theorem Handed.hpt (h : Handed s.restartFound v) : v.hpt = s.restartFound.hpt := by
  rw [h.same]

/-- R178: the flags of a restart follow what stands behind it. -/
theorem Handed.flags (h : Handed s.restartFound v) (hn : (s.mirror.map (·.el)).Nodup) (h8 : s.links.length = 8) :
    v.hpt.flags = { Conditions.none with restarted := true, powerAlert := v.causesNow.powerAlert,
                                         incidentOpen := v.causesNow.incidentOpen } ∧
      v.hpt.flags.incidentOpen = v.hpt.causes.incidentOpen := by
  have hfault : s.restartFound.causesNow.linkFault = false :=
    State.restartFound_linkFault.trans (State.restartMoved_anyError hn h8)
  rw [h.hpt, s.restartFound_hpt, h.causesNow]
  generalize s.restartFound.causesNow = c at hfault
  simp only [Conditions.latch, Conditions.restart, Conditions.none, Causes.none, hfault]
  simp

theorem Handed.reports (h : Handed s.restartFound v) : v.hpt.reports = s.restartLines.hpt.reports := by
  rw [h.hpt, s.restartFound_hpt]

theorem HostGrown.raisedOnly {b p : HostPort} {n : Nat} {q : Prop} (h : HostGrown b p [] n q) (hb : b.reports = []) :
    (∀ r ∈ p.reports, r.kind = .incidentRaised) ∧ (n = 0 → p.reports = []) := by
  obtain ⟨rest, hrest, hlen, hkinds, hsub, -⟩ := h.reports
  rw [hb, List.nil_append] at hrest
  have hnone : linkStates rest = [] := List.sublist_nil.mp hsub
  rw [hrest]
  refine ⟨fun r hr => ?_, fun hn => List.eq_nil_of_length_eq_zero (by omega)⟩
  rcases hkinds r hr with hk | hk
  · have hmem : r ∈ linkStates rest := List.mem_filter.mpr ⟨hr, beq_iff_eq.mpr hk⟩
    exact absurd (hnone ▸ hmem) List.not_mem_nil
  · exact hk

end

end Sys2Proof.Machine
end

section
/-! SUPPORT. O26 settled. -/
namespace Sys2Proof.Machine

section
variable {s t v : State}

/-- R110: the sections behind a restart. -/
theorem demanded_restarted (set : List Nat) (l : List SectRec) : demanded set (l.map SectRec.restarted) =
    l.mapIdx (fun i r => { SectRec.built r.feeders with lockout := r.lockout, demand := set.contains i }) := by
  refine List.ext_getElem? fun i => ?_
  simp only [demanded, List.getElem?_mapIdx, List.getElem?_map, Option.map_map]
  rfl

/-- R168: a station behind a restart. -/
theorem Handed.station_restarted {i : Nat} {r : StationRec} (h : Handed s.restartFound v) (hi : i < s.stationCount)
    (hr : s.station? i = some r) : v.station? i = some { r.restarted with incident := s.restartFound.incidentLayer i } := by
  have hfound : s.restartFound.stationCount = s.stationCount ∧ s.restartFound.station? i = some r.restarted := by
    have hbase := s.restartBase_eq
    have hw : s.restartFound = (s.restartBase.withLines s.restartMoved).latch := rfl
    generalize s.restartBase = B at hbase hw
    rw [hw, hbase]
    refine ⟨rfl, ?_⟩
    have hget : s.anp.stations[i]? = some r := hr
    change (s.anp.stations.map StationRec.restarted)[i]? = _
    rw [List.getElem?_map, hget]
    rfl
  rw [h.station i (hfound.1.symm ▸ hi), hfound.2]
  rfl

/-- R139: the incidents behind a restart: the host's are kept, and those of the losses follow. -/
theorem State.restart_incidents {autos : List Incident} {ks : List Nat}
    (ht : t.inc.table = s.restartBase.inc.table ++ autos) (hautos : ∀ x ∈ autos, ∃ k ∈ ks, x.mark = lossMark k) :
    t.inc.table.filter (fun x => x.kind.isHost) = s.restartBase.inc.table ∧
      t.inc.table.filter (fun x => !x.kind.isHost) = autos := by
  have hosts := s.restartBase_isHost
  have hnothost : ∀ x ∈ autos, x.kind.isHost = false := by
    intro x hx
    obtain ⟨k, -, hmark⟩ := hautos x hx
    have hkind : x.kind = .linkLoss := congrArg (·.1) hmark
    rw [hkind]
    rfl
  rw [ht, List.filter_append, List.filter_append]
  constructor
  · rw [List.filter_eq_self.mpr hosts, List.filter_eq_nil_iff.mpr (fun x hx => by rw [hnothost x hx]; exact Bool.false_ne_true),
      List.append_nil]
  · rw [List.filter_eq_nil_iff.mpr (fun x hx => by rw [hosts x hx]; exact Bool.false_ne_true),
      List.filter_eq_self.mpr (fun x hx => by rw [hnothost x hx]; rfl), List.nil_append]

/-- R178: the flags behind a restart, where the incident table has had room. -/
theorem Handed.restart_flags {ks : List Nat} {n : Nat} (h : Handed s.restartFound v) (hl : LossesRaised v t ks [] n)
    (hn : (s.mirror.map (·.el)).Nodup) (h8 : s.links.length = 8) (hlen : n ≤ 8) (hroom : v.inc.table.length + ks.length ≤ 32)
    (halert : t.causesNow.powerAlert = v.causesNow.powerAlert) :
    t.hpt.flags = { Conditions.none with restarted := true, powerAlert := t.causesNow.powerAlert,
                                         incidentOpen := t.causesNow.incidentOpen } := by
  obtain ⟨hflags, hopen⟩ := h.flags hn h8
  have hfew : v.hpt.reports.length + n ≤ 64 := by
    have hreports := s.restartLines_reports
    rw [h.reports]
    omega
  have hlatched : t.hpt.flags.incidentOpen = t.causesNow.incidentOpen := by rw [hl.opened hopen, hl.causes]
  rw [hl.host.flags hfew hroom, hflags, hlatched, halert]

theorem Handed.table (h : Handed s.restartFound v) : v.inc.table = s.restartBase.inc.table ∧
    v.inc.next = s.inc.next := by
  have hnext : s.restartBase.inc.next = s.inc.next := by
    rw [s.restartBase_eq]
    rfl
  have hfound : s.restartFound = (s.restartBase.withLines s.restartMoved).latch := rfl
  have hsame := h.same
  generalize s.restartFound = w at hfound hsame
  rw [hsame, hfound, ← hnext]
  exact ⟨rfl, rfl⟩

/-- R22, R36: no report but of an incident, where no line was receiving; and none at all, where every used link has
carrier. -/
theorem Handed.restart_reports (h : Handed s.restartFound v)
    (hl : LossesRaised v t (lossKeys s.restartLinkNotes) [] s.restartLinkNotes.length)
    (hh : ∀ l ∈ s.links, l.asm = .hunting) : (∀ r ∈ t.hpt.reports, r.kind = .incidentRaised) ∧
      ((∀ l ∈ s.links, l.cfg ≠ none → l.carrier = true) → t.hpt.reports = [] ∧ t.inc.next = s.inc.next) := by
  obtain ⟨hraised, hempty⟩ := hl.host.raisedOnly (h.reports.trans (s.restartLines_hunting hh))
  refine ⟨hraised, fun hcarrier => ?_⟩
  have hnotes := s.restartLinkNotes_nil hcarrier
  rw [hnotes] at hempty
  refine ⟨hempty rfl, (hl.next ?_).trans h.table.2⟩
  rw [hnotes]
  rfl

end

/-- Settles O26. -/
theorem warmRestartKeepsTheDescription : Obligations.WarmRestartKeepsTheDescription := by
  unfold Obligations.WarmRestartKeepsTheDescription
  have hexec (tag : Byte) (s : State) (hs : s.ready) :
      exec (.warmRestart tag []) s = .next (settle (s.framed.done tag []).restart) :=
    exec_settles (kind := 0x1A#8) rfl (by simp) hs rfl
  constructor
  · intro tag s hs
    have hlds := (s.framed.done tag []).restart_lds
    have hclock := (s.framed.done tag []).restart_clock
    have htriggers := (s.framed.done tag []).restart_triggers
    have hsettings := (settings_of_fixed (settle_fixed _)).trans (s.framed.done tag []).restart_settings
    have hworking := (working_of_fixed (settle_fixed _)).trans (s.framed.done tag []).restart_working
    obtain ⟨hreg, hhpt, hrgl⟩ := (s.framed.done tag []).restart_blocks
    refine ⟨_, hexec tag s hs, rfl, ?_⟩
    generalize settle (s.framed.done tag []).restart = t at hlds hclock htriggers hsettings hworking ⊢
    simp only [State.settings, State.working, Prod.mk.injEq] at hsettings hworking
    obtain ⟨-, hrate, ⟨hcond, hclass, hattention⟩, hstaging⟩ := hsettings
    obtain ⟨hbeta, hthreshold⟩ := hworking
    generalize (s.framed.done tag []).restart = r at hreg hhpt hrgl ⊢
    refine ⟨hlds, hclock, hrate, hcond, hclass, hattention, hstaging, htriggers, hbeta, hthreshold, hreg, ?_, ?_, ?_⟩
    · rw [hhpt, State.restartBase_hpt]
      rfl
    · rw [hhpt, State.restartBase_hpt]
      rfl
    · rw [hrgl, State.restartBase_eq]
      exact fun st hst => List.eq_of_mem_replicate hst
  · intro tag s hs hlinks htables hcommitted
    refine ⟨_, hexec tag s hs, ?_⟩
    obtain ⟨h8, -⟩ := hlinks
    have hcount : s.links.length = 8 := h8
    obtain ⟨-, -, -, -, -, hnodup⟩ := id htables
    let d := s.framed.done tag []
    have hdnodup : (d.mirror.map (·.el)).Nodup := hnodup
    obtain ⟨v, hhanded, hl⟩ := d.restart_runs hs.1.framed.1 htables
    obtain ⟨-, -, hlayer, halert, autos, hautos, hmarks, hends⟩ := hhanded.ends hl
    have hlink := fun i l => State.restartMoved_link (i := i) (l := l) hdnodup
    have hmirror := State.restartMoved_mirror hdnodup
    have hstation := fun i r => hhanded.station_restarted (i := i) (r := r)
    have hreplies : (settle d.restart).hpt.replies = d.hpt.replies := by
      rw [hl.host.same, hhanded.hpt, State.restartFound_hpt]
    have hbase := d.restartBase_eq
    simp only [← hlayer] at hstation
    have hreports := hhanded.restart_reports hl
    have hkeys := d.lossKeys_restartLinkNotes
    have hnotes := d.restartLinkNotes_length
    have hvtable := hhanded.table.1
    have hbtable := d.restartBase_table
    have hflags := fun hroom => hhanded.restart_flags hl hdnodup hcount hnotes hroom halert
    have hincidents := fun hall => State.restart_incidents (s := d) (t := settle d.restart) (autos := autos)
      (ks := lossKeys d.restartLinkNotes) hall fun x hx => (hautos x hx).2
    generalize settle d.restart = t at *
    generalize d.restartBase = B at hends hbase hincidents hvtable hbtable
    generalize d.restartMoved = C at hends hmirror hlink
    refine ⟨hreplies, ?_, ?_, ?_, ?_, ?_, ?_, ?_, ?_, ?_, ?_, ?_⟩
    · exact (congrArg (fun u : State => u.mirror.map MirrorEntry.unsequenced) hends).trans hmirror
    · rw [hends, hbase]
      exact if_pos hcommitted
    · rw [hends, hbase]
    · have hrgl : t.rgl = { B.rgl with heldStations := t.heldSet } := congrArg State.rgl hends
      have hcleared : B.rgl = Regulator.cleared s.rgl.beta s.rgl.threshold s.sectCount := by
        rw [hbase]
        exact congrArg (Regulator.cleared s.rgl.beta s.rgl.threshold) (if_pos hcommitted)
      rw [hrgl, hcleared]
    · have htsv : t.tsv = { B.tsv with sects := demanded t.demandSet B.tsv.sects } := congrArg State.tsv hends
      have hrestarted : B.tsv = s.tsv.restarted := by
        rw [hbase]
        rfl
      rw [htsv, hrestarted, ← demanded_restarted]
      rfl
    · intro i l hold hc
      have hi : i < 8 := hcount ▸ (List.getElem?_eq_some_iff.mp hold).1
      exact (congrArg (fun u : State => u.links[i]?) hends).trans ((hlink i l hi hold).1 hc)
    · intro i l hold hc
      have hi : i < 8 := hcount ▸ (List.getElem?_eq_some_iff.mp hold).1
      obtain ⟨x, hx, hmoved⟩ := (hlink i l hi hold).2 hc
      exact ⟨x, (congrArg (fun u : State => u.links[i]?) hends).trans hx, hmoved⟩
    · intro i r hr hi
      exact (congrArg (fun u : State => u.anp.stations[i]?) hends).trans (hstation i r hi hr)
    · exact congrArg (fun u : State => u.inc.lastHeld) hends
    · exact congrArg (fun u : State => u.inc.lastDemand) hends
    · intro hfew
      obtain ⟨hhosts, hautosOnly⟩ := hincidents (congrArg (fun u : State => u.inc.table) hends)
      have hroom : v.inc.table.length + (lossKeys d.restartLinkNotes).length ≤ 32 := by
        have hlost : (lossKeys d.restartLinkNotes).length ≤ (List.range 8).length := by
          rw [hkeys]
          exact List.length_filter_le ..
        have hkept : v.inc.table.length ≤ 24 := by
          rw [hvtable, hbtable, List.length_map]
          exact hfew
        rw [List.length_range] at hlost
        omega
      refine ⟨hhosts.trans hbtable, ?_, hflags hroom, hreports⟩
      rw [hautosOnly]
      refine (hmarks hroom).trans ?_
      rw [hkeys]
      rfl

end Sys2Proof.Machine
end
